-- ==== Sys2Proof/Word.lean ====
section
/-! DEFINITION. The plain types the model is written in: octets, pace counts, numbered things, and tables
(a fixed number of like things, indexed from 0). -/

namespace Sys2Proof

/-- One octet of a cell. -/
abbrev Byte := BitVec 8

/-- A pace count, or a deadline given as one: 32 bits, wrapping (00_scope.md, Pace time; R21). -/
abbrev PaceCount := BitVec 32

/-- A 32-bit wrapping event counter (R4, R56, R161). -/
abbrev Counter := BitVec 32

/-- Streams 0 to 511. -/
abbrev StreamNo := Fin 512

/-- Trunk lanes L0 to L15. -/
abbrev LaneNo := Fin 16

/-- Edge ports E0 to E5. -/
abbrev PortNo := Fin 6

/-- Lane groups G0 to G3. -/
abbrev GroupNo := Fin 4

/-- `n` like things, numbered from 0. -/
abbrev Table (n : Nat) (α : Type) := Vector α n

/-- The member of a table at an index. -/
def Table.read {n : Nat} {α : Type} (t : Table n α) (i : Fin n) : α := t[i.val]

/-- A table with one member replaced. -/
def Table.write {n : Nat} {α : Type} (t : Table n α) (i : Fin n) (x : α) : Table n α :=
  t.set i.val x i.isLt

/-- A table with every member changed by the same function. -/
def Table.mapAll {n : Nat} {α β : Type} (f : α → β) (t : Table n α) : Table n β :=
  ⟨⟨t.toList.map f⟩, by simp⟩

/-- A table whose members are all the same. -/
def Table.const (n : Nat) {α : Type} (x : α) : Table n α := ⟨⟨List.replicate n x⟩, by simp⟩

/-- The indices, from `k` on, of the members of a list that pass a test. -/
def indicesFrom {α : Type} (n : Nat) (p : α → Bool) : List α → Nat → List (Fin n)
  | [], _ => []
  | x :: xs, k =>
    if h : k < n then
      if p x then ⟨k, h⟩ :: indicesFrom n p xs (k + 1) else indicesFrom n p xs (k + 1)
    else []

/-- The indices of a table's members that pass a test, in ascending order. -/
def Table.indicesWhere {n : Nat} {α : Type} (t : Table n α) (p : α → Bool) : List (Fin n) :=
  indicesFrom n p t.toList 0

/-- A table of octets from a list: cut to length, or filled up with zero octets. -/
def octetTable (n : Nat) (l : List Byte) : Table n Byte :=
  ⟨⟨(l ++ List.replicate n 0).take n⟩, by simp⟩

/-- The 56-octet payload of a cell. -/
abbrev Payload := Table 56 Byte

/-- A whole 64-octet cell, octet 0 first (00_scope.md, Numbering and values). -/
abbrev Cell := Table 64 Byte

end Sys2Proof
end

