-- ==== Sys2Proof/Config.lean ====
section
/-! DEFINITION. What is fixed for every VQ-616: capacities, run lengths and the identification. The manual leaves no
value undefined, so no free value stands here; where it leaves an ORDER open, State's `turns` decides (log 6). -/

namespace Sys2Proof.Config

/-- The cell pool's buffers (R104). -/
def poolSize : Nat := 2048

/-- Places of a management request queue (R142). -/
def requestCapacity : Nat := 4

/-- Places of a response queue, held and reserved together (R142). -/
def responsePlaces : Nat := 8

/-- The most ordinary reports the report queue holds; the 32nd place is kept for REPORT_LOST (R133, R134). -/
def ordinaryReports : Nat := 31

/-- The greatest occurrences of a notice entry, where it saturates (R131). -/
def occurrencesMax : Nat := 255

/-- Consecutive header check failures that lose alignment (R160, R162). -/
def failuresToLose : Nat := 7

/-- Consecutive passing header checks, 64 octets apart, that gain alignment (R160, R162). -/
def cellsToAlign : Nat := 6

/-- Vendor code (R149). -/
def vendorCode : Nat := 0x53

/-- Part code (R149). -/
def partCode : Nat := 0x0616

/-- Revision (R149). -/
def revision : Nat := 1

/-- The age at which the age of a request entry is capped (R39). -/
def ageCap : Nat := 2 ^ 31 - 1

end Sys2Proof.Config
end

