-- ==== Sys2Proof/Syntax.lean ====
section
/-! DEFINITION. The commands of the block: one constructor of `Instr` for each row of spec/opcode_table.json,
with the operands the row's event carries. -/

namespace Sys2Proof

/-- A traffic cell as the admission unit reads it and the queue manager holds it: stream number, sequence
number, flags and payload (R97, R104). -/
structure TrafficCell where
  stream   : StreamNo
  sequence : Byte
  flags    : BitVec 4
  payload  : Payload
  deriving DecidableEq, Repr

/-- A management request as a port's request queue holds it: command code, tag and payload (R142). The header's
lane, stream, sequence and flags are ignored (R146). -/
structure Request where
  code    : Byte
  tag     : Byte
  payload : Payload
  deriving DecidableEq, Repr

/-- The commands. A management command (READ_DEVICE to UNKNOWN_COMMAND_CODE) has no operand: it is the agent's
taking of the request at the head of the first eligible port's queue (R145), and what it names stands in that
request's payload. -/
inductive Instr where
  | powerOnReset
  | stroke
  | answerDeadlineExpiry (lane : LaneNo)
  | holdDeadlineExpiry (lane : LaneNo)
  | settleDeadlineExpiry (stream : StreamNo)
  | commitDeadlineExpiry
  | budgetEntryAgeOut
  | spacingExpiry
  | arbiterPass
  | laneSlot (lane : LaneNo)
  | drainCompletion (stream : StreamNo)
  | edgeSlot (port : PortNo)
  | edgeLinkUp (port : PortNo)
  | edgeLinkDown (port : PortNo)
  | laneAligned (lane : LaneNo)
  | laneAlignmentLost (lane : LaneNo)
  | trafficCellArrival (port : PortNo) (cell : TrafficCell)
  | requestCellArrival (port : PortNo) (request : Request)
  | edgeFillCell (port : PortNo)
  | edgeBadKindCell (port : PortNo) (kind : BitVec 4)
  | edgeBadCheckCell (port : PortNo)
  | bindAckAccept (lane : LaneNo) (tag : Byte)
  | bindAckRefuse (lane : LaneNo) (tag : Byte)
  | bindAckUnknownCode (lane : LaneNo) (tag : Byte) (code : Byte)
  | releaseAck (lane : LaneNo) (tag : Byte)
  | resetAck (lane : LaneNo) (tag : Byte)
  | pause (lane : LaneNo) (tag : Byte)
  | resume (lane : LaneNo) (tag : Byte)
  | trunkOtherKindCell (lane : LaneNo) (kind : BitVec 4)
  | trunkFillCell (lane : LaneNo)
  | trunkBadCheckCell (lane : LaneNo)
  | disablePendingApplied (lane : LaneNo)
  | streamImageApplication (stream : StreamNo)
  | deviceApplication
  | commitResponse
  | readDevice
  | readPort
  | readLane
  | readStream
  | readNotices
  | stageDevice
  | stagePort
  | stageStream
  | discard
  | commit
  | openStream
  | closeStream
  | closeStreamDiscard
  | clearHold
  | timerControlRun
  | timerControlStop
  | timerControlPreset
  | ackNotice
  | laneControlEnable
  | laneControlDisable
  | laneControlRetire
  | laneControlRecover
  | restart
  | unknownCommandCode
  | resetPinAsserted
  deriving DecidableEq, Repr

end Sys2Proof
end

