-- ==== Sys2Proof/WellFormed.lean ====
section
/-! DEFINITION. Which commands are well formed. Numbers of streams, lanes and ports are in range by their types;
what is left to check is that a command named for "any other kind" or "any other code" carries such a one. -/

namespace Sys2Proof

/-- A kind that an edge port takes inbound: FILL, TRAFFIC or REQUEST (R161, codes of R167). -/
def edgeKindTaken (kind : BitVec 4) : Bool := kind == 0x0 || kind == 0x1 || kind == 0x2

/-- A kind that the trunk receiver takes inbound: FILL, PAUSE, RESUME, BIND-ACK, RELEASE-ACK or RESET-ACK (R163,
codes of R167). -/
def trunkKindTaken (kind : BitVec 4) : Bool :=
  kind == 0x0 || kind == 0x6 || kind == 0x7 || kind == 0xC || kind == 0xD || kind == 0xE

/-- The BIND-ACK codes that are answers: ACCEPT 0x01 and REFUSE 0x02 (R168). -/
def bindCodeKnown (code : Byte) : Bool := code == 0x01 || code == 0x02

/-- The well-formed commands. -/
def Instr.wellFormed : Instr → Bool
  | .edgeBadKindCell _ kind => !edgeKindTaken kind
  | .trunkOtherKindCell _ kind => !trunkKindTaken kind
  | .bindAckUnknownCode _ _ code => !bindCodeKnown code
  | .powerOnReset | .stroke | .answerDeadlineExpiry _ | .holdDeadlineExpiry _ | .settleDeadlineExpiry _
  | .commitDeadlineExpiry | .budgetEntryAgeOut | .spacingExpiry | .arbiterPass | .laneSlot _
  | .drainCompletion _ | .edgeSlot _ | .edgeLinkUp _ | .edgeLinkDown _ | .laneAligned _
  | .laneAlignmentLost _ | .trafficCellArrival _ _ | .requestCellArrival _ _ | .edgeFillCell _
  | .edgeBadCheckCell _ | .bindAckAccept _ _ | .bindAckRefuse _ _ | .releaseAck _ _ | .resetAck _ _
  | .pause _ _ | .resume _ _ | .trunkFillCell _ | .trunkBadCheckCell _ | .disablePendingApplied _
  | .streamImageApplication _ | .deviceApplication | .commitResponse | .readDevice | .readPort | .readLane
  | .readStream | .readNotices | .stageDevice | .stagePort | .stageStream | .discard | .commit | .openStream
  | .closeStream | .closeStreamDiscard | .clearHold | .timerControlRun | .timerControlStop
  | .timerControlPreset | .ackNotice | .laneControlEnable | .laneControlDisable | .laneControlRetire
  | .laneControlRecover | .restart | .unknownCommandCode | .resetPinAsserted => true

end Sys2Proof
end

