-- ==== Sys2Proof/Decode.lean ====
section
/-! DEFINITION. `decodeTableWord` over the rows that give bits (none does), and the formats of chapter 10: octet and
multi-octet helpers, the header check, the cell layout, which command an inbound cell is, and the search for a boundary
(R160). -/

namespace Sys2Proof

/-- The command that a word spells by the opcode table's bits: no row of the table gives any bits. -/
def decodeTableWord (_nbits _w : Nat) : Option Instr := none

/-- Octet `k` of a table of octets, zero beyond its end. -/
def octetAt {n : Nat} (t : Table n Byte) (k : Nat) : Byte := t.toList.getD k 0

/-- The number in octets `k` and `k + 1`, most significant first (R166). -/
def word16At {n : Nat} (t : Table n Byte) (k : Nat) : Nat :=
  (octetAt t k).toNat * 256 + (octetAt t (k + 1)).toNat

/-- A number below 256 as one octet. -/
def octet1 (n : Nat) : List Byte := [BitVec.ofNat 8 n]

/-- A number as two octets, most significant first (R166). -/
def octets2 (n : Nat) : List Byte := [BitVec.ofNat 8 (n / 256), BitVec.ofNat 8 n]

/-- A 32-bit count as four octets, most significant first (R166). -/
def octets4 (b : BitVec 32) : List Byte :=
  [b.extractLsb' 24 8, b.extractLsb' 16 8, b.extractLsb' 8 8, b.extractLsb' 0 8]

/-- A yes or no octet: 1 for yes (R173). -/
def octetOfBool (b : Bool) : List Byte := [if b then 1 else 0]

/-- One bit through the CRC register of generator x^16 + x^12 + x^5 + 1 (R165). -/
def crcBit (reg : BitVec 16) (bit : Bool) : BitVec 16 :=
  if reg.msb != bit then (reg <<< 1) ^^^ 0x1021 else reg <<< 1

/-- One octet through the CRC register, bit 7 first (R165). -/
def crcOctet (reg : BitVec 16) (o : Byte) : BitVec 16 :=
  [7, 6, 5, 4, 3, 2, 1, 0].foldl (fun r k => crcBit r (o.getLsbD k)) reg

/-- The header check over octets in order of transmission, the register starting at all ones and the result not
inverted (R165). -/
def headerCheck (octets : List Byte) : BitVec 16 := octets.foldl crcOctet 0xFFFF

/-- A cell's header without its check (R166). -/
structure Header where
  kind     : BitVec 4
  flags    : BitVec 4
  lane     : Nat
  stream   : StreamNo
  sequence : Byte
  tag      : Byte
  code     : Byte
  deriving DecidableEq, Repr

/-- Octets 0 to 5 of a header (R166): bits 3 to 1 of octet 1 are sent as 0. -/
def Header.octets (h : Header) : List Byte :=
  [h.kind ++ h.flags,
   BitVec.ofNat 8 (h.lane % 16 * 16 + h.stream.val / 256),
   BitVec.ofNat 8 h.stream.val,
   h.sequence, h.tag, h.code]

/-- A whole cell: header, header check, payload (R165, R166). -/
def formCell (h : Header) (p : Payload) : Cell :=
  octetTable 64
    (h.octets ++
      [(headerCheck h.octets).extractLsb' 8 8, (headerCheck h.octets).extractLsb' 0 8] ++ p.toList)

/-- The header a cell carries. -/
def Cell.header (c : Cell) : Header where
  kind := (octetAt c 0).extractLsb' 4 4
  flags := (octetAt c 0).extractLsb' 0 4
  lane := ((octetAt c 1).extractLsb' 4 4).toNat
  stream := Fin.ofNat 512 (((octetAt c 1).getLsbD 0).toNat * 256 + (octetAt c 2).toNat)
  sequence := octetAt c 3
  tag := octetAt c 4
  code := octetAt c 5

/-- The 56-octet payload a cell carries. -/
def Cell.payload (c : Cell) : Payload := octetTable 56 (c.toList.drop 8)

/-- Does a cell pass its header check (R165)? -/
def Cell.passes (c : Cell) : Bool :=
  headerCheck (c.toList.take 6) == octetAt c 6 ++ octetAt c 7

/-- Does the header check over the first six octets agree with the two that follow (R160)? -/
def checkPassesAtHead (octets : List Byte) : Bool :=
  headerCheck (octets.take 6) == octets.getD 6 0 ++ octets.getD 7 0

/-- Six consecutive cells pass, the first at octet position `k` and each of the others 64 octets on (R160). -/
def boundaryAt (octets : List Byte) (k : Nat) : Bool :=
  k + 64 * Config.cellsToAlign ≤ octets.length &&
    (List.range Config.cellsToAlign).all fun n => checkPassesAtHead (octets.drop (k + 64 * n))

/-- Kind values (R167). -/
def kindFill : BitVec 4 := 0x0
/-- Kind value of TRAFFIC (R167). -/
def kindTraffic : BitVec 4 := 0x1
/-- Kind value of REQUEST (R167). -/
def kindRequest : BitVec 4 := 0x2
/-- Kind value of RESPONSE (R167). -/
def kindResponse : BitVec 4 := 0x3
/-- Kind value of REPORT (R167). -/
def kindReport : BitVec 4 := 0x4
/-- Kind value of PAUSE (R167). -/
def kindPause : BitVec 4 := 0x6
/-- Kind value of RESUME (R167). -/
def kindResume : BitVec 4 := 0x7
/-- Kind value of BIND (R167). -/
def kindBind : BitVec 4 := 0x8
/-- Kind value of RELEASE (R167). -/
def kindRelease : BitVec 4 := 0x9
/-- Kind value of LANE-RESET (R167). -/
def kindLaneReset : BitVec 4 := 0xA
/-- Kind value of BIND-ACK (R167). -/
def kindBindAck : BitVec 4 := 0xC
/-- Kind value of RELEASE-ACK (R167). -/
def kindReleaseAck : BitVec 4 := 0xD
/-- Kind value of RESET-ACK (R167). -/
def kindResetAck : BitVec 4 := 0xE

/-- The command that a cell at the aligned boundary of an edge port is: the header check first, then the kind
(R161). The lane field is ignored. -/
def commandOfEdgeCell (p : PortNo) (c : Cell) : Instr :=
  let h := c.header
  if !c.passes then .edgeBadCheckCell p
  else if h.kind = kindTraffic then .trafficCellArrival p ⟨h.stream, h.sequence, h.flags, c.payload⟩
  else if h.kind = kindRequest then .requestCellArrival p ⟨h.code, h.tag, c.payload⟩
  else if h.kind = kindFill then .edgeFillCell p
  else .edgeBadKindCell p h.kind

/-- The command that a cell at the aligned boundary of a trunk lane is (R163, R168). The lane and stream fields
are ignored. -/
def commandOfTrunkCell (l : LaneNo) (c : Cell) : Instr :=
  let h := c.header
  if !c.passes then .trunkBadCheckCell l
  else if h.kind = kindFill then .trunkFillCell l
  else if h.kind = kindBindAck then
    if h.code = 0x01 then .bindAckAccept l h.tag
    else if h.code = 0x02 then .bindAckRefuse l h.tag
    else .bindAckUnknownCode l h.tag h.code
  else if h.kind = kindReleaseAck then .releaseAck l h.tag
  else if h.kind = kindResetAck then .resetAck l h.tag
  else if h.kind = kindPause then .pause l h.tag
  else if h.kind = kindResume then .resume l h.tag
  else .trunkOtherKindCell l h.kind

/-- The first boundary that a HUNTING receiver finds in the octets of its receive pair (R160): every octet position is
tried as a cell start. -/
def firstBoundary (octets : List Byte) : Option Nat := (List.range octets.length).find? (boundaryAt octets)

/-- The cell at the head of an octet stream. -/
def cellAtHead (octets : List Byte) : Cell := octetTable 64 (octets.take 64)

/-- The whole cells of an octet stream from its head on. -/
def cellsOf (octets : List Byte) : List Cell :=
  (List.range (octets.length / 64)).map fun n => cellAtHead (octets.drop (64 * n))

/-- What the octets of a receive pair are to a receiver, HUNTING (`none`) or ALIGNED with a run of failures (R160,
R162; log 14). HUNTING: at the first boundary the six cells that pass, and the gain of alignment; nothing while no
boundary is found. ALIGNED: each whole cell at the boundary, until the seventh failing one in a row, from whose end on
the receiver hunts again. The number of octets is fuel enough. -/
def receive (gain : Instr) (command : Cell → Instr) : Nat → Option Nat → List Byte → List Instr
  | 0, _, _ => []
  | n + 1, none, octets =>
    match firstBoundary octets with
    | some k =>
      (cellsOf ((octets.drop k).take (64 * Config.cellsToAlign))).map command ++
        gain :: receive gain command n (some 0) (octets.drop (k + 64 * Config.cellsToAlign))
    | none => []
  | n + 1, some failures, octets =>
    if octets.length < 64 then []
    else
      let cell := cellAtHead octets
      let run :=
        if cell.passes then some 0
        else if failures + 1 < Config.failuresToLose then some (failures + 1)
        else none
      command cell :: receive gain command n run (octets.drop 64)

/-- The commands that the octets of a HUNTING port's receive pair are (R160, R161). -/
def commandsOfEdgeOctets (p : PortNo) (octets : List Byte) : List Instr :=
  receive (.edgeLinkUp p) (commandOfEdgeCell p) octets.length none octets

/-- The commands that the octets of a HUNTING lane's receive pair are (R160, R162, R163), likewise. -/
def commandsOfTrunkOctets (l : LaneNo) (octets : List Byte) : List Instr :=
  receive (.laneAligned l) (commandOfTrunkCell l) octets.length none octets

end Sys2Proof
end

