-- ==== Sys2Proof/Machine/State.lean ====
section
/-! DEFINITION. The state of the block as plain data, all of it, and its value right after power-on reset. -/

namespace Sys2Proof.Machine

/-- How a DRAINING stream was closed (R3). -/
inductive DrainKind where
  | plain
  | discard
  deriving DecidableEq, Repr

/-- A stream's life state; the drain kind is present only in DRAINING (R3, R5). -/
inductive Life where
  | closed
  | opened
  | held
  | draining (kind : DrainKind)
  deriving DecidableEq, Repr

/-- A stream's timer state (R23). -/
inductive Timer where
  | running
  | stopPending
  | stopped
  deriving DecidableEq, Repr

/-- A stream configuration, every field but the generation: an active record (R1) or a staged image (R113). -/
structure StreamImage where
  sourcePort    : PortNo
  group         : GroupNo
  queueLimit    : Nat
  reload        : Nat
  leadPoint     : Option Nat
  creditCap     : Nat
  initialCredit : Nat
  holdTime      : Nat
  sequenceCheck : Bool
  runAtOpen     : Bool
  reportMask    : BitVec 6
  deriving DecidableEq, Repr

/-- The zeroed record of a stream of generation 0 (R2). -/
def StreamImage.zeroed : StreamImage where
  sourcePort := 0
  group := 0
  queueLimit := 0
  reload := 0
  leadPoint := none
  creditCap := 0
  initialCredit := 0
  holdTime := 0
  sequenceCheck := false
  runAtOpen := false
  reportMask := 0

/-- The stream causes (R130), in the order of the report mask's bits (R169). -/
inductive StreamCause where
  | seqGap | duplicateDrop | queueDrop | creditSaturated | held | laneLost
  deriving DecidableEq, Repr

/-- The lane causes (R130), in the order of the report mask's bits (R170). -/
inductive LaneCause where
  | answerTimeout | staleAnswer | strayControl | recoveryFailed
  deriving DecidableEq, Repr

/-- The port causes (R130), in the order of the report mask's bits (R170). -/
inductive PortCause where
  | badCheck | badKind | misrouted | linkDown | mgmtRefused | mgmtOverrun
  deriving DecidableEq, Repr

/-- The device causes (R130), in the order of the report mask's bits (R170). -/
inductive DeviceCause where
  | poolEmpty | trunkDown | commitLate | reportLost
  deriving DecidableEq, Repr

/-- A level, a target of that level and a cause of that level: what a raise names (R130). -/
inductive CausePoint where
  | device (cause : DeviceCause)
  | port (target : PortNo) (cause : PortCause)
  | lane (target : LaneNo) (cause : LaneCause)
  | stream (target : StreamNo) (cause : StreamCause)
  deriving DecidableEq, Repr

/-- An entry of a notice set (R131); the cause is its place in the set. -/
structure NoticeEntry where
  occurrences : Nat
  first       : PaceCount
  deriving DecidableEq, Repr

/-- A notice set of `n` causes: at most one entry for each (R131). -/
abbrev NoticeSet (n : Nat) := Table n (Option NoticeEntry)

/-- A report that waits in the report queue (R134); `linked` while it follows its entry (R135). -/
structure Report where
  point       : CausePoint
  first       : PaceCount
  occurrences : Nat
  linked      : Bool
  deriving DecidableEq, Repr

/-- One stream's configuration and dynamic state, over all its owners (R1, R3). -/
structure StreamRec where
  config         : StreamImage
  generation     : Nat
  staged         : Option StreamImage
  life           : Life
  refusals       : Nat
  admitted       : Counter
  launched       : Counter
  queueDrops     : Counter
  duplicateDrops : Counter
  sequenceGaps   : Counter
  count          : Nat
  credit         : Nat
  timer          : Timer
  queue          : List TrafficCell
  expected       : Option Byte
  heldLane       : Option LaneNo
  keptTime       : Option PaceCount
  commitPending  : Bool
  settle         : Option PaceCount
  notices        : NoticeSet 6
  deriving DecidableEq, Repr

/-- A stream after power-on reset (R2, R3, R23, R42, R98, R113, R131). -/
def StreamRec.reset : StreamRec where
  config := .zeroed
  generation := 0
  staged := none
  life := .closed
  refusals := 0
  admitted := 0
  launched := 0
  queueDrops := 0
  duplicateDrops := 0
  sequenceGaps := 0
  count := 0
  credit := 0
  timer := .stopped
  queue := []
  expected := none
  heldLane := none
  keptTime := none
  commitPending := false
  settle := none
  notices := Table.const 6 none

/-- The lane states (R57). -/
inductive LaneState where
  | down | recovering | free | binding | bound | unbinding | quarantined | disabled
  deriving DecidableEq, Repr

/-- The three handshakes (R61). -/
inductive Handshake where
  | bind | release | laneReset
  deriving DecidableEq, Repr

/-- A control cell that waits for a lane's slot (R84). -/
structure ControlCell where
  kind   : Handshake
  stream : StreamNo
  tag    : Byte
  deriving DecidableEq, Repr

/-- One lane: its lane record (R56), its waiting control cell (R84), the stream whose launch conditions its slot has read
and whose launch is still to come (R88, R89; log 29), its receive alignment with its runs as a port's (R160, R162), its
notice set (R131) and the cell last sent on its transmit pair. -/
structure LaneRec where
  state          : LaneState
  holder         : Option StreamNo
  tag            : Byte
  outstanding    : Option Handshake
  answerDeadline : Option PaceCount
  holdDeadline   : Option PaceCount
  paused         : Bool
  disablePending : Bool
  group          : GroupNo
  bindsAccepted  : Counter
  bindsRefused   : Counter
  answerTimeouts : Counter
  staleAnswers   : Counter
  waitingCell    : Option ControlCell
  launching      : Option StreamNo
  aligned        : Bool
  failures       : Nat
  passes         : Nat
  notices        : NoticeSet 4
  sent           : Option Cell
  deriving DecidableEq, Repr

/-- A lane of a group after power-on reset (R56, R83, R84, R162). -/
def LaneRec.reset (g : GroupNo) : LaneRec where
  state := .down
  holder := none
  tag := 0
  outstanding := none
  answerDeadline := none
  holdDeadline := none
  paused := false
  disablePending := false
  group := g
  bindsAccepted := 0
  bindsRefused := 0
  answerTimeouts := 0
  staleAnswers := 0
  waitingCell := none
  launching := none
  aligned := false
  failures := 0
  passes := 0
  notices := Table.const 4 none
  sent := none

/-- Management levels (R116). -/
inductive Level where
  | none | read | full
  deriving DecidableEq, Repr

/-- A port record (R116). -/
structure PortRecord where
  acceptance : Bool
  level      : Level
  deriving DecidableEq, Repr

/-- The statuses of a response (R147). -/
inductive Status where
  | done | busy | noPrivilege | badCommand | badTarget | badValue | wrongState | commitLate
  deriving DecidableEq, Repr

/-- A response that waits to be sent (R142, R144). -/
structure Response where
  tag     : Byte
  status  : Status
  payload : Payload
  deriving DecidableEq, Repr

/-- An arrival of a traffic cell whose expected sequence is settled and whose append claim is still to be taken: the
cell and the queue limit that the claim names, and whether the cell was marked as a gap (R97, R101, R102; log 30). -/
structure Arrival where
  cell  : TrafficCell
  limit : Nat
  gap   : Bool
  deriving DecidableEq, Repr

/-- One edge port: its port records (R113, R116), its alignment and link state (R160), its two queues (R142), its
counters (R161), the arrival that admission has begun on it and not ended (R97), its notice set (R131) and the cell last
sent on its transmit pair. The link is UP exactly while `aligned`. `failures` is the run of failed header checks while
ALIGNED, `passes` the run of passed ones while HUNTING. -/
structure PortRec where
  record        : PortRecord
  staged        : Option PortRecord
  aligned       : Bool
  failures      : Nat
  passes        : Nat
  requests      : List Request
  responses     : List Response
  reserved      : Bool
  received      : Counter
  checkFailures : Counter
  badKinds      : Counter
  misrouted     : Counter
  lastMisrouted : Option StreamNo
  arriving      : Option Arrival
  notices       : NoticeSet 6
  sent          : Option Cell
  deriving DecidableEq, Repr

/-- A port of a management level after power-on reset (R116, R142, R160, R161). -/
def PortRec.reset (level : Level) : PortRec where
  record := ⟨true, level⟩
  staged := none
  aligned := false
  failures := 0
  passes := 0
  requests := []
  responses := []
  reserved := false
  received := 0
  checkFailures := 0
  badKinds := 0
  misrouted := 0
  lastMisrouted := none
  arriving := none
  notices := Table.const 6 none
  sent := none

/-- The device parameter set (R115). -/
structure DeviceParams where
  paceMultiplier : Nat
  budgetCount    : Nat
  budgetWindow   : Nat
  bindSpacing    : Nat
  answerTimeout  : Nat
  refusalLimit   : Nat
  settleInterval : Nat
  commitTimeout  : Nat
  reportPort     : Option PortNo
  groupMap       : Table 16 GroupNo
  laneMask       : BitVec 4
  portMask       : BitVec 6
  deviceMask     : BitVec 4
  deriving DecidableEq, Repr

/-- The lane group map after power-on reset: lane n in group n div 4 (R59). -/
def resetGroupMap : Table 16 GroupNo :=
  ⟨⟨[0, 0, 0, 0, 1, 1, 1, 1, 2, 2, 2, 2, 3, 3, 3, 3]⟩, rfl⟩

/-- The device parameter set after power-on reset (R115). -/
def DeviceParams.reset : DeviceParams where
  paceMultiplier := 10
  budgetCount := 4
  budgetWindow := 200
  bindSpacing := 2
  answerTimeout := 50
  refusalLimit := 3
  settleInterval := 8
  commitTimeout := 1000
  reportPort := some 0
  groupMap := resetGroupMap
  laneMask := 0xF
  portMask := 0x3F
  deviceMask := 0xF

/-- The reason of a request entry (R38). -/
inductive Reason where
  | demand | lead
  deriving DecidableEq, Repr

/-- An entry of the bind request list (R38). -/
structure RequestEntry where
  stream : StreamNo
  time   : PaceCount
  reason : Reason
  group  : GroupNo
  deriving DecidableEq, Repr

/-- The device part of a commit operation record (R118). -/
inductive DevicePart where
  | none | pending | applied | withdrawn
  deriving DecidableEq, Repr

/-- The commit operation record (R118). `selector` is the COMMIT's selector octet, which its response echoes
(R168; DEDUCED, log 15). -/
structure CommitRecord where
  port       : PortNo
  tag        : Byte
  selector   : Byte
  streams    : List StreamNo
  devicePart : DevicePart
  deadline   : PaceCount
  applied    : Nat
  withdrawn  : Nat
  deriving DecidableEq, Repr

/-- What a request is answered with: a status and the result octets from octet 2 (R147, R168). -/
structure Reply where
  status : Status
  result : List Byte
  deriving DecidableEq, Repr

/-- The request in execution (R145), with the reply that its last claim has given and the agent has not yet placed
(R147; log 5). -/
structure Execution where
  port    : PortNo
  request : Request
  void    : Bool
  answer  : Option Reply
  deriving DecidableEq, Repr

/-- The whole block. -/
structure State where
  /-- The commands that wait, first in first out. -/
  pending            : List Instr
  /-- The model's own: at each place where the manual leaves open what is taken next, the front of this list decides, and
  leaves it; an empty list reads `false` (DESIGN CHOICE, log 6). -/
  turns              : List Bool
  /-- The reset pin is asserted (00_scope.md, Pins). -/
  resetPin           : Bool
  paceCount          : PaceCount
  /-- The stroke that made the pace count what it is has not yet counted the streams (R22, R24; log 3). -/
  uncounted          : Bool
  /-- The length of the pace unit in progress, in microseconds (R20). -/
  unitLength         : Nat
  params             : DeviceParams
  stagedParams       : Option DeviceParams
  trunkUp            : Bool
  trunkCommitPending : Bool
  streams            : Table 512 StreamRec
  lanes              : Table 16 LaneRec
  ports              : Table 6 PortRec
  freeBuffers        : Nat
  requests           : List RequestEntry
  waiting            : Table 4 Bool
  freeLanes          : Table 4 (List LaneNo)
  budget             : List PaceCount
  spacing            : Option PaceCount
  record             : Option CommitRecord
  notices            : NoticeSet 4
  reports            : List Report
  lastServed         : PortNo
  inExecution        : Option Execution
  barred             : Option PortNo
  owedVoid           : Bool
  /-- The closed commit's response, handed to the agent and not yet placed (R126, R127, R148). -/
  commitAnswer       : Option Response
  deriving DecidableEq, Repr

/-- The block right after power-on reset: the reset pin released, every table, record, queue, link and count at its
reset value (R2, R3, R19, R21, R36, R55, R83, R96, R112, R115, R116, R129, R141, R159, R160, R162). -/
def State.reset : State where
  pending := []
  turns := []
  resetPin := false
  paceCount := 0
  uncounted := false
  unitLength := 10
  params := .reset
  stagedParams := none
  trunkUp := false
  trunkCommitPending := false
  streams := Table.const 512 .reset
  lanes := resetGroupMap.mapAll LaneRec.reset
  ports :=
    ⟨⟨[.reset .full, .reset .none, .reset .none, .reset .none, .reset .none, .reset .none]⟩, rfl⟩
  freeBuffers := Config.poolSize
  requests := []
  waiting := Table.const 4 false
  freeLanes := Table.const 4 []
  budget := []
  spacing := none
  record := none
  notices := Table.const 4 none
  reports := []
  lastServed := 5
  inExecution := none
  barred := none
  owedVoid := false
  commitAnswer := none

/-- No event stops the block: the manual names no fault, and every command answers a next state (log 2). -/
inductive Fault where
  deriving DecidableEq, Repr

/-- Why a command is refused. -/
inductive Refusal where
  /-- Raised by an arm of `exec` for a command that has no meaning yet; no arm raises it (safe: the machine stops). -/
  | notModelled (mnemonic : String)
  deriving DecidableEq, Repr

end Sys2Proof.Machine
end

