-- ==== Sys2Proof/Machine/Ops.lean ====
section
/-! DEFINITION. The shared operations over the block's records: reading and changing one stream, lane, port or
group; deadlines against the pace count; turns at open orders; and the notice unit's raise. -/

namespace Sys2Proof.Machine

/-! ### One record -/

def State.stream (s : State) (i : StreamNo) : StreamRec := s.streams.read i
def State.lane (s : State) (l : LaneNo) : LaneRec := s.lanes.read l
def State.port (s : State) (p : PortNo) : PortRec := s.ports.read p

def State.setStream (s : State) (i : StreamNo) (r : StreamRec) : State :=
  { s with streams := s.streams.write i r }
def State.setLane (s : State) (l : LaneNo) (r : LaneRec) : State := { s with lanes := s.lanes.write l r }
def State.setPort (s : State) (p : PortNo) (r : PortRec) : State := { s with ports := s.ports.write p r }

def State.modStream (s : State) (i : StreamNo) (f : StreamRec → StreamRec) : State :=
  s.setStream i (f (s.stream i))
def State.modLane (s : State) (l : LaneNo) (f : LaneRec → LaneRec) : State := s.setLane l (f (s.lane l))
def State.modPort (s : State) (p : PortNo) (f : PortRec → PortRec) : State := s.setPort p (f (s.port p))

def State.setWaiting (s : State) (g : GroupNo) (b : Bool) : State := { s with waiting := s.waiting.write g b }
def State.setFree (s : State) (g : GroupNo) (ls : List LaneNo) : State :=
  { s with freeLanes := s.freeLanes.write g ls }

/-! ### Pace time -/

/-- A deadline in the future: it lies 1 to 2^31 - 1 pace units ahead, modulo 2^32 (R22). -/
def inFuture (now deadline : PaceCount) : Bool :=
  1 ≤ (deadline - now).toNat && (deadline - now).toNat < 2 ^ 31

/-- An optional deadline that is present and no longer in the future: reached or passed (R22). -/
def due (now : PaceCount) : Option PaceCount → Bool
  | some d => !inFuture now d
  | none => false

/-- The deadline of a duration that begins now (R22). -/
def deadlineAfter (now : PaceCount) (duration : Nat) : PaceCount := now + BitVec.ofNat 32 duration

/-- The pace units from an earlier pace count to now, modulo 2^32. -/
def ageOf (now earlier : PaceCount) : Nat := (now - earlier).toNat

/-! ### Orders the manual leaves open -/

/-- What the next open place reads: the front of `turns`, `false` when it is empty (log 6). -/
def State.turn (s : State) : Bool := s.turns.headD false

/-- The state with one turn used up. -/
def State.dropTurn (s : State) : State := { s with turns := s.turns.tail }

/-- What an open place reads, and the state with that turn used up (log 6). -/
def State.takeTurn (s : State) : Bool × State := (s.turn, s.dropTurn)

/-! ### The notice unit -/

/-- The bit of a stream cause in a report mask, its place in a notice set (R169, R171). -/
def StreamCause.bit : StreamCause → Fin 6
  | .seqGap => 0 | .duplicateDrop => 1 | .queueDrop => 2 | .creditSaturated => 3 | .held => 4 | .laneLost => 5

/-- The bit of a lane cause (R170, R171). -/
def LaneCause.bit : LaneCause → Fin 4
  | .answerTimeout => 0 | .staleAnswer => 1 | .strayControl => 2 | .recoveryFailed => 3

/-- The bit of a port cause (R170, R171). -/
def PortCause.bit : PortCause → Fin 6
  | .badCheck => 0 | .badKind => 1 | .misrouted => 2 | .linkDown => 3 | .mgmtRefused => 4 | .mgmtOverrun => 5

/-- The bit of a device cause (R170, R171). -/
def DeviceCause.bit : DeviceCause → Fin 4
  | .poolEmpty => 0 | .trunkDown => 1 | .commitLate => 2 | .reportLost => 3

/-- The entry of a cause in its target's notice set (R131). -/
def State.entry (s : State) : CausePoint → Option NoticeEntry
  | .device c => s.notices.read c.bit
  | .port p c => (s.port p).notices.read c.bit
  | .lane l c => (s.lane l).notices.read c.bit
  | .stream i c => (s.stream i).notices.read c.bit

/-- The entry of a cause replaced, created or removed. -/
def State.setEntry (s : State) (pt : CausePoint) (e : Option NoticeEntry) : State :=
  match pt with
  | .device c => { s with notices := s.notices.write c.bit e }
  | .port p c => s.modPort p fun r => { r with notices := r.notices.write c.bit e }
  | .lane l c => s.modLane l fun r => { r with notices := r.notices.write c.bit e }
  | .stream i c => s.modStream i fun r => { r with notices := r.notices.write c.bit e }

/-- The cause is in its report mask: the stream's active one, or the device set's for its level (R133). -/
def State.causeEnabled (s : State) : CausePoint → Bool
  | .device c => s.params.deviceMask.getLsbD c.bit.val
  | .port _ c => s.params.portMask.getLsbD c.bit.val
  | .lane _ c => s.params.laneMask.getLsbD c.bit.val
  | .stream i c => (s.stream i).config.reportMask.getLsbD c.bit.val

/-- REPORT_LOST at device level. -/
def reportLostPoint : CausePoint := .device .reportLost

/-- The number of ordinary reports queued: of any cause other than REPORT_LOST (R133). -/
def State.ordinaryQueued (s : State) : Nat := (s.reports.filter fun r => r.point ≠ reportLostPoint).length

/-- A linked report of the entry follows its occurrences (R135). -/
def Report.follow (pt : CausePoint) (n : Nat) (r : Report) : Report :=
  if r.point = pt ∧ r.linked = true then { r with occurrences := n } else r

/-- A report loses its link when the entry leaves its set (R135). -/
def Report.unlink (pt : CausePoint) (r : Report) : Report :=
  if r.point = pt then { r with linked := false } else r

/-- A raise that finds its entry: the occurrences increase by one, saturating, and a linked report follows
(R132, R135). -/
def countAgain (pt : CausePoint) (e : NoticeEntry) (s : State) : State :=
  let n := min Config.occurrencesMax (e.occurrences + 1)
  let s := s.setEntry pt (some { e with occurrences := n })
  { s with reports := s.reports.map (Report.follow pt n) }

/-- A raise that finds no entry creates one with occurrences 1 and the present pace count (R132). -/
def createEntry (pt : CausePoint) (s : State) : State := s.setEntry pt (some ⟨1, s.paceCount⟩)

/-- A report joins the tail of the report queue, linked to the entry just created (R134, R135). -/
def queueReport (pt : CausePoint) (s : State) : State :=
  { s with reports := s.reports ++ [⟨pt, s.paceCount, 1, true⟩] }

/-- The raise of REPORT_LOST (R134): no report while one of REPORT_LOST is already queued. -/
def raiseReportLost (s : State) : State :=
  match s.entry reportLostPoint with
  | some e => countAgain reportLostPoint e s
  | none =>
    let s := createEntry reportLostPoint s
    if s.causeEnabled reportLostPoint && s.params.reportPort.isSome
        && s.reports.all (fun r => r.point ≠ reportLostPoint)
    then queueReport reportLostPoint s else s

/-- The raise of an ordinary cause (R132, R133): the entry is created or counted; a creation queues a report when
the cause is enabled and the report port is a port, and raises REPORT_LOST when 31 ordinary reports already wait. -/
def raiseOrdinary (pt : CausePoint) (s : State) : State :=
  match s.entry pt with
  | some e => countAgain pt e s
  | none =>
    let s := createEntry pt s
    if s.causeEnabled pt && s.params.reportPort.isSome then
      if s.ordinaryQueued < Config.ordinaryReports then queueReport pt s else raiseReportLost s
    else s

/-- The notice unit's taking of a raise. -/
def raise (pt : CausePoint) (s : State) : State :=
  if pt = reportLostPoint then raiseReportLost s else raiseOrdinary pt s

/-- The removal of an entry by ACK-NOTICE, which ends the links of its reports (R135, R138). -/
def removeNotice (pt : CausePoint) (s : State) : State :=
  let s := s.setEntry pt none
  { s with reports := s.reports.map (Report.unlink pt) }

end Sys2Proof.Machine
end

