-- ==== Sys2Proof/Machine/Flags.lean ====
section
/-! DEFINITION. The conditions that the blocks judge: lead input, demand, the lane request condition, the budget test,
lane handshakes in flight, launch conditions, drain completion. -/

namespace Sys2Proof.Machine

/-- The lead input: the count is at or below the lead point; false at all times where that is absent (R28). -/
def StreamRec.leadInput (r : StreamRec) : Bool :=
  match r.config.leadPoint with
  | some p => r.count ≤ p
  | none => false

/-- The credit input: credit is 1 or more (R34). -/
def StreamRec.creditInput (r : StreamRec) : Bool := 1 ≤ r.credit

/-- Demand: the queue is not empty, and the credit is 1 or more or the lead input is true (R32). -/
def StreamRec.demand (r : StreamRec) : Bool := !r.queue.isEmpty && (r.creditInput || r.leadInput)

/-- The kind of demand: by credit DEMAND, otherwise by lead LEAD (R32, R38). -/
def StreamRec.demandReason (r : StreamRec) : Reason := if r.creditInput then .demand else .lead

/-- The life state is OPEN or DRAINING (R33). -/
def StreamRec.mayHold (r : StreamRec) : Bool :=
  match r.life with
  | .opened => true
  | .draining _ => true
  | .closed => false
  | .held => false

/-- A settle deadline in the future (R22, R33). -/
def StreamRec.settling (now : PaceCount) (r : StreamRec) : Bool :=
  match r.settle with
  | some d => inFuture now d
  | none => false

/-- The lane request condition without its last part, the absence of an entry: the stream wants a lane (R33). -/
def StreamRec.wantsLane (now : PaceCount) (r : StreamRec) : Bool :=
  r.mayHold && r.heldLane.isNone && !r.settling now && r.demand

/-- The drain completion condition: no lane held, and the drain is a discard or the queue is empty (R13). -/
def StreamRec.drainComplete (r : StreamRec) : Bool :=
  match r.life with
  | .draining .discard => r.heldLane.isNone
  | .draining .plain => r.heldLane.isNone && r.queue.isEmpty
  | .closed => false
  | .opened => false
  | .held => false

/-- The stream admits cells: OPEN or HELD (R5, R100, R105). -/
def StreamRec.admits (r : StreamRec) : Bool :=
  match r.life with
  | .opened => true
  | .held => true
  | .closed => false
  | .draining _ => false

/-- The stream has an entry in the bind request list. -/
def State.hasEntry (s : State) (i : StreamNo) : Bool := s.requests.any fun e => e.stream == i

/-- The bind request list holds an entry for the group (R40). -/
def State.groupWanted (s : State) (g : GroupNo) : Bool := s.requests.any fun e => e.group == g

/-- The budget test (R46): fewer than K entries, and none or the newest at least S pace units old. -/
def State.budgetOpen (s : State) : Bool :=
  s.budget.length < s.params.budgetCount &&
    match s.budget.getLast? with
    | some newest => s.params.bindSpacing ≤ ageOf s.paceCount newest
    | none => true

/-- BINDING, UNBINDING or RECOVERING (R123). -/
def LaneState.inHandshake : LaneState → Bool
  | .binding => true
  | .unbinding => true
  | .recovering => true
  | .down => false
  | .free => false
  | .bound => false
  | .quarantined => false
  | .disabled => false

/-- No lane is BINDING, UNBINDING or RECOVERING (R123). -/
def State.lanesQuiet (s : State) : Bool := s.lanes.toList.all fun r => !r.state.inHandshake

/-- Every lane's receive side is ALIGNED (R162). -/
def State.allAligned (s : State) : Bool := s.lanes.toList.all fun r => r.aligned

/-- The run of passed header checks of a HUNTING receiver after one more: six are enough (R160). -/
def oneMorePass (passes : Nat) : Nat := min Config.cellsToAlign (passes + 1)

/-- The launch conditions on the lane's side (R87, 1 to 3). -/
def launchLane (trunkUp : Bool) (r : LaneRec) : Bool :=
  trunkUp && r.state == .bound && !r.paused && r.waitingCell.isNone

/-- The launch conditions for a lane and its holder (R87). -/
def launchable (trunkUp : Bool) (r : LaneRec) (h : StreamRec) : Bool :=
  launchLane trunkUp r && h.creditInput && !h.queue.isEmpty

/-- A cell of the stream may leave on the lane: the lane is BOUND to it and not paused, with no control cell waiting and
the trunk UP (R87, R89). -/
def State.carries (s : State) (l : LaneNo) (i : StreamNo) : Bool :=
  launchLane s.trunkUp (s.lane l) && (s.lane l).holder == some i

/-- A response queue is full: held and reserved places together number 8 (R142). -/
def PortRec.placesUsed (r : PortRec) : Nat := r.responses.length + r.reserved.toNat

/-- The response queue has no free place (R142). -/
def PortRec.responsesFull (r : PortRec) : Bool := Config.responsePlaces ≤ r.placesUsed

end Sys2Proof.Machine
end

