-- ==== Sys2Proof/Machine/Lanes.lean ====
section
/-! DEFINITION. The lane controller's side of a lane: starting a handshake, releasing a BOUND lane, judging it. Nothing
here needs the bind arbiter. -/

namespace Sys2Proof.Machine

/-- A handshake begins (R61): the tag moves on, the outstanding request and the state are set, the control cell is
handed to the transmitter, and no answer deadline runs until that cell has left. Paused and the hold deadline are
cleared, as they are whenever a lane leaves BOUND (R57, R68), and from the start no traffic cell launches on the lane
(R68, R90). -/
def LaneRec.begin (kind : Handshake) (state : LaneState) (i : StreamNo) (r : LaneRec) : LaneRec :=
  { r with
    state := state
    tag := r.tag + 1
    outstanding := some kind
    answerDeadline := none
    holdDeadline := none
    paused := false
    launching := none
    waitingCell := some ⟨kind, i, r.tag + 1⟩ }

/-- A handshake ends (R61): the outstanding request and the answer deadline become absent, and a control cell that
still waits is withdrawn. -/
def LaneRec.endHandshake (r : LaneRec) : LaneRec :=
  { r with outstanding := none, answerDeadline := none, waitingCell := none }

/-- A recovery begins (R71). LANE-RESET carries stream number 0. -/
def LaneRec.beginRecovery (r : LaneRec) : LaneRec := r.begin .laneReset .recovering 0

/-- The lane controller's recovery of one lane (R71). -/
def startRecovery (l : LaneNo) (s : State) : State := s.modLane l LaneRec.beginRecovery

/-- Every DOWN lane begins a recovery (R80, R83). -/
def recoverDownLanes (s : State) : State :=
  { s with lanes := s.lanes.mapAll fun r => if r.state = .down then r.beginRecovery else r }

/-- A release of a lane (R68): a BOUND lane becomes UNBINDING; in any other state nothing changes. -/
def startRelease (l : LaneNo) (s : State) : State :=
  if (s.lane l).state = .bound then
    s.modLane l fun r => r.begin .release .unbinding (r.holder.getD 0)
  else s

/-- Does the cut-short hold for a lane (R94): its group waits and that group's free-lane list is empty? -/
def State.cutShort (s : State) (r : LaneRec) : Bool :=
  s.waiting.read r.group && (s.freeLanes.read r.group).isEmpty

/-- Tests 1 to 4 of a judgement (R92): the holding ends at once, without grace. -/
def endsAtOnce (r : LaneRec) (h : StreamRec) : Bool :=
  r.disablePending || h.life == .draining .discard || (h.life == .draining .plain && h.queue.isEmpty)
    || h.commitPending

/-- Hold grace for a BOUND lane whose holder has no demand (R93, R94). -/
def holdGrace (l : LaneNo) (h : StreamRec) (s : State) : State :=
  let r := s.lane l
  if r.holdDeadline.isNone && h.config.holdTime == 0 then startRelease l s
  else if s.cutShort r then startRelease l s
  else if r.holdDeadline.isNone then
    s.modLane l fun r => { r with holdDeadline := some (deadlineAfter s.paceCount h.config.holdTime) }
  else s

/-- A judgement of a lane (R92): only a BOUND lane is judged. -/
def judgeLane (l : LaneNo) (s : State) : State :=
  let r := s.lane l
  match r.state, r.holder with
  | .bound, some i =>
    let h := s.stream i
    if endsAtOnce r h then startRelease l s
    else if h.demand then s.modLane l fun r => { r with holdDeadline := none }
    else holdGrace l h s
  | _, _ => s

/-- The judgement of the lane that a stream holds, if it holds one (R91). -/
def judgeHeld (i : StreamNo) (s : State) : State :=
  match (s.stream i).heldLane with
  | some l => judgeLane l s
  | none => s

/-- The lanes of a group that are BOUND. -/
def State.boundLanes (s : State) (g : GroupNo) : List LaneNo :=
  s.lanes.indicesWhere fun r => r.group == g && r.state == .bound

/-- The judgement of every BOUND lane of a group: at "group waiting", and when the group's free-lane list becomes
empty (R91, R94). One judgement to each lane, in ascending order. -/
def judgeGroup (g : GroupNo) (s : State) : State := (s.boundLanes g).foldl (fun s l => judgeLane l s) s

end Sys2Proof.Machine
end

