-- ==== Sys2Proof/Machine/Arbiter.lean ====
section
/-! DEFINITION. The bind arbiter: the bind request list, its passes, and its taking of notifications (chapter 3). -/

namespace Sys2Proof.Machine

/-- What a notification tells the arbiter: a change of a demand input, or the change of the stream's lane that the
lane controller reports (R41, R43). -/
inductive NotifyKind where
  | demandChange
  | bindAccepted
  | bindRefused
  | bindTimeout
  | releaseCompleted
  | releaseTimeout
  | trunkLost
  deriving DecidableEq, Repr

/-- An entry's age, capped (R39). -/
def cappedAge (now time : PaceCount) : Nat := min Config.ageCap (ageOf now time)

/-- Does entry `a` stand ahead of a joining entry `b`: an earlier request time, or the same one and a lower stream
number (R39)? -/
def RequestEntry.ahead (now : PaceCount) (a b : RequestEntry) : Bool :=
  cappedAge now b.time < cappedAge now a.time
    || (cappedAge now a.time == cappedAge now b.time && a.stream < b.stream)

/-- An entry joins in list order (R39). -/
def insertEntry (now : PaceCount) (e : RequestEntry) : List RequestEntry → List RequestEntry
  | [] => [e]
  | x :: xs => if x.ahead now e then x :: insertEntry now e xs else e :: x :: xs

/-- The list without a stream's entry. -/
def withoutEntry (i : StreamNo) (es : List RequestEntry) : List RequestEntry := es.filter fun e => e.stream != i

/-- "Group not waiting" for a group that no entry names any more (R40). -/
def indicateNotWaiting (g : GroupNo) (s : State) : State :=
  if s.groupWanted g then s else s.setWaiting g false

/-- A stream's entry leaves the list, with "group not waiting" if it was its group's last (R44). -/
def removeEntry (i : StreamNo) (s : State) : State :=
  match s.requests.find? (fun e => e.stream == i) with
  | some e => indicateNotWaiting e.group { s with requests := withoutEntry i s.requests }
  | none => s

/-- An entry joins the list; the first of its group is told to the lane controller, which judges the group's lanes
(R39, R40, R91). -/
def joinList (e : RequestEntry) (s : State) : State :=
  let first := !s.groupWanted e.group
  let s := { s with requests := insertEntry s.paceCount e s.requests }
  if first then judgeGroup e.group (s.setWaiting e.group true) else s

/-- A granted bind-start claim (R50): the lane leaves its list and begins the bind handshake for the stream, whose
held lane names it (R58); the start joins the setup budget record, the spacing deadline and the kept request time are
set, and the entry leaves the list (R47, R49). -/
def grantBind (e : RequestEntry) (l : LaneNo) (rest : List LaneNo) (s : State) : State :=
  let s := s.setFree e.group rest
  let s := s.modLane l fun r => { r.begin .bind .binding e.stream with holder := some e.stream }
  let s := s.modStream e.stream fun r => { r with heldLane := some l, keptTime := some e.time }
  { s with
    budget := s.budget ++ [s.paceCount]
    spacing :=
      if s.params.bindSpacing = 0 then none else some (deadlineAfter s.paceCount s.params.bindSpacing)
    requests := withoutEntry e.stream s.requests }

/-- After a granted claim: "group not waiting" if the entry was the group's last, and the judgement of the group's
lanes if its free-lane list has become empty. Where both come about, R95 leaves their order open: a turn decides
(log 6). -/
def afterGrant (g : GroupNo) (s : State) : State :=
  if (s.freeLanes.read g).isEmpty then
    if s.groupWanted g then judgeGroup g s
    else
      let (emptyingFirst, s) := s.takeTurn
      if emptyingFirst then indicateNotWaiting g (judgeGroup g s) else judgeGroup g (indicateNotWaiting g s)
  else indicateNotWaiting g s

/-- A bind start: the granted claim and what follows from it. -/
def startBind (e : RequestEntry) (l : LaneNo) (rest : List LaneNo) (s : State) : State :=
  afterGrant e.group (grantBind e l rest s)

/-- The earliest entry whose group is not marked empty and has a free lane (R49, step 2). -/
def State.choice (s : State) (marked : List GroupNo) : Option RequestEntry :=
  s.requests.find? fun e => !marked.contains e.group && !(s.freeLanes.read e.group).isEmpty

/-- The stop tests of a pass (R49, step 1). -/
def State.passStops (s : State) : Bool := s.trunkCommitPending || !s.budgetOpen

/-- A bind-start claim, taken against the group's free-lane list as it stands (R50), and what its answer does to the
groups that the pass has marked empty: a refused claim changes nothing, its entry keeps its place, and its group is
marked (R49, step 5). -/
def takeClaim (e : RequestEntry) (marked : List GroupNo) (s : State) : List GroupNo × State :=
  match s.freeLanes.read e.group with
  | [] => (e.group :: marked, s)
  | l :: rest => (marked, startBind e l rest s)

/-- A pass with fuel: each round starts a bind, removes an entry, or marks a group empty (R49). -/
def passLoop : Nat → List GroupNo → State → State
  | 0, _, s => s
  | n + 1, marked, s =>
    if s.passStops then s
    else
      match s.choice marked with
      | none => s
      | some e =>
        if !(s.stream e.stream).wantsLane s.paceCount then passLoop n marked (removeEntry e.stream s)
        else
          let (marked, s) := takeClaim e marked s
          passLoop n marked s

/-- A pass over the bind request list (R48, R49): a round for each entry and each group is enough. -/
def pass (s : State) : State := passLoop (s.requests.length + 4) [] s

/-- A pass as far as the claim before which another event comes (R50): a turn at each claim says whether it is that
one. What is left of the pass is that claim and the groups marked so far; nothing where the pass has ended before. -/
def passUntil : Nat → List GroupNo → State → Option (RequestEntry × List GroupNo) × State
  | 0, _, s => (none, s)
  | n + 1, marked, s =>
    if s.passStops then (none, s)
    else
      match s.choice marked with
      | none => (none, s)
      | some e =>
        if !(s.stream e.stream).wantsLane s.paceCount then passUntil n marked (removeEntry e.stream s)
        else
          let (here, s) := s.takeTurn
          if here then (some (e, marked), s)
          else
            let (marked, s) := takeClaim e marked s
            passUntil n marked s

/-- The rest of a pass from a claim on. -/
def passFrom (e : RequestEntry) (marked : List GroupNo) (s : State) : State :=
  let (marked, s) := takeClaim e marked s
  passLoop (s.requests.length + 4) marked s

/-- The arbiter has an entry to choose and may start a bind (R49, steps 1 and 2). -/
def State.passChooses (s : State) : Bool := !s.passStops && (s.choice []).isSome

/-- An event that takes lanes from the free-lane lists. It can come between a pass's reading of a list and the claim that
the pass then sends, which is answered by the list as the event has left it (R50): where the arbiter has an entry to
choose, a turn says whether a pass is under way, and the turns of its claims say where in it the event falls (log 6). -/
def duringPass (event : State → State) (s : State) : State :=
  if s.passChooses then
    let (underWay, s) := s.takeTurn
    if underWay then
      match passUntil (s.requests.length + 4) [] s with
      | (some (e, marked), s) => passFrom e marked (event s)
      | (none, s) => event s
    else event s
  else event s

/-- A pass that another event calls for (R48). The arbiter takes it as an event of its own: at the end of the event that
calls for it, or, where a turn says so, later, as ARBITER_PASS (log 6). -/
def callPass (s : State) : State :=
  let (later, s) := s.takeTurn
  if later then s else pass s

/-- The kept request time as a notification leaves it (R42, R43): absent at a report that the bind has ended, by
acceptance or by a loss, and where the stream holds no lane and does not want one. A stream that holds a lane at the
report of a loss has begun another bind since, whose kept request time that report does not concern. -/
def settleKeptTime (kind : NotifyKind) (now : PaceCount) (r : StreamRec) : StreamRec :=
  if kind = .bindAccepted ∨ (r.heldLane = none ∧ (kind ≠ .demandChange ∨ r.wantsLane now = false)) then
    { r with keptTime := none }
  else r

/-- The request time of a new entry (R42, R43): the kept one at a bind answer timeout, otherwise the present. -/
def entryTime (kind : NotifyKind) (now : PaceCount) (r : StreamRec) : PaceCount :=
  if kind = .bindTimeout then r.keptTime.getD now else now

/-- A stream's entry takes its present reason (R41). -/
def setReason (i : StreamNo) (reason : Reason) (s : State) : State :=
  { s with requests := s.requests.map fun e => if e.stream = i then { e with reason := reason } else e }

/-- The arbiter takes a notification for one stream (R41, R42, R43). -/
def notify (kind : NotifyKind) (i : StreamNo) (s : State) : State :=
  let r := s.stream i
  let s := s.modStream i (settleKeptTime kind s.paceCount)
  if s.hasEntry i then
    if r.wantsLane s.paceCount then setReason i r.demandReason s else removeEntry i s
  else if r.wantsLane s.paceCount then
    callPass (joinList ⟨i, entryTime kind s.paceCount r, r.demandReason, r.config.group⟩ s)
  else s

/-- A demand-change notification from any owner: to the arbiter, and to the lane controller when the stream holds a
lane (R6, R34, R108). -/
def demandChanged (i : StreamNo) (s : State) : State := judgeHeld i (notify .demandChange i s)

/-- The arbiter takes new budget values (R52): the record is judged by the new W, the spacing deadline by the new
S. -/
def takeBudgetValues (s : State) : State :=
  let kept := s.budget.filter fun t => ageOf s.paceCount t < s.params.budgetWindow
  { s with
    budget := kept
    spacing :=
      if s.params.bindSpacing = 0 then none
      else
        match kept.getLast? with
        | some newest =>
          let d := deadlineAfter newest s.params.bindSpacing
          if inFuture s.paceCount d then some d else none
        | none => none }

/-- A lane becomes FREE (R59, R60): it takes its group from the active lane group map and joins the tail of that
group's list. The arbiter's pass on the join is an event of the arbiter's own, `passOnJoin`. -/
def joinFreeList (l : LaneNo) (s : State) : State :=
  let g := s.params.groupMap.read l
  (s.modLane l fun r => { r with state := .free, group := g }).setFree g (s.freeLanes.read g ++ [l])

/-- A lane becomes DISABLED in place of FREE or QUARANTINED: the pending disable is applied (R76). -/
def becomeDisabled (l : LaneNo) (s : State) : State :=
  s.modLane l fun r => { r with state := .disabled, disablePending := false }

/-- The lane at the end of a handshake that frees it: FREE, or DISABLED with a disable pending (R66, R69, R72, R76). -/
def freeOrDisable (l : LaneNo) (s : State) : State :=
  if (s.lane l).disablePending then becomeDisabled l s else joinFreeList l s

/-- The arbiter's pass on a lane's join of its list (R48, R60), where the lane has joined one. -/
def passOnJoin (joined : Bool) (s : State) : State := if joined then callPass s else s

end Sys2Proof.Machine
end

