-- ==== Sys2Proof/Machine/Pacing.lean ====
section
/-! DEFINITION. The pacing unit: strokes, credit, timers (chapter 2). -/

namespace Sys2Proof.Machine

/-- The two demand inputs of the pacing unit differ between two moments of a stream (R34). -/
def inputsDiffer (before after : StreamRec) : Bool :=
  before.creditInput != after.creditInput || before.leadInput != after.leadInput

/-- A change of one stream's count, credit or timer state, with its demand-change notification (R34). -/
def changePacing (i : StreamNo) (f : StreamRec → StreamRec) (s : State) : State :=
  let before := s.stream i
  let s := s.modStream i f
  if inputsDiffer before (s.stream i) then demandChanged i s else s

/-- The timer state in which a stroke counts the stream (R24). -/
def StreamRec.isCounted (r : StreamRec) : Bool := r.timer != .stopped

/-- One count (R24, R25): a decrease, or an underflow that reloads the count and gives one credit up to the cap. -/
def StreamRec.counted (r : StreamRec) : StreamRec :=
  if r.count = 0 then
    { r with count := r.config.reload, credit := if r.credit < r.config.creditCap then r.credit + 1 else r.credit }
  else { r with count := r.count - 1 }

/-- What a stroke does to one stream (R24, R29). -/
def StreamRec.struck (r : StreamRec) : StreamRec :=
  match r.timer with
  | .running => r.counted
  | .stopPending => { r.counted with timer := .stopped }
  | .stopped => r

/-- An underflow at the cap with the queue not empty (R25). -/
def StreamRec.saturates (r : StreamRec) : Bool :=
  r.isCounted && r.count == 0 && r.config.creditCap ≤ r.credit && !r.queue.isEmpty

/-- A stroke of this stream raises a cause or sends a notification. -/
def StreamRec.strokeTells (r : StreamRec) : Bool := r.saturates || inputsDiffer r r.struck

/-- What the stroke of one stream tells the other blocks: CREDIT_SATURATED (R25), then the notification (R34).
`before` is the stream as the stroke found it. -/
def tellStroke (before : StreamRec) (i : StreamNo) (s : State) : State :=
  let s := if before.saturates then raise (.stream i .creditSaturated) s else s
  if inputsDiffer before before.struck then demandChanged i s else s

/-- The counting of the streams at a stroke (R24): every stream that runs is counted; then the raises and notifications,
in ascending order of stream number (log 7). -/
def countStreams (s : State) : State :=
  let told := s.streams.indicesWhere StreamRec.strokeTells
  let t := { s with uncounted := false, streams := s.streams.mapAll StreamRec.struck }
  told.foldl (fun t i => tellStroke (s.stream i) i t) t

/-- The pace clock ends a pace unit (R20, R21): the pace count increases by one, and the next pace unit takes the active
multiplier. -/
def advance (s : State) : State :=
  { s with paceCount := s.paceCount + 1, unitLength := s.params.paceMultiplier, uncounted := true }

/-- A stroke (R21, R22, R24). The manual does not order its counting of the streams against the expiries that it brings
about: a turn says whether the counting follows at once or waits, so that expiries at this pace count are taken before
it; a counting that waits is taken by the next STROKE, which advances nothing, or before the next command that is no
expiry (log 3). -/
def stroke (s : State) : State :=
  if s.uncounted then countStreams s
  else
    let (waits, s) := (advance s).takeTurn
    if waits then s else countStreams s

/-- A counting that waits is taken now: before every event but an expiry, since R22 leaves a stroke's counting unordered
against expiries alone (log 3). -/
def countFirst (s : State) : State := if s.uncounted then countStreams s else s

/-- The claim to consume one credit (R26): granted with credit 1 or more, refused with credit 0. -/
def consumeCredit (i : StreamNo) (s : State) : Bool × State :=
  if (s.stream i).credit = 0 then (false, s)
  else (true, changePacing i (fun r => { r with credit := r.credit - 1 }) s)

/-- Open initialization (R7, R27). -/
def openPacing (r : StreamRec) : StreamRec :=
  { r with
    count := r.config.reload
    credit := r.config.initialCredit
    timer := if r.config.runAtOpen then .running else .stopped }

/-- Entry into CLOSED at the pacing unit (R9, R27). -/
def closePacing (r : StreamRec) : StreamRec := { r with timer := .stopped, credit := 0 }

/-- TIMER-CONTROL run (R30). -/
def timerRun (r : StreamRec) : StreamRec := { r with timer := .running }

/-- TIMER-CONTROL stop (R30): only a RUNNING timer becomes STOP_PENDING. -/
def timerStop (r : StreamRec) : StreamRec :=
  match r.timer with
  | .running => { r with timer := .stopPending }
  | .stopPending => r
  | .stopped => r

/-- TIMER-CONTROL preset, with or without clear credit (R30, R31). -/
def timerPreset (clear : Bool) (r : StreamRec) : StreamRec :=
  { r with count := r.config.reload, credit := if clear then 0 else r.credit }

/-- The restart claim (R36). -/
def restartPacing (r : StreamRec) : StreamRec :=
  { r with
    count := r.config.reload
    credit := 0
    timer :=
      match r.timer with
      | .running => .running
      | .stopPending => .stopped
      | .stopped => .stopped }

end Sys2Proof.Machine
end

