-- ==== Sys2Proof/Machine/Queue.lean ====
section
/-! DEFINITION. The queue manager: append, take-head and flush over the stream queues and the cell pool (chapter 6). -/

namespace Sys2Proof.Machine

/-- The four answers of an append claim (R102). -/
inductive AppendAnswer where
  | appended | limit | pool | closed
  deriving DecidableEq, Repr

/-- How an append claim is answered (R105): life state, then limit, then pool. -/
def appendAnswer (i : StreamNo) (limit : Nat) (s : State) : AppendAnswer :=
  let r := s.stream i
  if !r.admits then .closed
  else if limit ≤ r.queue.length then .limit
  else if s.freeBuffers = 0 then .pool
  else .appended

/-- The notification of a change of a queue's emptiness (R108). -/
def emptinessChanged (i : StreamNo) (wasEmpty : Bool) (s : State) : State :=
  if (s.stream i).queue.isEmpty == wasEmpty then s else demandChanged i s

/-- An append that is answered appended (R105): one buffer leaves the free list, the cell joins the tail; taking the
last free buffer raises POOL_EMPTY; then the notification of R108. -/
def appendCell (i : StreamNo) (c : TrafficCell) (s : State) : State :=
  let wasEmpty := (s.stream i).queue.isEmpty
  let last := s.freeBuffers == 1
  let s := { s with freeBuffers := s.freeBuffers - 1 }
  let s := s.modStream i fun r => { r with queue := r.queue ++ [c] }
  let s := if last then raise (.device .poolEmpty) s else s
  emptinessChanged i wasEmpty s

/-- The take-head claim (R106): the head cell leaves and its buffer returns, or the claim is answered empty. -/
def takeHead (i : StreamNo) (s : State) : Option TrafficCell × State :=
  match (s.stream i).queue with
  | [] => (none, s)
  | c :: rest =>
    let s := { s with freeBuffers := s.freeBuffers + 1 }
    let s := s.modStream i fun r => { r with queue := rest }
    (some c, emptinessChanged i false s)

/-- The flush claim (R107): every buffer of the queue returns to the free list. -/
def flush (i : StreamNo) (s : State) : State :=
  let n := (s.stream i).queue.length
  if n = 0 then s
  else
    let s := { s with freeBuffers := s.freeBuffers + n }
    demandChanged i (s.modStream i fun r => { r with queue := [] })

end Sys2Proof.Machine
end

