-- ==== Sys2Proof/Machine/StreamTable.lean ====
section
/-! DEFINITION. The stream table: the life states and the claims that move them (chapter 1). -/

namespace Sys2Proof.Machine

/-- A change of life state, with the notifications to the arbiter and the lane controller (R6). -/
def setLife (i : StreamNo) (life : Life) (s : State) : State :=
  demandChanged i (s.modStream i fun r => { r with life := life })

/-- Entry into CLOSED (R9): life state and drain kind; timer and credit; the queue flushed; the request entry removed;
then the notification. -/
def enterClosed (i : StreamNo) (s : State) : State :=
  let s := s.modStream i fun r => { r with life := .closed }
  let s := changePacing i closePacing s
  let s := flush i s
  let s := removeEntry i s
  demandChanged i s

/-- A drain completion is judged (R13): a DRAINING stream whose condition holds becomes CLOSED. -/
def judgeDrain (i : StreamNo) (s : State) : State :=
  if (s.stream i).drainComplete then enterClosed i s else s

/-- OPEN-STREAM (R7, R8). -/
def openStream (i : StreamNo) (s : State) : Status × State :=
  let r := s.stream i
  if r.life = .closed ∧ 1 ≤ r.generation then
    let s := s.modStream i fun r =>
      { r with
        life := .opened
        expected := none
        refusals := 0
        admitted := 0
        launched := 0
        queueDrops := 0
        duplicateDrops := 0
        sequenceGaps := 0 }
    let s := changePacing i openPacing s
    (.done, demandChanged i s)
  else (.wrongState, s)

/-- A close with discard of a stream that is OPEN or draining PLAIN (R11, R12): queue flushed, entry removed; CLOSED
at once without a lane, DRAINING (DISCARD) while one is held. -/
def closeDiscarding (i : StreamNo) (s : State) : State :=
  let s := removeEntry i (flush i s)
  if (s.stream i).heldLane.isNone then enterClosed i s else setLife i (.draining .discard) s

/-- CLOSE-STREAM without discard (R10, R12). -/
def closePlain (i : StreamNo) (s : State) : Status × State :=
  match (s.stream i).life with
  | .opened => (.done, judgeDrain i (setLife i (.draining .plain) s))
  | .held => (.done, enterClosed i (flush i s))
  | .draining _ => (.done, s)
  | .closed => (.wrongState, s)

/-- CLOSE-STREAM with discard (R11, R12). -/
def closeDiscard (i : StreamNo) (s : State) : Status × State :=
  match (s.stream i).life with
  | .opened => (.done, closeDiscarding i s)
  | .held => (.done, enterClosed i (flush i s))
  | .draining .plain => (.done, closeDiscarding i s)
  | .draining .discard => (.done, s)
  | .closed => (.wrongState, s)

/-- CLEAR-HOLD (R17). -/
def clearHold (i : StreamNo) (s : State) : Status × State :=
  if (s.stream i).life = .held then
    (.done, setLife i .opened (s.modStream i fun r => { r with refusals := 0 }))
  else (.wrongState, s)

/-- The refusal limit is reached (R15, R16): an OPEN stream becomes HELD, a plain drain is flushed and closed; both
raise HELD. -/
def refusalLimitReached (i : StreamNo) (s : State) : State :=
  match (s.stream i).life with
  | .opened =>
    let s := s.modStream i fun r => { r with life := .held }
    demandChanged i (raise (.stream i .held) s)
  | .draining .plain => enterClosed i (flush i (raise (.stream i .held) s))
  | .draining .discard => s
  | .held => s
  | .closed => s

/-- Does a refusal count against the stream (R14)? -/
def StreamRec.countsRefusals (r : StreamRec) : Bool := r.life == .opened || r.life == .draining .plain

/-- The bind-refused claim (R14). -/
def bindRefused (i : StreamNo) (s : State) : State :=
  if (s.stream i).countsRefusals then
    let s := s.modStream i fun r => { r with refusals := r.refusals + 1 }
    if s.params.refusalLimit ≤ (s.stream i).refusals then refusalLimitReached i s else s
  else s

/-- The bind-accepted claim (R14): in every life state. -/
def bindAccepted (i : StreamNo) (s : State) : State := s.modStream i fun r => { r with refusals := 0 }

end Sys2Proof.Machine
end

