-- ==== Sys2Proof/Machine/Commit.lean ====
section
/-! DEFINITION. The commit unit: applications of staged images, the open commit operation record, and the closed
record's response as the agent places it (chapter 7, R148). -/

namespace Sys2Proof.Machine

/-- Command codes that responses echo: COMMIT (R168). -/
def commitCode : Byte := 0x0A

/-- A response payload (R168): the command code, the selector echoed, and the result from octet 2. -/
def responsePayload (code selector : Byte) (result : List Byte) : Payload :=
  octetTable 56 (code :: selector :: result)

/-! ### The closed commit's response -/

/-- A response joins a port's response queue in its reserved place (R142, R147). -/
def placeReserved (p : PortNo) (a : Response) (s : State) : State :=
  s.modPort p fun r => { r with responses := r.responses ++ [a], reserved := false }

/-- A void response is discarded and its reserved place released (R147, R158). -/
def releaseReserved (p : PortNo) (s : State) : State := s.modPort p fun r => { r with reserved := false }

/-- The agent takes the closed commit's response (R148): it is placed in the barred port's reserved place, or
discarded if it is void, and the bar is lifted. -/
def takeCommitAnswer (s : State) : State :=
  match s.commitAnswer, s.barred with
  | some a, some p =>
    let s := if s.owedVoid then releaseReserved p s else placeReserved p a s
    { s with commitAnswer := none, barred := none, owedVoid := false }
  | _, _ => s

/-- The response of a commit record that closes (R126, R127, R173). -/
def CommitRecord.answer (c : CommitRecord) (status : Status) (result : List Byte) : Response :=
  ⟨c.tag, status, responsePayload commitCode c.selector result⟩

/-- The result of a commit that completes: the applied and the withdrawn count (R126, R173). -/
def CommitRecord.doneResult (c : CommitRecord) : List Byte := octets2 c.applied ++ octets2 c.withdrawn

/-- The parts still pending (R127). -/
def CommitRecord.partsPending (c : CommitRecord) : Nat :=
  c.streams.length + (if c.devicePart = .pending then 1 else 0)

/-- The commit operation is complete (R126). -/
def CommitRecord.complete (c : CommitRecord) : Bool := c.streams.isEmpty && c.devicePart != .pending

/-- An open record closes: its response is handed to the agent, which takes it (R126, R127, R148; log 1). -/
def closeRecord (c : CommitRecord) (status : Status) (result : List Byte) (s : State) : State :=
  takeCommitAnswer { s with record := none, commitAnswer := some (c.answer status result) }

/-- Completion is judged after an event that changed the open record (R126). -/
def judgeCompletion (s : State) : State :=
  match s.record with
  | some c => if c.complete then closeRecord c .done c.doneResult s else s
  | none => s

/-- A change of the open record, if one is open. -/
def modRecord (f : CommitRecord → CommitRecord) (s : State) : State := { s with record := s.record.map f }

/-! ### Stream images -/

/-- The generation after one more application (R1, R121). -/
def nextGeneration (g : Nat) : Nat := if g = 65535 then 1 else g + 1

/-- The settle deadline an application sets (R125). -/
def settleAfter (now : PaceCount) (interval : Nat) : Option PaceCount :=
  if interval = 0 then none else some (deadlineAfter now interval)

/-- What an application does to the stream's own record, over all its owners (R27, R98, R109, R121 steps 1 to 6,
R125). The queue is kept whole. -/
def StreamRec.applyImage (now : PaceCount) (interval : Nat) (img : StreamImage) (r : StreamRec) : StreamRec :=
  { r with
    config := img
    generation := nextGeneration r.generation
    staged := none
    commitPending := false
    settle := settleAfter now interval
    count := if img.reload = r.config.reload then r.count else img.reload
    credit := min r.credit img.creditCap
    expected := if img.sourcePort = r.config.sourcePort then r.expected else none }

/-- The application event up to the arbiter's notification (R121 steps 1 to 7): the stream leaves the pending set of the
open record, and its request entry is removed. The notification of step 7, which judges the stream afresh, follows the
event; the pacing unit's own of step 5 would find the same stream and is taken with it (log 9). At the loss of a lane
both follow the lane controller's own notification, which has judged the stream as they would, and find nothing to do
(R53, R62; log 8). -/
def applyRecord (i : StreamNo) (img : StreamImage) (s : State) : State :=
  let s := s.modStream i (StreamRec.applyImage s.paceCount s.params.settleInterval img)
  removeEntry i (modRecord (fun c => { c with streams := c.streams.filter (· != i) }) s)

/-- The commit unit takes the lane-no-longer-held claim (R122): with commit pending, the staged image is applied, and
counted in the open record if that holds the stream. -/
def commitLoss (i : StreamNo) (s : State) : State :=
  let r := s.stream i
  match r.commitPending, r.staged with
  | true, some img =>
    let s := modRecord (fun c => if c.streams.contains i then { c with applied := c.applied + 1 } else c) s
    judgeCompletion (applyRecord i img s)
  | _, _ => s

/-! ### The device parameter set -/

/-- The application of the staged device parameter set (R124), with the arbiter's taking of the new budget values
(R52). A device part that is pending in an open record becomes applied. -/
def applyDevice (d : DeviceParams) (s : State) : State :=
  let s :=
    { s with
      params := d
      stagedParams := none
      trunkCommitPending := false }
  let s := modRecord (fun c => if c.devicePart = .pending then { c with devicePart := .applied } else c) s
  takeBudgetValues s

/-- The commit unit judges the lanes again (R123): when no lane is in handshake, a set that trunk commit pending
waits with is applied; then the arbiter's pass (R51) and the completion (R126). -/
def judgeDevicePart (s : State) : State :=
  match s.stagedParams with
  | some d =>
    if s.trunkCommitPending && s.lanesQuiet then judgeCompletion (callPass (applyDevice d s)) else s
  | none => s

end Sys2Proof.Machine
end

