-- ==== Sys2Proof/Machine/Handshakes.lean ====
section
/-! DEFINITION. The lane controller's handshakes to their ends: losses of a lane, inbound lane control cells, answer
timeouts, LANE-CONTROL, and the trunk link's changes (chapter 4). -/

namespace Sys2Proof.Machine

/-! ### A holder loses its lane -/

/-- Step 1 of R62: the lane's holder and the stream's held lane become absent. -/
def clearHolder (l : LaneNo) (i : StreamNo) (s : State) : State :=
  (s.modLane l fun r => { r with holder := none }).modStream i fun r => { r with heldLane := none }

/-- Steps 2 to 4 of R62: the stream table's claim (R13), the commit unit's claim (R122), the arbiter's notification
(R43). -/
def lossClaims (kind : NotifyKind) (i : StreamNo) (s : State) : State :=
  notify kind i (commitLoss i (judgeDrain i s))

/-- A holder ceases to hold its lane (R62). -/
def loseLane (kind : NotifyKind) (l : LaneNo) (i : StreamNo) (s : State) : State :=
  lossClaims kind i (clearHolder l i s)

/-- The loss for whatever holder the lane has; a lane without one loses nothing. -/
def loseHolder (kind : NotifyKind) (l : LaneNo) (s : State) : State :=
  match (s.lane l).holder with
  | some i => loseLane kind l i s
  | none => s

/-! ### Inbound lane control cells -/

/-- A stale cell (R64): discarded, counted, STALE_ANSWER raised. -/
def staleCell (l : LaneNo) (s : State) : State :=
  raise (.lane l .staleAnswer) (s.modLane l fun r => { r with staleAnswers := r.staleAnswers + 1 })

/-- A stray cell (R64): discarded, STRAY_CONTROL raised. -/
def strayCell (l : LaneNo) (s : State) : State := raise (.lane l .strayControl) s

/-- An inbound answer that would answer the handshake `kind` (R64): stale, matching or stray. -/
def takeAnswer (kind : Handshake) (l : LaneNo) (tag : Byte) (matching : State → State) (s : State) : State :=
  if tag ≠ (s.lane l).tag then staleCell l s
  else if (s.lane l).outstanding = some kind then matching s
  else strayCell l s

/-- A matching BIND-ACK ACCEPT (R65), with the report to the commit unit that the lane has left BINDING (R57). -/
def bindAcceptMatched (l : LaneNo) (s : State) : State :=
  let s := s.modLane l fun r =>
    { r.endHandshake with
      state := .bound, paused := false, holdDeadline := none, bindsAccepted := r.bindsAccepted + 1 }
  let s :=
    match (s.lane l).holder with
    | some i => notify .bindAccepted i (bindAccepted i s)
    | none => s
  judgeDevicePart (judgeLane l s)

/-- The lane controller's own part of a REFUSE or a RELEASE-ACK, one event (R66, R69): the holder and its held lane
become absent, and the lane is FREE in its list, or DISABLED. The claims that the event sends are taken after it. -/
def handBack (l : LaneNo) (i : StreamNo) (s : State) : State := freeOrDisable l (clearHolder l i s)

/-- The arbiter's two events of a refusal, the stream's notification and, where the lane has joined its list, the pass
on the join, in either order: a turn decides (R53, R66; log 6). -/
def refusalReports (i : StreamNo) (joined : Bool) (s : State) : State :=
  if joined then
    let (joinFirst, s) := s.takeTurn
    if joinFirst then notify .bindRefused i (callPass s) else callPass (notify .bindRefused i s)
  else notify .bindRefused i s

/-- A matching BIND-ACK REFUSE (R66): the lane's own event; the claims of the refusal and of the loss (R62); the
arbiter's events; the commit unit's report. -/
def bindRefuseMatched (l : LaneNo) (s : State) : State :=
  let s := s.modLane l fun r => { r.endHandshake with bindsRefused := r.bindsRefused + 1 }
  let joined := !(s.lane l).disablePending
  match (s.lane l).holder with
  | some i =>
    let s := bindRefused i (handBack l i s)
    judgeDevicePart (refusalReports i joined (commitLoss i (judgeDrain i s)))
  | none => judgeDevicePart (passOnJoin joined (freeOrDisable l s))

/-- A matching RELEASE-ACK (R69): the lane's own event; the claims of the loss (R62) and the arbiter's notification; its
pass on the join (log 21); the commit unit's report. -/
def releaseAckMatched (l : LaneNo) (s : State) : State :=
  let s := s.modLane l LaneRec.endHandshake
  let joined := !(s.lane l).disablePending
  match (s.lane l).holder with
  | some i => judgeDevicePart (passOnJoin joined (lossClaims .releaseCompleted i (handBack l i s)))
  | none => judgeDevicePart (passOnJoin joined (freeOrDisable l s))

/-- A matching RESET-ACK (R72). -/
def resetAckMatched (l : LaneNo) (s : State) : State :=
  let s := s.modLane l LaneRec.endHandshake
  judgeDevicePart (passOnJoin (!(s.lane l).disablePending) (freeOrDisable l s))

/-- A BIND-ACK whose code is neither ACCEPT nor REFUSE (R64): stale with another tag, else stray. -/
def takeUnknownAnswer (l : LaneNo) (tag : Byte) (s : State) : State :=
  if tag ≠ (s.lane l).tag then staleCell l s else strayCell l s

/-- A PAUSE or RESUME (R64, R74): `paused` is what the flag becomes on a BOUND lane. -/
def takePause (paused : Bool) (l : LaneNo) (tag : Byte) (s : State) : State :=
  if tag ≠ (s.lane l).tag then staleCell l s
  else if (s.lane l).state = .bound then s.modLane l fun r => { r with paused := paused }
  else strayCell l s

/-! ### Answer timeouts -/

/-- The lane at an answer timeout (R63, R76): the tag moves on, the handshake ends, the timeout is counted, and the lane
becomes QUARANTINED, or DISABLED with a disable pending. -/
def LaneRec.timedOut (r : LaneRec) : LaneRec :=
  { r.endHandshake with
    tag := r.tag + 1
    answerTimeouts := r.answerTimeouts + 1
    state := if r.disablePending then .disabled else .quarantined
    disablePending := false }

/-- The expiry of a lane's answer deadline (R63), by the lane's state. -/
def answerTimeout (l : LaneNo) (s : State) : State :=
  let r := s.lane l
  let t := s.modLane l LaneRec.timedOut
  match r.state with
  | .binding =>
    let t := raise (.lane l .answerTimeout) t
    match r.holder with
    | some i => judgeDevicePart (loseLane .bindTimeout l i (raise (.stream i .laneLost) t))
    | none => judgeDevicePart t
  | .unbinding =>
    judgeDevicePart (loseHolder .releaseTimeout l (raise (.lane l .answerTimeout) t))
  | .recovering => judgeDevicePart (raise (.lane l .recoveryFailed) t)
  | .down => s
  | .free => s
  | .bound => s
  | .quarantined => s
  | .disabled => s

/-! ### LANE-CONTROL -/

/-- A FREE lane leaves its free-lane list at its place (R60, R75); if that empties the list, the group's lanes are
judged (R91). -/
def leaveFreeList (l : LaneNo) (s : State) : State :=
  let g := (s.lane l).group
  let rest := (s.freeLanes.read g).filter (· != l)
  let s := s.setFree g rest
  if rest.isEmpty then judgeGroup g s else s

/-- LANE-CONTROL disable (R75). -/
def laneDisable (l : LaneNo) (s : State) : Status × State :=
  let pend (t : State) : State := t.modLane l fun r => { r with disablePending := true }
  match (s.lane l).state with
  | .free => (.done, leaveFreeList l (s.modLane l fun r => { r with state := .disabled }))
  | .down => (.done, s.modLane l fun r => { r with state := .disabled })
  | .quarantined => (.done, s.modLane l fun r => { r with state := .disabled })
  | .binding => (.done, pend s)
  | .bound => (.done, pend (startRelease l s))
  | .unbinding => (.done, pend s)
  | .recovering => (.done, pend s)
  | .disabled => (.wrongState, s)

/-- LANE-CONTROL disable at the lane controller: of a FREE lane, which leaves its free-lane list, it can come in the
midst of a pass (R50) and so find the lane BINDING. -/
def disableLane (l : LaneNo) (s : State) : Status × State :=
  if (s.lane l).state = .free then (.done, duringPass (fun t => (laneDisable l t).2) s) else laneDisable l s

/-- LANE-CONTROL enable (R77). -/
def laneEnable (l : LaneNo) (s : State) : Status × State :=
  if (s.lane l).state = .disabled then
    if s.trunkUp then (.done, startRecovery l s) else (.done, s.modLane l fun r => { r with state := .down })
  else (.wrongState, s)

/-- LANE-CONTROL retire (R78). -/
def laneRetire (l : LaneNo) (s : State) : Status × State :=
  if (s.lane l).state = .bound then (.done, startRelease l s) else (.wrongState, s)

/-- LANE-CONTROL recover (R78). -/
def laneRecover (l : LaneNo) (s : State) : Status × State :=
  if (s.lane l).state = .quarantined then (.done, startRecovery l s) else (.wrongState, s)

/-- A pending disable is applied to a lane whose handshake has ended (R76): DISABLED, out of any free-lane list, with a
BOUND lane released at once instead (R65, R92 test 1). -/
def applyPendingDisable (l : LaneNo) (s : State) : State :=
  let r := s.lane l
  if r.disablePending && r.outstanding.isNone then
    if r.state = .bound then startRelease l s
    else if r.state = .free then leaveFreeList l (becomeDisabled l s)
    else becomeDisabled l s
  else s

/-! ### The trunk link -/

/-- A lane at the loss of the trunk or at RESTART (R79 steps 2 to 5, R83): a DISABLED lane keeps its state, one with a
disable pending becomes DISABLED, every other becomes DOWN; the tag, the group and the counters are kept. A slot that
has begun no claim of a launch begins none (R96). -/
def LaneRec.dropped (r : LaneRec) : LaneRec :=
  { r.endHandshake with
    state := if r.state = .disabled ∨ r.disablePending = true then .disabled else .down
    disablePending := false
    holdDeadline := none
    paused := false
    launching := none }

/-- Every lane is taken down at once, at the loss of the trunk and at RESTART (R79 steps 1 to 5, R83): free-lane lists
emptied, lanes dropped, every holder and every held lane absent (R62 step 1). -/
def dropLanes (s : State) : State :=
  { s with
    freeLanes := Table.const 4 []
    lanes := s.lanes.mapAll fun r => { r.dropped with holder := none }
    streams := s.streams.mapAll fun r => { r with heldLane := none } }

/-- The claims of one lane's former holder at trunk DOWN (R79 step 6): LANE_LOST if the lane, as the event found it, was
BOUND or BINDING; then steps 2 to 4 of R62. -/
def trunkLoss (before : LaneRec) (s : State) : State :=
  match before.holder with
  | some i =>
    let s :=
      if before.state = .bound ∨ before.state = .binding then raise (.stream i .laneLost) s else s
    lossClaims .trunkLost i s
  | none => s

/-- The trunk link goes DOWN (R79, R162). -/
def trunkDown (s : State) : State :=
  let held := s.lanes.indicesWhere fun r => r.holder.isSome
  let t := dropLanes (raise (.device .trunkDown) { s with trunkUp := false })
  judgeDevicePart (held.foldl (fun t l => trunkLoss (s.lane l) t) t)

/-- The trunk link comes UP (R80, R162). -/
def trunkUp (s : State) : State := recoverDownLanes { s with trunkUp := true }

/-- A lane's HUNTING receive side gains alignment when six cells in a row have passed (R160, R162); the last lane of the
sixteen takes the trunk UP. -/
def alignLane (l : LaneNo) (s : State) : State :=
  if (s.lane l).aligned then s
  else if Config.cellsToAlign ≤ (s.lane l).passes then
    let s := s.modLane l fun r => { r with aligned := true, failures := 0, passes := 0 }
    if s.allAligned && !s.trunkUp then trunkUp s else s
  else s

/-- A cell that passes its header check on a lane (R160, R162, R163). On an ALIGNED lane the run of failures ends;
while the trunk is UP the cell is taken by `take`, otherwise it is discarded. On a HUNTING lane it counts toward the
six. -/
def onTrunkCell (l : LaneNo) (take : State → State) (s : State) : State :=
  if (s.lane l).aligned then
    let s := s.modLane l fun r => { r with failures := 0 }
    if s.trunkUp then take s else s
  else s.modLane l fun r => { r with passes := oneMorePass r.passes }

end Sys2Proof.Machine
end

