-- ==== Sys2Proof/Machine/Links.lean ====
section
/-! DEFINITION. The transmit and receive sides of the links: cells formed and sent (R164), lane slots and launches
(chapter 5), the loss of the trunk (R79, R162), edge slots (R136, R144), admission (chapter 6), the edge ports (R160,
R161). -/

namespace Sys2Proof.Machine

/-! ### Cells sent -/

/-- The zero payload. -/
def zeroPayload : Payload := octetTable 56 []

/-- A FILL cell (R164): the lane field is 0 on an edge port, the lane's number on the trunk. -/
def fillCell (lane : Nat) : Cell := formCell ⟨kindFill, 0, lane, 0, 0, 0, 0⟩ zeroPayload

/-- The kind of a control cell (R167). -/
def Handshake.kind : Handshake → BitVec 4
  | .bind => kindBind
  | .release => kindRelease
  | .laneReset => kindLaneReset

/-- A control cell as sent (R86, R164). -/
def ControlCell.cell (l : LaneNo) (c : ControlCell) : Cell :=
  formCell ⟨c.kind.kind, 0, l.val, c.stream, 0, c.tag, 0⟩ zeroPayload

/-- A launched traffic cell as sent (R88, R164). -/
def launchedCell (l : LaneNo) (c : TrafficCell) : Cell :=
  formCell ⟨kindTraffic, c.flags, l.val, c.stream, c.sequence, 0, 0⟩ c.payload

/-- Status codes (R168). -/
def Status.code : Status → Byte
  | .done => 0x00
  | .busy => 0x01
  | .noPrivilege => 0x02
  | .badCommand => 0x03
  | .badTarget => 0x04
  | .badValue => 0x05
  | .wrongState => 0x06
  | .commitLate => 0x07

/-- A response cell as sent (R144, R164). -/
def Response.cell (a : Response) : Cell :=
  formCell ⟨kindResponse, 0, 0, 0, 0, a.tag, a.status.code⟩ a.payload

/-- A cause code: the level's base plus the cause's bit (R171). -/
def CausePoint.code : CausePoint → Nat
  | .stream _ c => 0x10 + c.bit.val
  | .lane _ c => 0x20 + c.bit.val
  | .port _ c => 0x30 + c.bit.val
  | .device c => 0x40 + c.bit.val

/-- A level's number (R168, R171). -/
def CausePoint.level : CausePoint → Nat
  | .device _ => 0
  | .port _ _ => 1
  | .lane _ _ => 2
  | .stream _ _ => 3

/-- A target's number, 0 for the device (R171). -/
def CausePoint.target : CausePoint → Nat
  | .device _ => 0
  | .port p _ => p.val
  | .lane l _ => l.val
  | .stream i _ => i.val

/-- A report cell's payload (R171). -/
def Report.payload (r : Report) : Payload :=
  octetTable 56
    (octet1 r.point.level ++ octets2 r.point.target ++ octet1 r.point.code ++ octet1 r.occurrences ++
      octets4 r.first)

/-- A report cell as sent (R136, R164). -/
def Report.cell (r : Report) : Cell :=
  formCell ⟨kindReport, 0, 0, 0, 0, 0, BitVec.ofNat 8 r.point.code⟩ r.payload

/-- A cell leaves in a lane's slot, which ends the slot. -/
def sendOnLane (l : LaneNo) (c : Cell) (s : State) : State :=
  s.modLane l fun r => { r with sent := some c, launching := none }

def sendOnPort (p : PortNo) (c : Cell) (s : State) : State := s.modPort p fun r => { r with sent := some c }

/-! ### Lane slots -/

/-- A waiting control cell is sent (R61, R86): it leaves its place, and the answer deadline runs from now. -/
def sendControl (l : LaneNo) (c : ControlCell) (s : State) : State :=
  let s := s.modLane l fun r =>
    { r with
      waitingCell := none
      answerDeadline := some (deadlineAfter s.paceCount s.params.answerTimeout) }
  sendOnLane l (c.cell l) s

/-- FILL in a lane's slot. -/
def sendFill (l : LaneNo) (s : State) : State := sendOnLane l (fillCell l.val) s

/-- A slot has read the launch conditions of its lane and found them to hold: a launch of the stream is in flight, its
claims still to come. -/
def beginLaunch (l : LaneNo) (i : StreamNo) (s : State) : State :=
  s.modLane l fun r => { r with launching := some i }

/-- A launch from its take-head claim on (R88 steps 2 to 4, R89): the head cell is sent and counted, and an emptied
queue is judged for a drain (R13); a queue found empty leaves FILL in the slot, and the credit consumed is not returned.
-/
def launchCell (l : LaneNo) (i : StreamNo) (s : State) : State :=
  match takeHead i s with
  | (none, s) => sendFill l s
  | (some c, s) =>
    let s := if (s.stream i).queue.isEmpty then judgeDrain i s else s
    let s := sendOnLane l (launchedCell l c) s
    s.modStream i fun r => { r with launched := r.launched + 1 }

/-- A launch from its credit claim on (R88, R89): a refused claim leaves FILL in the slot. -/
def launchCredit (l : LaneNo) (i : StreamNo) (s : State) : State :=
  match consumeCredit i s with
  | (false, s) => sendFill l s
  | (true, s) => launchCell l i s

/-- The transmitter reads the state for a slot (R85, R87): a waiting control cell is sent, a launch begins if its
conditions hold, else FILL. A turn says whether another event comes between the reading and the credit claim (log 6). -/
def readSlot (l : LaneNo) (s : State) : State :=
  if s.trunkUp then
    match (s.lane l).waitingCell, (s.lane l).holder with
    | some c, _ => sendControl l c s
    | none, some i =>
      if launchable s.trunkUp (s.lane l) (s.stream i) then
        let (gap, s) := s.takeTurn
        let s := beginLaunch l i s
        if gap then s else launchCredit l i s
      else sendFill l s
    | none, none => sendFill l s
  else sendFill l s

/-- A lane's slot (R85). A launch in flight goes on with its claims, which can fail (R88, R89), while the lane still
carries its stream's cells; on a lane that no longer does, no traffic cell leaves, and the slot judges the lane as it
stands (R89, R90, R96; log 29). -/
def laneSlot (l : LaneNo) (s : State) : State :=
  match (s.lane l).launching with
  | some i => if s.carries l i then launchCredit l i s else readSlot l s
  | none => readSlot l s

/-! ### Events among the claims of launches in flight -/

/-- The launches in flight of the streams `which`, each with its lane, in ascending order of lane number. -/
def State.launches (s : State) (which : StreamNo → Bool) : List (LaneNo × StreamNo) :=
  (List.finRange 16).filterMap fun l =>
    match (s.lane l).launching with
    | some i => if which i && s.carries l i then some (l, i) else none
    | none => none

/-- The credit claims that launches in flight have had granted when an event comes before their take-head claims: a turn
for each launch whose stream has credit says whether it is among them (R89; log 6). -/
def chargeLaunches : List (LaneNo × StreamNo) → State → List (LaneNo × StreamNo) × State
  | [], s => ([], s)
  | f :: fs, s =>
    if (s.stream f.2).credit = 0 then chargeLaunches fs s
    else
      let (granted, s) := s.takeTurn
      if granted then
        let (charged, s) := chargeLaunches fs (consumeCredit f.2 s).2
        (f :: charged, s)
      else chargeLaunches fs s

/-- A launch in flight after an event that came among its claims (R89): with its credit claim granted before the event,
it goes on with its take-head claim; with that claim still to come, credit 0 has it refused. Either failure leaves FILL
in the slot. -/
def endLaunch (charged : List (LaneNo × StreamNo)) (s : State) (f : LaneNo × StreamNo) : State :=
  if charged.contains f then launchCell f.1 f.2 s
  else if (s.stream f.2).credit = 0 then sendFill f.1 s
  else s

/-- An event that flushes the queues of the streams `which` or takes their lanes, and the launches that they have in
flight (R18 sixth row, R89): the event comes before both claims of a launch, or between the two. -/
def duringLaunches (which : StreamNo → Bool) (event : State → State) (s : State) : State :=
  let flights := s.launches which
  let (charged, t) := chargeLaunches flights s
  flights.foldl (endLaunch charged) (event t)

/-- An event that can set the credit of the streams `which` to 0, and the launches that they have in flight (R89): the
event comes before the credit claim of a launch. -/
def beforeCredit (which : StreamNo → Bool) (event : State → State) (s : State) : State :=
  (s.launches which).foldl (endLaunch []) (event s)

/-! ### The loss of the trunk link -/

/-- The trunk link goes DOWN (R79) while other blocks are at work: in the midst of a pass (R50), and between the two
claims of a launch in flight, so that the queue-empty claim of that launch finds the lane no longer held (R18, sixth
row; R88). The cell of such a launch leaves in the slot that read the conditions while the link was UP; every slot from
then on sends FILL (R96). -/
def loseTrunk (s : State) : State := duringLaunches (fun _ => true) (duringPass trunkDown) s

/-- A lane's receive side loses alignment (R162): while the trunk is UP, this takes it DOWN. -/
def loseAlignment (l : LaneNo) (s : State) : State :=
  if (s.lane l).aligned then
    let s := s.modLane l fun r => { r with aligned := false, failures := 0, passes := 0 }
    if s.trunkUp then loseTrunk s else s
  else s

/-- A cell that fails its header check on a lane (R160, R162, R163): on an ALIGNED lane the seventh in a row loses
alignment; on a HUNTING lane it ends the run of passes. -/
def failedTrunkCell (l : LaneNo) (s : State) : State :=
  if (s.lane l).aligned then
    let s := s.modLane l fun r => { r with failures := r.failures + 1 }
    if Config.failuresToLose ≤ (s.lane l).failures then loseAlignment l s else s
  else s.modLane l fun r => { r with passes := 0 }

/-! ### Edge slots -/

/-- An edge port's outbound slot (R136, R144): nothing while DOWN; the head response; on the report port with no
response the head report; FILL. -/
def edgeSlot (p : PortNo) (s : State) : State :=
  let r := s.port p
  if r.aligned then
    match r.responses with
    | a :: rest => sendOnPort p a.cell (s.modPort p fun r => { r with responses := rest })
    | [] =>
      if s.params.reportPort = some p then
        match s.reports with
        | rep :: rest => sendOnPort p rep.cell { s with reports := rest }
        | [] => sendOnPort p (fillCell 0) s
      else sendOnPort p (fillCell 0) s
  else s

/-! ### Admission -/

/-- A drop with MISROUTED (R99, R100, R102, R161): counted on the port, with the stream the cell names. -/
def misrouted (p : PortNo) (i : StreamNo) (s : State) : State :=
  let s := s.modPort p fun r => { r with misrouted := r.misrouted + 1, lastMisrouted := some i }
  raise (.port p .misrouted) s

/-- A drop for the queue limit or the empty pool (R102). -/
def queueDropped (i : StreamNo) (s : State) : State :=
  raise (.stream i .queueDrop) (s.modStream i fun r => { r with queueDrops := r.queueDrops + 1 })

/-- A drop as a duplicate (R101). -/
def duplicateDropped (i : StreamNo) (s : State) : State :=
  raise (.stream i .duplicateDrop) (s.modStream i fun r => { r with duplicateDrops := r.duplicateDrops + 1 })

/-- The admission step (R103), `gap` if the cell was marked. -/
def admitted (gap : Bool) (i : StreamNo) (s : State) : State :=
  let s := s.modStream i fun r => { r with admitted := r.admitted + 1 }
  if gap then
    raise (.stream i .seqGap) (s.modStream i fun r => { r with sequenceGaps := r.sequenceGaps + 1 })
  else s

/-- The three outcomes of the sequence check (R101). -/
inductive SequenceOutcome where
  | inOrder | gap | duplicate
  deriving DecidableEq, Repr

/-- The sequence check of a cell numbered `n` (R101). -/
def sequenceOutcome (r : StreamRec) (n : Byte) : SequenceOutcome :=
  match r.config.sequenceCheck, r.expected with
  | true, some e => if n = e then .inOrder else if n = e - 1 then .duplicate else .gap
  | _, _ => .inOrder

/-- The append claim and what its answer brings (R102, R103). -/
def offerCell (p : PortNo) (a : Arrival) (s : State) : State :=
  let i := a.cell.stream
  match appendAnswer i a.limit s with
  | .appended => admitted a.gap i (appendCell i a.cell s)
  | .limit => queueDropped i s
  | .pool => queueDropped i s
  | .closed => misrouted p i s

/-- An arrival in flight goes on with its append claim, which ends it (R102). -/
def offerArrival (p : PortNo) (a : Arrival) (s : State) : State :=
  offerCell p a (s.modPort p fun r => { r with arriving := none })

/-- The arrival of a traffic cell at the admission unit (R97 to R103): the checks, the expected sequence, the append
claim. A turn says whether another event comes between the last two (R111, third row; log 30). -/
def admitArrival (p : PortNo) (c : TrafficCell) (s : State) : State :=
  let r := s.stream c.stream
  if !(s.port p).record.acceptance then misrouted p c.stream s
  else if !r.admits || r.config.sourcePort != p then misrouted p c.stream s
  else
    match sequenceOutcome r c.sequence with
    | .duplicate => duplicateDropped c.stream s
    | outcome =>
      let s := s.modStream c.stream fun r => { r with expected := some (c.sequence + 1) }
      let (later, s) := s.takeTurn
      let a : Arrival := ⟨c, r.config.queueLimit, outcome == .gap⟩
      let s := s.modPort p fun r => { r with arriving := some a }
      if later then s else offerArrival p a s

/-! ### Edge ports -/

/-- The edge link comes UP when six cells in a row have passed on a HUNTING port (R160). -/
def edgeLinkUp (p : PortNo) (s : State) : State :=
  if !(s.port p).aligned && Config.cellsToAlign ≤ (s.port p).passes then
    s.modPort p fun r => { r with aligned := true, failures := 0, passes := 0 }
  else s

/-- The agent takes the loss of a port's link (R158). -/
def agentLoss (p : PortNo) (s : State) : State :=
  { s with
    inExecution := s.inExecution.map fun e => if e.port = p then { e with void := true } else e
    owedVoid := s.owedVoid || decide (s.barred = some p) }

/-- The admission unit takes the loss of a port's link (R98): the expected sequence of every stream sourced there
becomes unsynchronized. -/
def admissionLoss (p : PortNo) (s : State) : State :=
  { s with
    streams := s.streams.mapAll fun r => if r.config.sourcePort = p then { r with expected := none } else r }

/-- The edge link goes DOWN (R158, R160): HUNTING, both queues emptied, a reserved place kept, LINK_DOWN raised, the
agent and the admission unit told. -/
def edgeLinkDown (p : PortNo) (s : State) : State :=
  if (s.port p).aligned then
    let s := s.modPort p fun r =>
      { r with aligned := false, failures := 0, passes := 0, requests := [], responses := [] }
    admissionLoss p (agentLoss p (raise (.port p .linkDown) s))
  else s

/-- A cell that passes its header check on a port (R160, R161): on an ALIGNED port it is counted as received, the run of
failures is ended, and it is taken by `take`; on a HUNTING port it counts toward the six and is discarded. -/
def onEdgeCell (p : PortNo) (take : State → State) (s : State) : State :=
  if (s.port p).aligned then
    take (s.modPort p fun r => { r with received := r.received + 1, failures := 0 })
  else s.modPort p fun r => { r with passes := oneMorePass r.passes }

/-- A traffic cell comes in on a port (R97, R161). An arrival in flight on the port is ended first, since arrivals on one
port are taken in their order; the same cell sent again is what ends it, and no second arrival (log 30). -/
def trafficCell (p : PortNo) (c : TrafficCell) (s : State) : State :=
  match (s.port p).arriving with
  | some a =>
    let s := offerArrival p a s
    if a.cell = c then s else onEdgeCell p (admitArrival p c) s
  | none => onEdgeCell p (admitArrival p c) s

/-- A cell of a kind not taken (R161). -/
def badKind (p : PortNo) (s : State) : State :=
  raise (.port p .badKind) (s.modPort p fun r => { r with badKinds := r.badKinds + 1 })

/-- A cell that fails its header check on a port (R160, R161): on an ALIGNED port it is counted, BAD_CHECK is raised,
and the seventh in a row takes the link DOWN (log 13); on a HUNTING port it ends the run of passes. -/
def failedEdgeCell (p : PortNo) (s : State) : State :=
  if (s.port p).aligned then
    let s := s.modPort p fun r =>
      { r with checkFailures := r.checkFailures + 1, failures := r.failures + 1 }
    let s := raise (.port p .badCheck) s
    if Config.failuresToLose ≤ (s.port p).failures then edgeLinkDown p s else s
  else s.modPort p fun r => { r with passes := 0 }

/-- The commands (R168). -/
inductive Command where
  | readDevice | readPort | readLane | readStream | readNotices
  | stageDevice | stagePort | stageStream | discard | commit
  | openStream | closeStream | clearHold | timerControl | ackNotice | laneControl | restart
  deriving DecidableEq, Repr

/-- The command of a code: the seventeen of R168. -/
def Command.ofCode (c : Byte) : Option Command :=
  if c = 0x01 then some .readDevice
  else if c = 0x02 then some .readPort
  else if c = 0x03 then some .readLane
  else if c = 0x04 then some .readStream
  else if c = 0x05 then some .readNotices
  else if c = 0x06 then some .stageDevice
  else if c = 0x07 then some .stagePort
  else if c = 0x08 then some .stageStream
  else if c = 0x09 then some .discard
  else if c = 0x0A then some .commit
  else if c = 0x0B then some .openStream
  else if c = 0x0C then some .closeStream
  else if c = 0x0D then some .clearHold
  else if c = 0x0E then some .timerControl
  else if c = 0x0F then some .ackNotice
  else if c = 0x10 then some .laneControl
  else if c = 0x11 then some .restart
  else none

/-- A BUSY response (R143, R168): octet 0 echoes the command code, the rest is zero. -/
def busyResponse (r : Request) : Response := ⟨r.tag, .busy, octetTable 56 [r.code]⟩

/-- The arrival of a request (R143). -/
def requestArrival (p : PortNo) (q : Request) (s : State) : State :=
  let r := s.port p
  if r.requests.length < Config.requestCapacity then
    s.modPort p fun r => { r with requests := r.requests ++ [q] }
  else if !r.responsesFull then
    s.modPort p fun r => { r with responses := r.responses ++ [busyResponse q] }
  else raise (.port p .mgmtOverrun) s

end Sys2Proof.Machine
end

