-- ==== Sys2Proof/Machine/Operands.lean ====
section
/-! DEFINITION. The operands of a management request (R168 to R172): targets, selectors, images with their checks, and
the images as they are sent back. -/

namespace Sys2Proof.Machine

/-- The target in octets 0 and 1 (R168). -/
def targetOf (q : Request) : Nat := word16At q.payload 0

/-- The selector in octet 2 (R168). -/
def selectorOf (q : Request) : Nat := (octetAt q.payload 2).toNat

/-- A stream number in range (R146 step 4). -/
def streamOfNat (n : Nat) : Option StreamNo := if h : n < 512 then some ⟨n, h⟩ else none

/-- A lane number in range. -/
def laneOfNat (n : Nat) : Option LaneNo := if h : n < 16 then some ⟨n, h⟩ else none

/-- A port number in range. -/
def portOfNat (n : Nat) : Option PortNo := if h : n < 6 then some ⟨n, h⟩ else none

/-- The target of a notice request: a level and a target of that level (R146, R168). -/
inductive NoticeTarget where
  | device
  | port (p : PortNo)
  | lane (l : LaneNo)
  | stream (i : StreamNo)
  deriving DecidableEq, Repr

/-- The level in octet 0 and the target in octets 1 and 2, which level device ignores (R154, R168). -/
def noticeTargetOf (q : Request) : Option NoticeTarget :=
  let level := (octetAt q.payload 0).toNat
  let target := word16At q.payload 1
  if level = 0 then some .device
  else if level = 1 then (portOfNat target).map .port
  else if level = 2 then (laneOfNat target).map .lane
  else if level = 3 then (streamOfNat target).map .stream
  else none

/-! ### The stream image (R169) -/

/-- The stream image in a block of octets from `k`, with the checks of R114: none where a field fails. -/
def streamImageAt (t : Payload) (k : Nat) : Option StreamImage :=
  let flags := octetAt t (k + 5)
  let group := (octetAt t (k + 1)).toNat
  let queueLimit := (octetAt t (k + 2)).toNat
  let creditCap := (octetAt t (k + 3)).toNat
  let initialCredit := (octetAt t (k + 4)).toNat
  let reload := word16At t (k + 6)
  let leadPoint := if flags.getLsbD 0 then some (word16At t (k + 8)) else none
  let holdTime := word16At t (k + 10)
  match portOfNat (octetAt t k).toNat with
  | none => none
  | some port =>
    if h : group < 4 then
      if 1 ≤ queueLimit ∧ 1 ≤ reload ∧ leadPoint.getD 0 ≤ reload ∧ 1 ≤ creditCap ∧ creditCap ≤ 15
          ∧ initialCredit ≤ creditCap ∧ holdTime ≤ 4095 then
        some
          { sourcePort := port
            group := ⟨group, h⟩
            queueLimit := queueLimit
            reload := reload
            leadPoint := leadPoint
            creditCap := creditCap
            initialCredit := initialCredit
            holdTime := holdTime
            sequenceCheck := flags.getLsbD 1
            runAtOpen := flags.getLsbD 2
            reportMask := (octetAt t (k + 12)).extractLsb' 0 6 }
      else none
    else none

/-- A stream image's 16-octet block with a generation (R169); an absent lead point is sent as 0 (R173). -/
def StreamImage.octets (m : StreamImage) (generation : Nat) : List Byte :=
  octet1 m.sourcePort.val ++ octet1 m.group.val ++ octet1 m.queueLimit ++ octet1 m.creditCap
    ++ octet1 m.initialCredit
    ++ octet1 (m.leadPoint.isSome.toNat + 2 * m.sequenceCheck.toNat + 4 * m.runAtOpen.toNat)
    ++ octets2 m.reload ++ octets2 (m.leadPoint.getD 0) ++ octets2 m.holdTime
    ++ octet1 m.reportMask.toNat ++ octets2 generation ++ octet1 0

/-! ### The device parameter image (R170) -/

/-- The group of a lane in the four map octets from `k` (R170): two bits per lane, L0 lowest. -/
def mapGroupAt (t : Payload) (k : Nat) (lane : Nat) : GroupNo :=
  Fin.ofNat 4 ((octetAt t (k + lane / 4)).toNat / 4 ^ (lane % 4))

/-- The lane group map in the four octets from `k` (R170). -/
def groupMapAt (t : Payload) (k : Nat) : Table 16 GroupNo :=
  ⟨⟨(List.range 16).map (mapGroupAt t k)⟩, by simp⟩

/-- The report port's octet: 0 to 5, or 0xFF for NONE; any other value fails (R170). -/
def reportPortOf (o : Byte) : Option (Option PortNo) :=
  if o = 0xFF then some none else (portOfNat o.toNat).map some

/-- The device parameter image in a block of octets from `k`, with the checks of R115: none where a field fails. -/
def deviceImageAt (t : Payload) (k : Nat) : Option DeviceParams :=
  let paceMultiplier := word16At t k
  let budgetCount := (octetAt t (k + 2)).toNat
  let budgetWindow := word16At t (k + 3)
  let bindSpacing := word16At t (k + 5)
  let answerTimeout := word16At t (k + 7)
  let refusalLimit := (octetAt t (k + 9)).toNat
  let commitTimeout := word16At t (k + 11)
  match reportPortOf (octetAt t (k + 13)) with
  | none => none
  | some reportPort =>
    if 1 ≤ paceMultiplier ∧ paceMultiplier ≤ 1000 ∧ 1 ≤ budgetCount ∧ budgetCount ≤ 8 ∧ 1 ≤ budgetWindow
        ∧ bindSpacing ≤ 4095 ∧ bindSpacing ≤ budgetWindow ∧ 1 ≤ answerTimeout ∧ answerTimeout ≤ 4095
        ∧ 1 ≤ refusalLimit ∧ refusalLimit ≤ 7 ∧ 1 ≤ commitTimeout then
      some
        { paceMultiplier := paceMultiplier
          budgetCount := budgetCount
          budgetWindow := budgetWindow
          bindSpacing := bindSpacing
          answerTimeout := answerTimeout
          refusalLimit := refusalLimit
          settleInterval := (octetAt t (k + 10)).toNat
          commitTimeout := commitTimeout
          reportPort := reportPort
          groupMap := groupMapAt t (k + 14)
          laneMask := (octetAt t (k + 18)).extractLsb' 0 4
          portMask := (octetAt t (k + 19)).extractLsb' 0 6
          deviceMask := (octetAt t (k + 20)).extractLsb' 0 4 }
    else none

/-- Four lanes' groups in one map octet (R170), the first lane in the lowest bits. -/
def mapOctet : List GroupNo → Nat
  | [] => 0
  | g :: gs => g.val + 4 * mapOctet gs

/-- The four octets of a lane group map (R170). -/
def mapOctets (m : Table 16 GroupNo) : List Byte :=
  [0, 4, 8, 12].map fun k => BitVec.ofNat 8 (mapOctet ((m.toList.drop k).take 4))

/-- A device parameter set's 21-octet block (R170). -/
def DeviceParams.octets (d : DeviceParams) : List Byte :=
  octets2 d.paceMultiplier ++ octet1 d.budgetCount ++ octets2 d.budgetWindow ++ octets2 d.bindSpacing
    ++ octets2 d.answerTimeout ++ octet1 d.refusalLimit ++ octet1 d.settleInterval ++ octets2 d.commitTimeout
    ++ octet1 (match d.reportPort with | some p => p.val | none => 0xFF)
    ++ mapOctets d.groupMap ++ octet1 d.laneMask.toNat ++ octet1 d.portMask.toNat ++ octet1 d.deviceMask.toNat

/-! ### The port record (R116, R172) -/

/-- Management level codes (R172). -/
def Level.code : Level → Nat
  | .none => 0
  | .read => 1
  | .full => 2

/-- The port record in octets 3 and 4: none for any other value (R116, R172). -/
def portRecordOf (q : Request) : Option PortRecord :=
  let acceptance := (octetAt q.payload 3).toNat
  let level := (octetAt q.payload 4).toNat
  if acceptance ≤ 1 then
    if level = 0 then some ⟨acceptance == 1, .none⟩
    else if level = 1 then some ⟨acceptance == 1, .read⟩
    else if level = 2 then some ⟨acceptance == 1, .full⟩
    else none
  else none

/-! ### COMMIT and DISCARD (R172) -/

/-- The stream part of a COMMIT (R119). -/
inductive StreamPart where
  | absent
  | list (streams : List StreamNo)
  | allStaged
  deriving DecidableEq, Repr

/-- The scope of a COMMIT (R119, R172). -/
structure CommitScope where
  device  : Bool
  ports   : Bool
  streams : StreamPart
  deriving DecidableEq, Repr

/-- The listed stream numbers of a COMMIT: none if one is above 511. -/
def listedStreams (t : Payload) : Nat → Nat → Option (List StreamNo)
  | 0, _ => some []
  | n + 1, k =>
    match streamOfNat (word16At t k), listedStreams t n (k + 2) with
    | some i, some is => some (i :: is)
    | _, _ => none

/-- The scope of a COMMIT request, or the status that refuses it (R151): a faulty stream part or list length is
BAD-VALUE whatever numbers it carries; a listed number above 511 is BAD-TARGET. -/
def commitScopeOf (q : Request) : Except Status CommitScope :=
  let flags := octetAt q.payload 3
  let scope (part : StreamPart) : CommitScope := ⟨flags.getLsbD 0, flags.getLsbD 1, part⟩
  let length := (octetAt q.payload 4).toNat
  if selectorOf q = 0 then .ok (scope .absent)
  else if selectorOf q = 1 then
    if 1 ≤ length ∧ length ≤ 16 then
      match listedStreams q.payload length 5 with
      | some is => .ok (scope (.list is))
      | none => .error .badTarget
    else .error .badValue
  else if selectorOf q = 2 then .ok (scope .allStaged)
  else .error .badValue

/-- The scope of a DISCARD (R117). -/
inductive DiscardScope where
  | stream (i : StreamNo)
  | device
  | port (p : PortNo)
  | all
  deriving DecidableEq, Repr

/-- The scope of a DISCARD request, or the status that refuses it (R146, R150). -/
def discardScopeOf (q : Request) : Except Status DiscardScope :=
  if selectorOf q = 0 then
    match streamOfNat (targetOf q) with
    | some i => .ok (.stream i)
    | none => .error .badTarget
  else if selectorOf q = 1 then .ok .device
  else if selectorOf q = 2 then
    match portOfNat (targetOf q) with
    | some p => .ok (.port p)
    | none => .error .badTarget
  else if selectorOf q = 3 then .ok .all
  else .error .badValue

/-! ### ACK-NOTICE (R138, R171) -/

/-- The causes of a level, at a target, in the order of R130. -/
def NoticeTarget.points : NoticeTarget → List CausePoint
  | .device => [.poolEmpty, .trunkDown, .commitLate, .reportLost].map .device
  | .port p => [.badCheck, .badKind, .misrouted, .linkDown, .mgmtRefused, .mgmtOverrun].map (.port p)
  | .lane l => [.answerTimeout, .staleAnswer, .strayControl, .recoveryFailed].map (.lane l)
  | .stream i => [.seqGap, .duplicateDrop, .queueDrop, .creditSaturated, .held, .laneLost].map (.stream i)

/-- The causes that a cause mask names at a target: bit k is the level's k-th cause; none where a bit lies above the
level's highest cause (R171). -/
def namedCauses (n : NoticeTarget) (mask : Nat) : Option (List CausePoint) :=
  if mask < 2 ^ n.points.length then
    some ((n.points.zipIdx.filter fun pk => mask.testBit pk.2).map fun pk => pk.1)
  else none

end Sys2Proof.Machine
end

