-- ==== Sys2Proof/Machine/Results.lean ====
section
/-! DEFINITION. What the READ commands return (R139, R149, R169 to R171, R173): result octets from octet 2. -/

namespace Sys2Proof.Machine

/-- An optional pace count: present, then the value, 0 when absent (R173). -/
def octetsOfDeadline (d : Option PaceCount) : List Byte := octetOfBool d.isSome ++ octets4 (d.getD 0)

/-- A notice set: a count of entries, then cause code, occurrences and first pace count of each, in the order of
R130 (R139, R171). -/
def noticeOctets (n : NoticeTarget) (s : State) : List Byte :=
  let entries := n.points.filterMap fun pt => (s.entry pt).map fun e => (pt, e)
  octet1 entries.length ++
    entries.flatMap fun pe => octet1 pe.1.code ++ octet1 pe.2.occurrences ++ octets4 pe.2.first

/-- READ-DEVICE STATUS (R149, R173). -/
def deviceStatusOctets (s : State) : List Byte :=
  octet1 Config.vendorCode ++ octets2 Config.partCode ++ octet1 Config.revision ++ octets2 s.freeBuffers
    ++ octetOfBool s.trunkUp ++ octetOfBool s.trunkCommitPending ++ octets4 s.paceCount

/-- READ-DEVICE CONFIG (R170): the active set, staged present, the staged set. -/
def deviceConfigOctets (s : State) : List Byte :=
  s.params.octets ++ octetOfBool s.stagedParams.isSome ++
    match s.stagedParams with
    | some d => d.octets
    | none => []

/-- READ-PORT CONFIG (R173). -/
def portConfigOctets (r : PortRec) : List Byte :=
  octetOfBool r.record.acceptance ++ octet1 r.record.level.code ++
    (match r.staged with
      | some q => octetOfBool true ++ octetOfBool q.acceptance ++ octet1 q.level.code
      | none => [0, 0, 0])
    ++ octetOfBool r.aligned ++ octet1 r.requests.length ++ octet1 r.placesUsed

/-- READ-PORT COUNTERS (R173). -/
def portCounterOctets (r : PortRec) : List Byte :=
  octets4 r.received ++ octets4 r.checkFailures ++ octets4 r.badKinds ++ octets4 r.misrouted ++
    octetOfBool r.lastMisrouted.isSome ++ octets2 (match r.lastMisrouted with | some i => i.val | none => 0)

/-- Lane state codes (R173). -/
def LaneState.code : LaneState → Nat
  | .down => 0
  | .recovering => 1
  | .free => 2
  | .binding => 3
  | .bound => 4
  | .unbinding => 5
  | .quarantined => 6
  | .disabled => 7

/-- Outstanding request codes (R173). -/
def outstandingCode : Option Handshake → Nat
  | none => 0
  | some .bind => 1
  | some .release => 2
  | some .laneReset => 3

/-- READ-LANE RECORD (R173). -/
def laneRecordOctets (r : LaneRec) : List Byte :=
  octet1 r.state.code ++ octetOfBool r.holder.isSome ++ octets2 (match r.holder with | some i => i.val | none => 0)
    ++ [r.tag] ++ octet1 (outstandingCode r.outstanding) ++ octetsOfDeadline r.answerDeadline
    ++ octetsOfDeadline r.holdDeadline ++ octetOfBool r.paused ++ octetOfBool r.disablePending
    ++ octet1 r.group.val ++ octets4 r.bindsAccepted ++ octets4 r.bindsRefused ++ octets4 r.answerTimeouts
    ++ octets4 r.staleAnswers

/-- READ-STREAM CONFIG (R113, R169): the active record, staged present, the staged image with the generation it would
receive. -/
def streamConfigOctets (r : StreamRec) : List Byte :=
  r.config.octets r.generation ++ octetOfBool r.staged.isSome ++
    match r.staged with
    | some m => m.octets (nextGeneration r.generation)
    | none => []

/-- Life state and drain kind codes (R173). -/
def Life.codes : Life → List Byte
  | .closed => [0, 0]
  | .opened => [1, 0]
  | .held => [2, 0]
  | .draining .plain => [3, 1]
  | .draining .discard => [3, 2]

/-- Timer state codes (R173). -/
def Timer.code : Timer → Nat
  | .running => 0
  | .stopPending => 1
  | .stopped => 2

/-- Reason codes (R173). -/
def Reason.code : Reason → Nat
  | .demand => 0
  | .lead => 1

/-- READ-STREAM STATE (R173). -/
def streamStateOctets (i : StreamNo) (s : State) : List Byte :=
  let r := s.stream i
  r.life.codes ++ octets2 r.count ++ octet1 r.credit ++ octet1 r.timer.code ++ octet1 r.queue.length
    ++ octetOfBool r.expected.isSome ++ [r.expected.getD 0]
    ++ octetOfBool r.heldLane.isSome ++ octet1 (match r.heldLane with | some l => l.val | none => 0)
    ++ (match s.requests.find? (fun e => e.stream == i) with
      | some e => octetOfBool true ++ octets4 e.time ++ octet1 e.reason.code
      | none => [0, 0, 0, 0, 0, 0])
    ++ octet1 r.refusals ++ octetOfBool r.commitPending ++ octetsOfDeadline r.settle

/-- READ-STREAM COUNTERS (R173). -/
def streamCounterOctets (r : StreamRec) : List Byte :=
  octets4 r.admitted ++ octets4 r.launched ++ octets4 r.queueDrops ++ octets4 r.duplicateDrops ++
    octets4 r.sequenceGaps

/-- READ-DEVICE by part: none for a part it does not define (R172). -/
def readDeviceOctets (part : Nat) : Option (State → List Byte) :=
  if part = 0 then some deviceStatusOctets
  else if part = 1 then some deviceConfigOctets
  else if part = 2 then some (noticeOctets .device)
  else none

/-- READ-PORT by part. -/
def readPortOctets (p : PortNo) (part : Nat) : Option (State → List Byte) :=
  if part = 0 then some fun s => portConfigOctets (s.port p)
  else if part = 1 then some fun s => portCounterOctets (s.port p)
  else if part = 2 then some (noticeOctets (.port p))
  else none

/-- READ-LANE by part. -/
def readLaneOctets (l : LaneNo) (part : Nat) : Option (State → List Byte) :=
  if part = 0 then some fun s => laneRecordOctets (s.lane l)
  else if part = 1 then some (noticeOctets (.lane l))
  else none

/-- READ-STREAM by part. -/
def readStreamOctets (i : StreamNo) (part : Nat) : Option (State → List Byte) :=
  if part = 0 then some fun s => streamConfigOctets (s.stream i)
  else if part = 1 then some (streamStateOctets i)
  else if part = 2 then some fun s => streamCounterOctets (s.stream i)
  else if part = 3 then some (noticeOctets (.stream i))
  else none

end Sys2Proof.Machine
end

