-- ==== Sys2Proof/Machine/Agent.lean ====
section
/-! DEFINITION. The management agent: the examination of the ports, the checks, the placing of responses (R142 to R148),
and the commands that are more than one claim: staging, DISCARD, COMMIT, RESTART. -/

namespace Sys2Proof.Machine

/-! ### Taking and answering a request -/

/-- A port is eligible (R145): a request waits, the response queue is not full, the port is not barred. -/
def State.eligible (s : State) (p : PortNo) : Bool :=
  !(s.port p).requests.isEmpty && !(s.port p).responsesFull && s.barred != some p

/-- The order of an examination (R145): from the port after the last port served, E5 before E0. -/
def examinationOrder (last : PortNo) : List PortNo :=
  (List.range 6).map fun k => Fin.ofNat 6 (last.val + 1 + k)

/-- The request that the agent takes next (R145): none while a request is in execution or no port is eligible. -/
def State.nextRequest (s : State) : Option (PortNo × Request) :=
  if s.inExecution.isSome then none
  else
    match (examinationOrder s.lastServed).find? s.eligible with
    | some p => (s.port p).requests.head?.map fun q => (p, q)
    | none => none

/-- Taking a request (R145): it leaves the head of its queue, a response place is reserved, it is in execution, and its
port is the last served. -/
def takeRequest (p : PortNo) (q : Request) (s : State) : State :=
  let s := s.modPort p fun r => { r with requests := r.requests.tail, reserved := true }
  { s with lastServed := p, inExecution := some ⟨p, q, false, none⟩ }

/-- The READ commands, which level READ allows (R146). -/
def Command.isRead : Command → Bool
  | .readDevice | .readPort | .readLane | .readStream | .readNotices => true
  | .stageDevice | .stagePort | .stageStream | .discard | .commit | .openStream | .closeStream | .clearHold
  | .timerControl | .ackNotice | .laneControl | .restart => false

/-- The commands that carry a selector, which their responses echo (R168, R172). -/
def Command.hasSelector : Command → Bool
  | .readDevice | .readPort | .readLane | .readStream | .discard | .commit | .closeStream | .timerControl
  | .laneControl => true
  | .readNotices | .stageDevice | .stagePort | .stageStream | .openStream | .clearHold | .ackNotice
  | .restart => false

/-- Steps 1 to 3 of the checks (R146): the status of the first that fails. -/
def privilegeFailure (level : Level) (q : Request) : Option Status :=
  match level, Command.ofCode q.code with
  | .none, _ => some .noPrivilege
  | .read, none => some .badCommand
  | .full, none => some .badCommand
  | .read, some c => if c.isRead then none else some .noPrivilege
  | .full, some _ => none

/-- The selector octet of a response (R168): echoed, or 0 where the command has none. -/
def selectorEcho (q : Request) : Byte :=
  match Command.ofCode q.code with
  | some c => if c.hasSelector then octetAt q.payload 2 else 0
  | none => 0

/-- A reply without result data. -/
def bare (status : Status) : Reply := ⟨status, []⟩

/-- The agent places the response of the request in execution and ends its execution (R147): in the reserved place, or
discarded if it is void. -/
def respond (p : PortNo) (q : Request) (a : Reply) (s : State) : State :=
  let void :=
    match s.inExecution with
    | some e => e.void
    | none => false
  let s :=
    if void then releaseReserved p s
    else placeReserved p ⟨q.tag, a.status, responsePayload q.code (selectorEcho q) a.result⟩ s
  { s with inExecution := none }

/-- A refusal at the checks (R146): MGMT_REFUSED at NO-PRIVILEGE, and the response. -/
def refuseRequest (p : PortNo) (q : Request) (status : Status) (s : State) : State :=
  respond p q (bare status) (if status = .noPrivilege then raise (.port p .mgmtRefused) s else s)

/-- A COMMIT whose record stays open (R148): the port is barred and the execution ends without a response. The response
owed is void where the loss of the port's link has made it so (R158; log 28). -/
def barPort (p : PortNo) (s : State) : State :=
  { s with
    barred := some p
    owedVoid := (match s.inExecution with | some e => e.void | none => false)
    inExecution := none }

/-- What a request asks for once it has passed the checks (R147): the claims it sends, and the reply they give. No
reply: a COMMIT whose record stays open. -/
abbrev Action := State → Option Reply × State

/-- What a command makes of a request of its own (R146 steps 4 and 5): its action, or the status that refuses it. -/
abbrev Body := PortNo → Request → Except Status Action

/-- The claims of a request, and its response, or the bar of its port (R147, R148). -/
def conclude (p : PortNo) (q : Request) (act : Action) (s : State) : State :=
  match act s with
  | (some a, u) => respond p q a u
  | (none, u) => barPort p u

/-- The claims of a request whose response waits to be placed (R147). -/
def claimOnly (p : PortNo) (act : Action) (s : State) : State :=
  match act s with
  | (some a, u) => { u with inExecution := u.inExecution.map fun e => { e with answer := some a } }
  | (none, u) => barPort p u

/-- The request reads and changes nothing: its reply is what stands when it is taken (R149). -/
def readsOnly (q : Request) : Bool :=
  match Command.ofCode q.code with
  | some c => c.isRead
  | none => false

/-- A request that has passed its checks (R147). A turn says whether other events come between its taking, its claims
and its response: it then stays in execution, and the same command sent again goes on with it. A READ is read at its
taking (log 5). -/
def startExecution (p : PortNo) (q : Request) (act : Action) (s : State) : State :=
  let (gap, s) := s.takeTurn
  if gap then (if readsOnly q then claimOnly p act s else s) else conclude p q act s

/-- The agent takes a request (R145) and checks it (R146): a check that fails is answered at once. -/
def takeAndCheck (p : PortNo) (q : Request) (body : Body) (s : State) : State :=
  let t := takeRequest p q s
  match privilegeFailure (t.port p).record.level q with
  | some status => refuseRequest p q status t
  | none =>
    match body p q with
    | .error status => refuseRequest p q status t
    | .ok act => startExecution p q act t

/-- A request in execution goes on (R147): with the placing of its response, or else with its claims. -/
def goOn (e : Execution) (body : Body) (s : State) : State :=
  match e.answer with
  | some a => respond e.port e.request a s
  | none =>
    match body e.port e.request with
    | .error status => respond e.port e.request (bare status) s
    | .ok act => claimOnly e.port act s

/-- A management command: it goes on with the request in execution, or the agent takes the next request; either only if
`row` says that the request is of this command. -/
def serve (row : Request → Bool) (body : Body) (s : State) : State :=
  match s.inExecution with
  | some e => if row e.request then goOn e body s else s
  | none =>
    match s.nextRequest with
    | some (p, q) => if row q then takeAndCheck p q body s else s
    | none => s

/-- The request is of this command. -/
def isCommand (c : Command) (q : Request) : Bool := Command.ofCode q.code == some c

/-- The request is of this command with this selector, or with one that the command does not define: such a request is
taken by any row of its command and answered BAD-VALUE (R146 step 5; log 4). `defined` is the number of selectors. -/
def isSelected (c : Command) (selector defined : Nat) (q : Request) : Bool :=
  isCommand c q && (selectorOf q == selector || defined ≤ selectorOf q)

/-! ### Bodies -/

/-- An action that answers a status. -/
def answering (f : State → Status × State) : Except Status Action :=
  .ok fun s => (some (bare (f s).1), (f s).2)

/-- A READ (R149): DONE with its octets, and no change. -/
def reading (octets : State → List Byte) : Except Status Action := .ok fun s => (some ⟨.done, octets s⟩, s)

/-- Step 4 of R146: BAD-TARGET where the target is out of range. -/
def withTarget {α : Type} (target : Option α) (f : α → Except Status Action) : Except Status Action :=
  match target with
  | some x => f x
  | none => .error .badTarget

/-- Step 4 of R146 for a stream. -/
def withStream (q : Request) : (StreamNo → Except Status Action) → Except Status Action :=
  withTarget (streamOfNat (targetOf q))

/-- Step 4 of R146 for a lane. -/
def withLane (q : Request) : (LaneNo → Except Status Action) → Except Status Action :=
  withTarget (laneOfNat (targetOf q))

/-- Step 4 of R146 for a port. -/
def withPort (q : Request) : (PortNo → Except Status Action) → Except Status Action :=
  withTarget (portOfNat (targetOf q))

/-- Step 5 of R146: BAD-VALUE for another selector than the row's. -/
def withSelector (q : Request) (selector : Nat) (f : Except Status Action) : Except Status Action :=
  if selectorOf q = selector then f else .error .badValue

/-- Step 5 of R146 for the part of a READ: BAD-VALUE for a part that the command does not define. -/
def withPart (part : Option (State → List Byte)) : Except Status Action :=
  match part with
  | some octets => reading octets
  | none => .error .badValue

/-- TIMER-CONTROL at the pacing unit (R30, R153): refused on a CLOSED stream. -/
def timerControl (i : StreamNo) (f : StreamRec → StreamRec) (s : State) : Status × State :=
  if (s.stream i).life = .closed then (.wrongState, s) else (.done, changePacing i f s)

/-- TIMER-CONTROL preset at the pacing unit (R30, R31): with clear credit it can come before the credit claim of a launch
in flight (R89). -/
def presetTimer (clear : Bool) (i : StreamNo) (s : State) : Status × State :=
  if (s.stream i).life = .closed then (.wrongState, s)
  else (.done, beforeCredit (· == i) (changePacing i (timerPreset clear)) s)

/-- CLOSE-STREAM with discard at the stream table (R11, R12), which can come among the claims of a launch in flight
(R89). -/
def discardClose (i : StreamNo) (s : State) : Status × State :=
  ((closeDiscard i s).1, duringLaunches (· == i) (fun t => (closeDiscard i t).2) s)

/-- ACK-NOTICE at the notice unit (R138). -/
def ackNotice (n : NoticeTarget) (mask : Nat) (s : State) : Status × State :=
  match namedCauses n mask with
  | some pts => (.done, pts.foldl (fun s pt => removeNotice pt s) s)
  | none => (.badValue, s)

/-! ### Staging and DISCARD -/

/-- STAGE-STREAM (R114). -/
def stageStream (i : StreamNo) (img : Option StreamImage) (s : State) : Status × State :=
  match img with
  | some m => (.done, s.modStream i fun r => { r with staged := some m })
  | none => (.badValue, s)

/-- STAGE-DEVICE (R115). -/
def stageDevice (img : Option DeviceParams) (s : State) : Status × State :=
  match img with
  | some d => (.done, { s with stagedParams := some d })
  | none => (.badValue, s)

/-- STAGE-PORT (R116). -/
def stagePort (p : PortNo) (img : Option PortRecord) (s : State) : Status × State :=
  match img with
  | some r => (.done, s.modPort p fun x => { x with staged := some r })
  | none => (.badValue, s)

/-- The withdrawal of streams from the open record (R117, R118). -/
def CommitRecord.withdraw (gone : StreamNo → Bool) (c : CommitRecord) : CommitRecord :=
  { c with
    streams := c.streams.filter fun i => !gone i
    withdrawn := c.withdrawn + (c.streams.filter gone).length }

/-- A stream without its staged image and its commit-pending flag. -/
def StreamRec.discarded (r : StreamRec) : StreamRec := { r with staged := none, commitPending := false }

/-- DISCARD of one stream (R117). -/
def discardStream (i : StreamNo) (s : State) : State :=
  let wasPending := (s.stream i).commitPending
  let s := s.modStream i StreamRec.discarded
  modRecord (CommitRecord.withdraw fun j => wasPending && j == i) s

/-- DISCARD of the device parameter set (R117): with trunk commit pending, the flag becomes no, the device part is
withdrawn, and the arbiter makes a pass (R51). -/
def discardDevice (s : State) : State :=
  let s := { s with stagedParams := none }
  if s.trunkCommitPending then
    let s := { s with trunkCommitPending := false }
    let s := modRecord (fun c => if c.devicePart = .pending then { c with devicePart := .withdrawn } else c) s
    callPass s
  else s

/-- DISCARD of every staged image (R117). -/
def discardAll (s : State) : State :=
  let before := s.streams
  let s :=
    { s with
      streams := s.streams.mapAll StreamRec.discarded
      ports := s.ports.mapAll fun r => { r with staged := none } }
  discardDevice (modRecord (CommitRecord.withdraw fun j => (before.read j).commitPending) s)

/-- DISCARD (R117): DONE whether or not any image was there; a withdrawal can complete the open record (R126). -/
def discard (scope : DiscardScope) (s : State) : Status × State :=
  match scope with
  | .stream i => (.done, judgeCompletion (discardStream i s))
  | .device => (.done, judgeCompletion (discardDevice s))
  | .port p => (.done, s.modPort p fun r => { r with staged := none })
  | .all => (.done, judgeCompletion (discardAll s))

/-! ### COMMIT -/

/-- The port record that a commit of the ports would leave (R119 step 1). -/
def PortRec.resulting (r : PortRec) : PortRecord := r.staged.getD r.record

/-- The lock-out test (R119 step 1): some port of the resulting table has level FULL. -/
def State.keepsFull (s : State) : Bool := s.ports.toList.any fun r => r.resulting.level == .full

/-- The application of the staged port records (R119 step 3). -/
def applyPorts (s : State) : State :=
  { s with ports := s.ports.mapAll fun r => { r with record := r.resulting, staged := none } }

/-- The streams that a COMMIT reaches with a staged image (R119 step 4), each once. Their order is the order in which
their claims are taken, and the manual leaves it open: that of the list, a number named twice standing at its last
place, and ascending for "all staged" (DESIGN CHOICE, log 9). -/
def commitStreams (part : StreamPart) (s : State) : List StreamNo :=
  match part with
  | .absent => []
  | .list is => is.dedup.filter fun i => (s.stream i).staged.isSome
  | .allStaged => s.streams.indicesWhere fun r => r.staged.isSome

/-- The image of a stream that holds no lane is applied at once (R120). -/
def commitFree (i : StreamNo) (s : State) : State :=
  match (s.stream i).staged with
  | some img => modRecord (fun c => { c with applied := c.applied + 1 }) (applyRecord i img s)
  | none => s

/-- A stream that holds a lane becomes commit pending and joins the pending set (R120). -/
def commitHolder (i : StreamNo) (s : State) : State :=
  let s := s.modStream i fun r => { r with commitPending := true }
  modRecord (fun c => { c with streams := c.streams ++ [i] }) s

/-- The device part of a COMMIT (R119 step 5, R123), judged by the lanes as the COMMIT finds them. -/
def commitDevice (quiet : Bool) (s : State) : State :=
  match s.stagedParams with
  | none => s
  | some d =>
    if quiet then modRecord (fun c => { c with devicePart := .applied }) (applyDevice d s)
    else
      modRecord (fun c => { c with devicePart := .pending }) { s with trunkCommitPending := true }

/-- The claims that the COMMIT's event sends, taken after it (R119, log 9): the judgements of the lanes of its
holders, the arbiter's pass after an applied device set, the arbiter's notifications of the applied images. -/
def commitClaims (free holders : List StreamNo) (deviceApplied : Bool) (s : State) : State :=
  let s := holders.foldl (fun s i => judgeHeld i s) s
  let s := if deviceApplied then callPass s else s
  free.foldl (fun s i => demandChanged i s) s

/-- The event that takes a COMMIT (R119), and its claims. No reply: the record stays open. -/
def takeCommit (p : PortNo) (q : Request) (scope : CommitScope) (s : State) : Option Reply × State :=
  if s.record.isSome then (some (bare .wrongState), s)
  else if scope.ports && !s.keepsFull then (some (bare .badValue), s)
  else
    let quiet := s.lanesQuiet
    let named := commitStreams scope.streams s
    let free := named.filter fun i => (s.stream i).heldLane.isNone
    let holders := named.filter fun i => (s.stream i).heldLane.isSome
    let opened : CommitRecord :=
      { port := p
        tag := q.tag
        selector := octetAt q.payload 2
        streams := []
        devicePart := .none
        deadline := deadlineAfter s.paceCount s.params.commitTimeout
        applied := 0
        withdrawn := 0 }
    let t := { s with record := some opened }
    let t := if scope.ports then applyPorts t else t
    let t := free.foldl (fun t i => commitFree i t) t
    let t := holders.foldl (fun t i => commitHolder i t) t
    let t := if scope.device then commitDevice quiet t else t
    let deviceApplied := scope.device && s.stagedParams.isSome && quiet
    match t.record with
    | some c =>
      if c.complete then
        (some ⟨.done, c.doneResult⟩, commitClaims free holders deviceApplied { t with record := none })
      else (none, commitClaims free holders deviceApplied t)
    | none => (none, t)

/-! ### RESTART -/

/-- Step 2 (R55): the arbiter's list, record, deadline, kept times and indications cleared. -/
def restartArbiter (s : State) : State :=
  { s with
    requests := []
    waiting := Table.const 4 false
    budget := []
    spacing := none
    streams := s.streams.mapAll fun r => { r with keptTime := none } }

/-- Step 3 (R112): every queue flushed, every buffer free. The notifications of R108 find no demand and no lane. -/
def restartQueues (s : State) : State :=
  { s with
    freeBuffers := Config.poolSize
    streams := s.streams.mapAll fun r => { r with queue := [] } }

/-- Step 4 for one stream (R9, R19): a DRAINING stream becomes CLOSED. -/
def restartLife (r : StreamRec) : StreamRec :=
  match r.life with
  | .draining _ => closePacing { r with life := .closed }
  | .closed => r
  | .opened => r
  | .held => r

/-- Steps 4 and 5 (R19, R36). -/
def restartStreams (s : State) : State :=
  { s with streams := s.streams.mapAll fun r => restartPacing (restartLife r) }

/-- Step 6, part 1, for one stream (R129): a commit-pending image is applied. -/
def restartImage (now : PaceCount) (interval : Nat) (r : StreamRec) : StreamRec :=
  match r.commitPending, r.staged with
  | true, some img => r.applyImage now interval img
  | _, _ => r

/-- Step 6 (R129): commit-pending images and a pending device set applied, an open record closed with DONE. -/
def restartCommit (s : State) : State :=
  let before := s.streams
  let s :=
    { s with streams := s.streams.mapAll (restartImage s.paceCount s.params.settleInterval) }
  let s := modRecord
    (fun c =>
      { c with
        applied := c.applied + (c.streams.filter fun i => (before.read i).commitPending).length
        streams := [] }) s
  let s :=
    match s.trunkCommitPending, s.stagedParams with
    | true, some d => applyDevice d s
    | _, _ => { s with trunkCommitPending := false }
  match s.record with
  | some c => closeRecord c .done c.doneResult s
  | none => s

/-- Step 7 (R141): every notice set and the report queue emptied. -/
def restartNotices (s : State) : State :=
  { s with
    notices := Table.const 4 none
    reports := []
    streams := s.streams.mapAll fun r => { r with notices := Table.const 6 none }
    lanes := s.lanes.mapAll fun r => { r with notices := Table.const 4 none }
    ports := s.ports.mapAll fun r => { r with notices := Table.const 6 none } }

/-- Step 8 (R83): recoveries on the DOWN lanes if the trunk link is UP. -/
def restartRecoveries (s : State) : State := if s.trunkUp then recoverDownLanes s else s

/-- Steps 1 to 8 of the device restart, in the order of R155; step 1 is the lane controller's dropping of every lane
(R83). -/
def deviceRestart (s : State) : State :=
  restartRecoveries <| restartNotices <| restartCommit <| restartStreams <| restartQueues <| restartArbiter <|
    dropLanes s

end Sys2Proof.Machine
end

