-- ==== Sys2Proof/Machine/Time.lean ====
section
/-! DEFINITION. The commands of reset and of pace time: the reset pin, strokes, expiries, passes and slots. -/

namespace Sys2Proof.Machine

/-- The effect of STROKE or of an expiry while the reset pin is released; while it is asserted the part is held in
power-on reset and nothing changes (00_scope.md, Pins; log 11). -/
def atStroke (f : State → State) (s : State) : Host.Outcome State Fault Refusal :=
  if s.resetPin then .next s else .next (f s)

/-- The effect of every other command: the same, after a counting of the streams that still waits (R22, R37; log 3). -/
def running (f : State → State) (s : State) : Host.Outcome State Fault Refusal :=
  atStroke (fun s => f (countFirst s)) s

/-- The power-on reset state, with the commands that wait and the open turns, which are the sender's, kept. -/
def powerOnState (pin : Bool) (s : State) : State :=
  { State.reset with pending := s.pending, turns := s.turns, resetPin := pin }

/-- POWER_ON_RESET: the release of the reset pin (R19 and the reset values of every chapter). -/
def execPowerOnReset (s : State) : Host.Outcome State Fault Refusal := .next (powerOnState false s)

/-- RESET_PIN_ASSERTED: the part is held in power-on reset. -/
def execResetPinAsserted (s : State) : Host.Outcome State Fault Refusal := .next (powerOnState true s)

/-- STROKE (R21). -/
def execStroke (s : State) : Host.Outcome State Fault Refusal := atStroke stroke s

/-- ANSWER_DEADLINE_EXPIRY (R63). -/
def answerExpiry (l : LaneNo) (s : State) : State :=
  if due s.paceCount (s.lane l).answerDeadline then answerTimeout l s else s

def execAnswerDeadlineExpiry (l : LaneNo) (s : State) : Host.Outcome State Fault Refusal :=
  atStroke (answerExpiry l) s

/-- HOLD_DEADLINE_EXPIRY (R93): the lane is released at once. -/
def holdExpiry (l : LaneNo) (s : State) : State :=
  if due s.paceCount (s.lane l).holdDeadline then startRelease l s else s

def execHoldDeadlineExpiry (l : LaneNo) (s : State) : Host.Outcome State Fault Refusal := atStroke (holdExpiry l) s

/-- SETTLE_DEADLINE_EXPIRY (R125): the deadline becomes absent and the arbiter is notified. -/
def settleExpiry (i : StreamNo) (s : State) : State :=
  if due s.paceCount (s.stream i).settle then
    notify .demandChange i (s.modStream i fun r => { r with settle := none })
  else s

def execSettleDeadlineExpiry (i : StreamNo) (s : State) : Host.Outcome State Fault Refusal :=
  atStroke (settleExpiry i) s

/-- COMMIT_DEADLINE_EXPIRY (R127): COMMIT-LATE to the agent, COMMIT_LATE raised, the record closed. -/
def commitExpiry (s : State) : State :=
  match s.record with
  | some c =>
    if due s.paceCount (some c.deadline) then
      raise (.device .commitLate) (closeRecord c .commitLate (octets2 c.partsPending) s)
    else s
  | none => s

def execCommitDeadlineExpiry (s : State) : Host.Outcome State Fault Refusal := atStroke commitExpiry s

/-- BUDGET_ENTRY_AGE_OUT (R45): the oldest entry, W pace units old, leaves the record; the arbiter makes a pass. -/
def budgetAgeOut (s : State) : State :=
  match s.budget with
  | t :: rest => if s.params.budgetWindow ≤ ageOf s.paceCount t then pass { s with budget := rest } else s
  | [] => s

def execBudgetEntryAgeOut (s : State) : Host.Outcome State Fault Refusal := atStroke budgetAgeOut s

/-- SPACING_EXPIRY (R47): the spacing deadline becomes absent; the arbiter makes a pass. -/
def spacingExpiry (s : State) : State :=
  if due s.paceCount s.spacing then pass { s with spacing := none } else s

def execSpacingExpiry (s : State) : Host.Outcome State Fault Refusal := atStroke spacingExpiry s

/-- ARBITER_PASS (R49). -/
def execArbiterPass (s : State) : Host.Outcome State Fault Refusal := running pass s

/-- LANE_SLOT (R85). -/
def execLaneSlot (l : LaneNo) (s : State) : Host.Outcome State Fault Refusal := running (laneSlot l) s

/-- DRAIN_COMPLETION (R13). -/
def execDrainCompletion (i : StreamNo) (s : State) : Host.Outcome State Fault Refusal := running (judgeDrain i) s

/-- EDGE_SLOT (R136, R144). -/
def execEdgeSlot (p : PortNo) (s : State) : Host.Outcome State Fault Refusal := running (edgeSlot p) s

/-- DISABLE_PENDING_APPLIED (R76). -/
def execDisablePendingApplied (l : LaneNo) (s : State) : Host.Outcome State Fault Refusal :=
  running (applyPendingDisable l) s

/-- STREAM_IMAGE_APPLICATION (R121, R122): a commit-pending image, at a moment when the stream holds no lane, with the
notification of R121 step 7. -/
def imageApplication (i : StreamNo) (s : State) : State :=
  let r := s.stream i
  if r.heldLane.isNone && r.commitPending && r.staged.isSome then demandChanged i (commitLoss i s) else s

def execStreamImageApplication (i : StreamNo) (s : State) : Host.Outcome State Fault Refusal :=
  running (imageApplication i) s

/-- DEVICE_APPLICATION (R123, R124). -/
def execDeviceApplication (s : State) : Host.Outcome State Fault Refusal := running judgeDevicePart s

/-- COMMIT_RESPONSE (R148). -/
def execCommitResponse (s : State) : Host.Outcome State Fault Refusal := running takeCommitAnswer s

end Sys2Proof.Machine
end

