-- ==== Sys2Proof/Machine/LinkEvents.lean ====
section
/-! DEFINITION. The commands that come in on the links: alignment gained and lost, cells on the edge ports, cells on the
trunk lanes. -/

namespace Sys2Proof.Machine

/-- EDGE_LINK_UP (R160). -/
def execEdgeLinkUp (p : PortNo) (s : State) : Host.Outcome State Fault Refusal := running (edgeLinkUp p) s

/-- EDGE_LINK_DOWN (R160). -/
def execEdgeLinkDown (p : PortNo) (s : State) : Host.Outcome State Fault Refusal := running (edgeLinkDown p) s

/-- LANE_ALIGNED (R162). -/
def execLaneAligned (l : LaneNo) (s : State) : Host.Outcome State Fault Refusal := running (alignLane l) s

/-- LANE_ALIGNMENT_LOST (R162). -/
def execLaneAlignmentLost (l : LaneNo) (s : State) : Host.Outcome State Fault Refusal :=
  running (loseAlignment l) s

/-- TRAFFIC_CELL_ARRIVAL (R97). -/
def execTrafficCellArrival (p : PortNo) (c : TrafficCell) (s : State) : Host.Outcome State Fault Refusal :=
  running (trafficCell p c) s

/-- REQUEST_CELL_ARRIVAL (R143). -/
def execRequestCellArrival (p : PortNo) (q : Request) (s : State) : Host.Outcome State Fault Refusal :=
  running (onEdgeCell p (requestArrival p q)) s

/-- EDGE_FILL_CELL (R161): discarded. -/
def execEdgeFillCell (p : PortNo) (s : State) : Host.Outcome State Fault Refusal := running (onEdgeCell p id) s

/-- EDGE_BAD_KIND_CELL (R161), whatever the kind. -/
def execEdgeBadKindCell (p : PortNo) (_kind : BitVec 4) (s : State) : Host.Outcome State Fault Refusal :=
  running (onEdgeCell p (badKind p)) s

/-- EDGE_BAD_CHECK_CELL (R161). -/
def execEdgeBadCheckCell (p : PortNo) (s : State) : Host.Outcome State Fault Refusal := running (failedEdgeCell p) s

/-- BIND_ACK_ACCEPT (R64, R65). -/
def execBindAckAccept (l : LaneNo) (tag : Byte) (s : State) : Host.Outcome State Fault Refusal :=
  running (onTrunkCell l (takeAnswer .bind l tag (bindAcceptMatched l))) s

/-- BIND_ACK_REFUSE (R64, R66). -/
def execBindAckRefuse (l : LaneNo) (tag : Byte) (s : State) : Host.Outcome State Fault Refusal :=
  running (onTrunkCell l (takeAnswer .bind l tag (bindRefuseMatched l))) s

/-- BIND_ACK_UNKNOWN_CODE (R64). -/
def execBindAckUnknownCode (l : LaneNo) (tag _code : Byte) (s : State) : Host.Outcome State Fault Refusal :=
  running (onTrunkCell l (takeUnknownAnswer l tag)) s

/-- RELEASE_ACK (R64, R69). -/
def execReleaseAck (l : LaneNo) (tag : Byte) (s : State) : Host.Outcome State Fault Refusal :=
  running (onTrunkCell l (takeAnswer .release l tag (releaseAckMatched l))) s

/-- RESET_ACK (R64, R72). -/
def execResetAck (l : LaneNo) (tag : Byte) (s : State) : Host.Outcome State Fault Refusal :=
  running (onTrunkCell l (takeAnswer .laneReset l tag (resetAckMatched l))) s

/-- PAUSE (R74). -/
def execPause (l : LaneNo) (tag : Byte) (s : State) : Host.Outcome State Fault Refusal :=
  running (onTrunkCell l (takePause true l tag)) s

/-- RESUME (R74). -/
def execResume (l : LaneNo) (tag : Byte) (s : State) : Host.Outcome State Fault Refusal :=
  running (onTrunkCell l (takePause false l tag)) s

/-- TRUNK_OTHER_KIND_CELL (R163): STRAY_CONTROL, without regard to a tag. -/
def execTrunkOtherKindCell (l : LaneNo) (_kind : BitVec 4) (s : State) : Host.Outcome State Fault Refusal :=
  running (onTrunkCell l (strayCell l)) s

/-- TRUNK_FILL_CELL (R163): discarded. -/
def execTrunkFillCell (l : LaneNo) (s : State) : Host.Outcome State Fault Refusal := running (onTrunkCell l id) s

/-- TRUNK_BAD_CHECK_CELL (R163). -/
def execTrunkBadCheckCell (l : LaneNo) (s : State) : Host.Outcome State Fault Refusal :=
  running (failedTrunkCell l) s

end Sys2Proof.Machine
end

