-- ==== Sys2Proof/Machine/Requests.lean ====
section
/-! DEFINITION. The management commands: for each row the agent's taking of the next request, if it is of that row's
command, and what is done with it (chapter 9). -/

namespace Sys2Proof.Machine

/-- READ_DEVICE (R149). -/
def bodyReadDevice (_p : PortNo) (q : Request) : Except Status Action :=
  withPart (readDeviceOctets (selectorOf q))

def execReadDevice (s : State) : Host.Outcome State Fault Refusal :=
  running (serve (isCommand .readDevice) bodyReadDevice) s

/-- READ_PORT (R149). -/
def bodyReadPort (_p : PortNo) (q : Request) : Except Status Action :=
  withPort q fun p => withPart (readPortOctets p (selectorOf q))

def execReadPort (s : State) : Host.Outcome State Fault Refusal :=
  running (serve (isCommand .readPort) bodyReadPort) s

/-- READ_LANE (R149). -/
def bodyReadLane (_p : PortNo) (q : Request) : Except Status Action :=
  withLane q fun l => withPart (readLaneOctets l (selectorOf q))

def execReadLane (s : State) : Host.Outcome State Fault Refusal :=
  running (serve (isCommand .readLane) bodyReadLane) s

/-- READ_STREAM (R149). -/
def bodyReadStream (_p : PortNo) (q : Request) : Except Status Action :=
  withStream q fun i => withPart (readStreamOctets i (selectorOf q))

def execReadStream (s : State) : Host.Outcome State Fault Refusal :=
  running (serve (isCommand .readStream) bodyReadStream) s

/-- READ_NOTICES (R139). -/
def bodyReadNotices (_p : PortNo) (q : Request) : Except Status Action :=
  withTarget (noticeTargetOf q) fun n => reading (noticeOctets n)

def execReadNotices (s : State) : Host.Outcome State Fault Refusal :=
  running (serve (isCommand .readNotices) bodyReadNotices) s

/-- STAGE_DEVICE (R115): the image in octets 3 to 23. -/
def bodyStageDevice (_p : PortNo) (q : Request) : Except Status Action :=
  answering (stageDevice (deviceImageAt q.payload 3))

def execStageDevice (s : State) : Host.Outcome State Fault Refusal :=
  running (serve (isCommand .stageDevice) bodyStageDevice) s

/-- STAGE_PORT (R116). -/
def bodyStagePort (_p : PortNo) (q : Request) : Except Status Action :=
  withPort q fun p => answering (stagePort p (portRecordOf q))

def execStagePort (s : State) : Host.Outcome State Fault Refusal :=
  running (serve (isCommand .stagePort) bodyStagePort) s

/-- STAGE_STREAM (R114): the image in octets 3 to 18. -/
def bodyStageStream (_p : PortNo) (q : Request) : Except Status Action :=
  withStream q fun i => answering (stageStream i (streamImageAt q.payload 3))

def execStageStream (s : State) : Host.Outcome State Fault Refusal :=
  running (serve (isCommand .stageStream) bodyStageStream) s

/-- DISCARD (R117). -/
def bodyDiscard (_p : PortNo) (q : Request) : Except Status Action :=
  match discardScopeOf q with
  | .ok scope => answering (discard scope)
  | .error status => .error status

def execDiscard (s : State) : Host.Outcome State Fault Refusal :=
  running (serve (isCommand .discard) bodyDiscard) s

/-- COMMIT (R119, R148, R151). -/
def bodyCommit (p : PortNo) (q : Request) : Except Status Action :=
  match commitScopeOf q with
  | .ok scope => .ok (takeCommit p q scope)
  | .error status => .error status

def execCommit (s : State) : Host.Outcome State Fault Refusal :=
  running (serve (isCommand .commit) bodyCommit) s

/-- OPEN_STREAM (R7). -/
def bodyOpenStream (_p : PortNo) (q : Request) : Except Status Action :=
  withStream q fun i => answering (openStream i)

def execOpenStream (s : State) : Host.Outcome State Fault Refusal :=
  running (serve (isCommand .openStream) bodyOpenStream) s

/-- CLOSE_STREAM: CLOSE-STREAM without discard, selector 0 (R10, R12). -/
def bodyCloseStream (_p : PortNo) (q : Request) : Except Status Action :=
  withStream q fun i => withSelector q 0 (answering (closePlain i))

def execCloseStream (s : State) : Host.Outcome State Fault Refusal :=
  running (serve (isSelected .closeStream 0 2) bodyCloseStream) s

/-- CLOSE_STREAM_DISCARD: CLOSE-STREAM with discard, selector 1 (R11, R12). -/
def bodyCloseStreamDiscard (_p : PortNo) (q : Request) : Except Status Action :=
  withStream q fun i => withSelector q 1 (answering (discardClose i))

def execCloseStreamDiscard (s : State) : Host.Outcome State Fault Refusal :=
  running (serve (isSelected .closeStream 1 2) bodyCloseStreamDiscard) s

/-- CLEAR_HOLD (R17). -/
def bodyClearHold (_p : PortNo) (q : Request) : Except Status Action :=
  withStream q fun i => answering (clearHold i)

def execClearHold (s : State) : Host.Outcome State Fault Refusal :=
  running (serve (isCommand .clearHold) bodyClearHold) s

/-- TIMER_CONTROL_RUN: TIMER-CONTROL run, selector 0 (R30). -/
def bodyTimerRun (_p : PortNo) (q : Request) : Except Status Action :=
  withStream q fun i => withSelector q 0 (answering (timerControl i timerRun))

def execTimerControlRun (s : State) : Host.Outcome State Fault Refusal :=
  running (serve (isSelected .timerControl 0 3) bodyTimerRun) s

/-- TIMER_CONTROL_STOP: TIMER-CONTROL stop, selector 1 (R30). -/
def bodyTimerStop (_p : PortNo) (q : Request) : Except Status Action :=
  withStream q fun i => withSelector q 1 (answering (timerControl i timerStop))

def execTimerControlStop (s : State) : Host.Outcome State Fault Refusal :=
  running (serve (isSelected .timerControl 1 3) bodyTimerStop) s

/-- The clear credit option of a preset: octet 3 bit 0 (R172). -/
def clearCreditOf (q : Request) : Bool := (octetAt q.payload 3).getLsbD 0

/-- TIMER_CONTROL_PRESET: TIMER-CONTROL preset, selector 2 (R30, R31). -/
def bodyTimerPreset (_p : PortNo) (q : Request) : Except Status Action :=
  withStream q fun i => withSelector q 2 (answering (presetTimer (clearCreditOf q) i))

def execTimerControlPreset (s : State) : Host.Outcome State Fault Refusal :=
  running (serve (isSelected .timerControl 2 3) bodyTimerPreset) s

/-- ACK_NOTICE (R138): the cause mask in octet 3. -/
def bodyAckNotice (_p : PortNo) (q : Request) : Except Status Action :=
  withTarget (noticeTargetOf q) fun n => answering (ackNotice n (octetAt q.payload 3).toNat)

def execAckNotice (s : State) : Host.Outcome State Fault Refusal :=
  running (serve (isCommand .ackNotice) bodyAckNotice) s

/-- LANE_CONTROL_ENABLE: LANE-CONTROL enable, selector 0 (R77). -/
def bodyLaneEnable (_p : PortNo) (q : Request) : Except Status Action :=
  withLane q fun l => withSelector q 0 (answering (laneEnable l))

def execLaneControlEnable (s : State) : Host.Outcome State Fault Refusal :=
  running (serve (isSelected .laneControl 0 4) bodyLaneEnable) s

/-- LANE_CONTROL_DISABLE: LANE-CONTROL disable, selector 1 (R75). -/
def bodyLaneDisable (_p : PortNo) (q : Request) : Except Status Action :=
  withLane q fun l => withSelector q 1 (answering (disableLane l))

def execLaneControlDisable (s : State) : Host.Outcome State Fault Refusal :=
  running (serve (isSelected .laneControl 1 4) bodyLaneDisable) s

/-- LANE_CONTROL_RETIRE: LANE-CONTROL retire, selector 2 (R78). -/
def bodyLaneRetire (_p : PortNo) (q : Request) : Except Status Action :=
  withLane q fun l => withSelector q 2 (answering (laneRetire l))

def execLaneControlRetire (s : State) : Host.Outcome State Fault Refusal :=
  running (serve (isSelected .laneControl 2 4) bodyLaneRetire) s

/-- LANE_CONTROL_RECOVER: LANE-CONTROL recover, selector 3 (R78). -/
def bodyLaneRecover (_p : PortNo) (q : Request) : Except Status Action :=
  withLane q fun l => withSelector q 3 (answering (laneRecover l))

def execLaneControlRecover (s : State) : Host.Outcome State Fault Refusal :=
  running (serve (isSelected .laneControl 3 4) bodyLaneRecover) s

/-- RESTART (R155): the restart as one event, which can come among the claims of launches in flight (R89), then its
response. -/
def bodyRestart (_p : PortNo) (_q : Request) : Except Status Action :=
  .ok fun s => (some (bare .done), duringLaunches (fun _ => true) deviceRestart s)

def execRestart (s : State) : Host.Outcome State Fault Refusal :=
  running (serve (isCommand .restart) bodyRestart) s

/-- The request's code is none of the seventeen (R146 step 2). -/
def isUnknown (q : Request) : Bool := (Command.ofCode q.code).isNone

/-- UNKNOWN_COMMAND_CODE (R146): the checks answer it, BAD-COMMAND or NO-PRIVILEGE. -/
def bodyUnknown (_p : PortNo) (_q : Request) : Except Status Action := .error .badCommand

def execUnknownCommandCode (s : State) : Host.Outcome State Fault Refusal :=
  running (serve isUnknown bodyUnknown) s

end Sys2Proof.Machine
end

