-- ==== Sys2Proof/Machine/Dispatch.lean ====
section
/-! DEFINITION. Which meaning each command has: one arm per constructor of Instr. -/

namespace Sys2Proof.Machine

def exec (i : Instr) (s : State) : Host.Outcome State Fault Refusal :=
  match i with
  | .powerOnReset => Sys2Proof.Machine.execPowerOnReset s
  | .stroke => Sys2Proof.Machine.execStroke s
  | .answerDeadlineExpiry lane => Sys2Proof.Machine.execAnswerDeadlineExpiry lane s
  | .holdDeadlineExpiry lane => Sys2Proof.Machine.execHoldDeadlineExpiry lane s
  | .settleDeadlineExpiry stream => Sys2Proof.Machine.execSettleDeadlineExpiry stream s
  | .commitDeadlineExpiry => Sys2Proof.Machine.execCommitDeadlineExpiry s
  | .budgetEntryAgeOut => Sys2Proof.Machine.execBudgetEntryAgeOut s
  | .spacingExpiry => Sys2Proof.Machine.execSpacingExpiry s
  | .arbiterPass => Sys2Proof.Machine.execArbiterPass s
  | .laneSlot lane => Sys2Proof.Machine.execLaneSlot lane s
  | .drainCompletion stream => Sys2Proof.Machine.execDrainCompletion stream s
  | .edgeSlot port => Sys2Proof.Machine.execEdgeSlot port s
  | .edgeLinkUp port => Sys2Proof.Machine.execEdgeLinkUp port s
  | .edgeLinkDown port => Sys2Proof.Machine.execEdgeLinkDown port s
  | .laneAligned lane => Sys2Proof.Machine.execLaneAligned lane s
  | .laneAlignmentLost lane => Sys2Proof.Machine.execLaneAlignmentLost lane s
  | .trafficCellArrival port cell => Sys2Proof.Machine.execTrafficCellArrival port cell s
  | .requestCellArrival port q => Sys2Proof.Machine.execRequestCellArrival port q s
  | .edgeFillCell port => Sys2Proof.Machine.execEdgeFillCell port s
  | .edgeBadKindCell port kind => Sys2Proof.Machine.execEdgeBadKindCell port kind s
  | .edgeBadCheckCell port => Sys2Proof.Machine.execEdgeBadCheckCell port s
  | .bindAckAccept lane tag => Sys2Proof.Machine.execBindAckAccept lane tag s
  | .bindAckRefuse lane tag => Sys2Proof.Machine.execBindAckRefuse lane tag s
  | .bindAckUnknownCode lane tag code => Sys2Proof.Machine.execBindAckUnknownCode lane tag code s
  | .releaseAck lane tag => Sys2Proof.Machine.execReleaseAck lane tag s
  | .resetAck lane tag => Sys2Proof.Machine.execResetAck lane tag s
  | .pause lane tag => Sys2Proof.Machine.execPause lane tag s
  | .resume lane tag => Sys2Proof.Machine.execResume lane tag s
  | .trunkOtherKindCell lane kind => Sys2Proof.Machine.execTrunkOtherKindCell lane kind s
  | .trunkFillCell lane => Sys2Proof.Machine.execTrunkFillCell lane s
  | .trunkBadCheckCell lane => Sys2Proof.Machine.execTrunkBadCheckCell lane s
  | .disablePendingApplied lane => Sys2Proof.Machine.execDisablePendingApplied lane s
  | .streamImageApplication stream => Sys2Proof.Machine.execStreamImageApplication stream s
  | .deviceApplication => Sys2Proof.Machine.execDeviceApplication s
  | .commitResponse => Sys2Proof.Machine.execCommitResponse s
  | .readDevice => Sys2Proof.Machine.execReadDevice s
  | .readPort => Sys2Proof.Machine.execReadPort s
  | .readLane => Sys2Proof.Machine.execReadLane s
  | .readStream => Sys2Proof.Machine.execReadStream s
  | .readNotices => Sys2Proof.Machine.execReadNotices s
  | .stageDevice => Sys2Proof.Machine.execStageDevice s
  | .stagePort => Sys2Proof.Machine.execStagePort s
  | .stageStream => Sys2Proof.Machine.execStageStream s
  | .discard => Sys2Proof.Machine.execDiscard s
  | .commit => Sys2Proof.Machine.execCommit s
  | .openStream => Sys2Proof.Machine.execOpenStream s
  | .closeStream => Sys2Proof.Machine.execCloseStream s
  | .closeStreamDiscard => Sys2Proof.Machine.execCloseStreamDiscard s
  | .clearHold => Sys2Proof.Machine.execClearHold s
  | .timerControlRun => Sys2Proof.Machine.execTimerControlRun s
  | .timerControlStop => Sys2Proof.Machine.execTimerControlStop s
  | .timerControlPreset => Sys2Proof.Machine.execTimerControlPreset s
  | .ackNotice => Sys2Proof.Machine.execAckNotice s
  | .laneControlEnable => Sys2Proof.Machine.execLaneControlEnable s
  | .laneControlDisable => Sys2Proof.Machine.execLaneControlDisable s
  | .laneControlRetire => Sys2Proof.Machine.execLaneControlRetire s
  | .laneControlRecover => Sys2Proof.Machine.execLaneControlRecover s
  | .restart => Sys2Proof.Machine.execRestart s
  | .unknownCommandCode => Sys2Proof.Machine.execUnknownCommandCode s
  | .resetPinAsserted => Sys2Proof.Machine.execResetPinAsserted s

end Sys2Proof.Machine
end

