-- ==== Sys2Proof/Machine/Step.lean ====
section
/-! DEFINITION. One step: the command at the front of the queue, or idling; and putting a command at the front. -/

namespace Sys2Proof.Machine

/-- One step: the command at the front of the queue, with the queue's rest; on an empty queue the block idles
(log 20). -/
def step (s : State) : Host.Outcome State Fault Refusal :=
  match s.pending with
  | [] => .next s
  | c :: rest => exec c { s with pending := rest }

/-- A command put at the front of the queue. -/
def State.withCommand (s : State) (c : Instr) : State := { s with pending := c :: s.pending }

/-- The command that a word spells put at the front of the queue; unchanged where the word spells none. -/
def State.withFetchWord (s : State) (nbits w : Nat) : State :=
  match decodeTableWord nbits w with
  | some c => s.withCommand c
  | none => s

end Sys2Proof.Machine
end

