-- ==== Sys2Proof/Safety.lean ====
section
/-! DEFINITION. What counts as a safe state of the block, and what a frame may leave out: the terms of the claims. -/

namespace Sys2Proof.Machine

/-! ### Frames -/

/-- A stream without what the bind arbiter and the lane controller keep of it: held lane and kept request time. -/
def StreamRec.sansBinding (r : StreamRec) : StreamRec := { r with heldLane := none, keptTime := none }

/-- A lane without what its handshakes and judgements change. -/
def LaneRec.sansBinding (r : LaneRec) : LaneRec :=
  { r with
    state := .down
    holder := none
    tag := 0
    outstanding := none
    answerDeadline := none
    holdDeadline := none
    paused := false
    waitingCell := none
    launching := none }

/-- The state without everything that a demand-change notification can change (R41, R49, R92): the bind request list,
the group indications, the free-lane lists, the setup budget record, the spacing deadline, the streams' held lanes and
kept request times, the lanes' handshakes, and the model's own turns. Two states that agree so agree in all else. -/
def State.sansBinding (s : State) : State :=
  { s with
    turns := []
    requests := []
    waiting := Table.const 4 false
    freeLanes := Table.const 4 []
    budget := []
    spacing := none
    streams := s.streams.mapAll StreamRec.sansBinding
    lanes := s.lanes.mapAll LaneRec.sansBinding }

/-- A stream without its notice set. -/
def StreamRec.sansNotices (r : StreamRec) : StreamRec := { r with notices := Table.const 6 none }

/-- A lane without its notice set. -/
def LaneRec.sansNotices (r : LaneRec) : LaneRec := { r with notices := Table.const 4 none }

/-- A port without its notice set. -/
def PortRec.sansNotices (r : PortRec) : PortRec := { r with notices := Table.const 6 none }

/-- The state without everything that a raise can change (R132): the notice sets and the report queue. -/
def State.sansNotices (s : State) : State :=
  { s with
    notices := Table.const 4 none
    reports := []
    streams := s.streams.mapAll StreamRec.sansNotices
    lanes := s.lanes.mapAll LaneRec.sansNotices
    ports := s.ports.mapAll PortRec.sansNotices }

/-- The state without what notifications and raises can change. -/
def State.core (s : State) : State := s.sansNotices.sansBinding

/-- A notice entry after one more raise of its cause (R132): created with occurrences 1 and the present pace count, or
counted up to 255 with its first pace count kept. -/
def raisedEntry (now : PaceCount) : Option NoticeEntry → NoticeEntry
  | none => ⟨1, now⟩
  | some e => { e with occurrences := min 255 (e.occurrences + 1) }

/-! ### Invariants -/

/-- The sum of all stream queue lengths (R104). -/
def State.queuedCells (s : State) : Nat := (s.streams.toList.map fun r => r.queue.length).sum

/-- The free buffers and the queued cells number 2048 (R104). -/
def PoolInv (s : State) : Prop := s.freeBuffers + s.queuedCells = Config.poolSize

/-- One stream's pacing state and its configurations lie within bounds (R1, R23, R114): credit and count within the
active configuration, and the initial credit of the active and of the staged configuration within their caps. -/
def StreamRec.paced (r : StreamRec) : Prop :=
  r.credit ≤ r.config.creditCap ∧ r.count ≤ r.config.reload ∧ r.config.initialCredit ≤ r.config.creditCap
    ∧ ∀ m, r.staged = some m → m.initialCredit ≤ m.creditCap

/-- Every stream's credit and count lie within bounds (R23). -/
def PacingInv (s : State) : Prop := ∀ i, (s.stream i).paced

/-- The life states keep to R5: a CLOSED stream holds no lane, has an empty queue, no credit and no request entry, and
its timer is STOPPED; a HELD stream holds no lane and has no request entry; a stream DRAINING with discard has an empty
queue and no request entry; and a stream with a request entry holds no lane (R38). -/
def LifeInv (s : State) : Prop :=
  ∀ i,
    ((s.stream i).life = .closed →
      (s.stream i).heldLane = none ∧ (s.stream i).queue = [] ∧ (s.stream i).credit = 0
        ∧ (s.stream i).timer = .stopped ∧ s.hasEntry i = false)
    ∧ ((s.stream i).life = .held → (s.stream i).heldLane = none ∧ s.hasEntry i = false)
    ∧ ((s.stream i).life = .draining .discard → (s.stream i).queue = [] ∧ s.hasEntry i = false)
    ∧ (s.hasEntry i = true → (s.stream i).heldLane = none)

/-- The management queues lie within their capacities (R142); the barred port has its place reserved (R148), and so has
the port of the request in execution, which is not the barred one (R145). -/
def QueueInv (s : State) : Prop :=
  (∀ p, (s.port p).requests.length ≤ Config.requestCapacity ∧ (s.port p).placesUsed ≤ Config.responsePlaces)
    ∧ (∀ p, s.barred = some p → (s.port p).reserved = true)
    ∧ ∀ e, s.inExecution = some e → (s.port e.port).reserved = true ∧ s.barred ≠ some e.port

/-- A port is barred exactly while a commit record is open, the record's own port (R148); the response of a record that
has closed does not wait, since the agent takes it at once (log 1); a void one is owed only while a port is barred. A
stream that is commit pending has a staged image, and so every stream in the pending set of the open record is (R118,
R120). -/
def CommitInv (s : State) : Prop :=
  s.commitAnswer = none ∧ s.barred = s.record.map (fun c => c.port) ∧ (s.owedVoid = true → s.barred ≠ none)
    ∧ (∀ i, (s.stream i).commitPending = true → (s.stream i).staged.isSome = true)
    ∧ ∀ c, s.record = some c → ∀ i ∈ c.streams, (s.stream i).commitPending = true

/-- The report queue holds at most 31 ordinary reports and at most one of REPORT_LOST (R133, R134). -/
def ReportInv (s : State) : Prop :=
  s.ordinaryQueued ≤ Config.ordinaryReports
    ∧ (s.reports.filter fun r => r.point = reportLostPoint).length ≤ 1

/-- The budget count of the active and of the staged device parameter set is at most 8, and so is the length of the
setup budget record (R45, R115). -/
def BudgetInv (s : State) : Prop :=
  s.params.budgetCount ≤ 8 ∧ (∀ d, s.stagedParams = some d → d.budgetCount ≤ 8) ∧ s.budget.length ≤ 8

/-- The bind request list holds at most one entry per stream, and a group is indicated as waiting exactly while it has
an entry (R38, R40). -/
def ListInv (s : State) : Prop :=
  (s.requests.map fun e => e.stream).Nodup ∧ ∀ g, s.waiting.read g = s.groupWanted g

/-- The outstanding request of a lane state (R57). -/
def LaneState.awaits : LaneState → Option Handshake
  | .binding => some .bind
  | .unbinding => some .release
  | .recovering => some .laneReset
  | .down => none
  | .free => none
  | .bound => none
  | .quarantined => none
  | .disabled => none

/-- The lane states with a holder: BINDING, BOUND and UNBINDING (R57). -/
def LaneState.hasHolder : LaneState → Bool
  | .binding => true
  | .bound => true
  | .unbinding => true
  | .down => false
  | .recovering => false
  | .free => false
  | .quarantined => false
  | .disabled => false

/-- One lane's fields agree with its state (R57, R58, R61): the outstanding request is the one the state awaits; a
holder is present exactly in BINDING, BOUND and UNBINDING; paused and a hold deadline only in BOUND; disable pending
only in a handshake; an answer deadline and a waiting control cell only while a request is outstanding; a launch in
flight only in BOUND and for the holder (R89, R90). -/
def LaneRec.consistent (r : LaneRec) : Prop :=
  r.outstanding = r.state.awaits ∧ r.holder.isSome = r.state.hasHolder
    ∧ (r.paused = true → r.state = .bound) ∧ (r.holdDeadline.isSome = true → r.state = .bound)
    ∧ (r.disablePending = true → r.state.inHandshake = true)
    ∧ (r.answerDeadline.isSome = true → r.outstanding.isSome = true)
    ∧ (r.waitingCell.isSome = true → r.outstanding.isSome = true)
    ∧ ∀ i, r.launching = some i → r.state = .bound ∧ r.holder = some i

/-- Lanes, streams and free-lane lists agree (R57, R58, R60): every lane is consistent; a lane's holder is the stream
whose held lane it is; a lane stands in a group's free-lane list exactly when it is FREE and of that group, and stands
there once. -/
def LaneInv (s : State) : Prop :=
  (∀ l, (s.lane l).consistent)
    ∧ (∀ l i, (s.lane l).holder = some i ↔ (s.stream i).heldLane = some l)
    ∧ (∀ g l, l ∈ s.freeLanes.read g ↔ (s.lane l).state = .free ∧ (s.lane l).group = g)
    ∧ ∀ g, (s.freeLanes.read g).Nodup

/-- The trunk link and the lanes agree (R80, R162): while the trunk is UP every lane is aligned and none is DOWN; while
it is DOWN not every lane is aligned, and every lane is DOWN or DISABLED. -/
def TrunkInv (s : State) : Prop :=
  (s.trunkUp = true → ∀ l, (s.lane l).aligned = true ∧ (s.lane l).state ≠ .down)
    ∧ (s.trunkUp = false →
      (∃ l, (s.lane l).aligned = false) ∧ ∀ l, (s.lane l).state = .down ∨ (s.lane l).state = .disabled)

end Sys2Proof.Machine

namespace Sys2Proof

open Sys2Proof.Machine

/-! ### Which request a management command takes, and the checks of its operands -/

/-- A target that the request names is out of its range (R146 step 4, R172), COMMIT's list apart. -/
abbrev Request.badTarget (q : Request) : Prop :=
  (q.code ∈ [0x04, 0x08, 0x0B, 0x0C, 0x0D, 0x0E] ∧ 511 < targetOf q)
    ∨ (q.code ∈ [0x03, 0x10] ∧ 15 < targetOf q) ∨ (q.code ∈ [0x02, 0x07] ∧ 5 < targetOf q)
    ∨ (q.code ∈ [0x05, 0x0F] ∧ noticeTargetOf q = none)
    ∨ (q.code = 0x09 ∧ selectorOf q = 0 ∧ 511 < targetOf q) ∨ (q.code = 0x09 ∧ selectorOf q = 2 ∧ 5 < targetOf q)

/-- A selector that the request carries is none that its command defines (R146 step 5, R172), COMMIT's apart. -/
abbrev Request.badSelector (q : Request) : Prop :=
  (q.code = 0x01 ∧ 2 < selectorOf q) ∨ (q.code = 0x02 ∧ 2 < selectorOf q) ∨ (q.code = 0x03 ∧ 1 < selectorOf q)
    ∨ (q.code = 0x04 ∧ 3 < selectorOf q) ∨ (q.code = 0x09 ∧ 3 < selectorOf q)
    ∨ (q.code = 0x0C ∧ 1 < selectorOf q) ∨ (q.code = 0x0E ∧ 2 < selectorOf q) ∨ (q.code = 0x10 ∧ 3 < selectorOf q)

/-- The requests that a management command takes: by command code (R168) and, where one code has several rows, by
selector (R172); a selector that the code does not define is taken by every row of the code (log 4). -/
def Instr.takes (c : Instr) (q : Request) : Bool :=
  let selected (n defined : Nat) : Bool := selectorOf q == n || defined ≤ selectorOf q
  match c with
  | .readDevice => q.code == 0x01
  | .readPort => q.code == 0x02
  | .readLane => q.code == 0x03
  | .readStream => q.code == 0x04
  | .readNotices => q.code == 0x05
  | .stageDevice => q.code == 0x06
  | .stagePort => q.code == 0x07
  | .stageStream => q.code == 0x08
  | .discard => q.code == 0x09
  | .commit => q.code == 0x0A
  | .openStream => q.code == 0x0B
  | .closeStream => q.code == 0x0C && selected 0 2
  | .closeStreamDiscard => q.code == 0x0C && selected 1 2
  | .clearHold => q.code == 0x0D
  | .timerControlRun => q.code == 0x0E && selected 0 3
  | .timerControlStop => q.code == 0x0E && selected 1 3
  | .timerControlPreset => q.code == 0x0E && selected 2 3
  | .ackNotice => q.code == 0x0F
  | .laneControlEnable => q.code == 0x10 && selected 0 4
  | .laneControlDisable => q.code == 0x10 && selected 1 4
  | .laneControlRetire => q.code == 0x10 && selected 2 4
  | .laneControlRecover => q.code == 0x10 && selected 3 4
  | .restart => q.code == 0x11
  | .unknownCommandCode => q.code == 0x00 || 0x11 < q.code.toNat
  | .powerOnReset | .stroke | .answerDeadlineExpiry _ | .holdDeadlineExpiry _ | .settleDeadlineExpiry _
  | .commitDeadlineExpiry | .budgetEntryAgeOut | .spacingExpiry | .arbiterPass | .laneSlot _
  | .drainCompletion _ | .edgeSlot _ | .edgeLinkUp _ | .edgeLinkDown _ | .laneAligned _
  | .laneAlignmentLost _ | .trafficCellArrival _ _ | .requestCellArrival _ _ | .edgeFillCell _
  | .edgeBadKindCell _ _ | .edgeBadCheckCell _ | .bindAckAccept _ _ | .bindAckRefuse _ _
  | .bindAckUnknownCode _ _ _ | .releaseAck _ _ | .resetAck _ _ | .pause _ _ | .resume _ _
  | .trunkOtherKindCell _ _ | .trunkFillCell _ | .trunkBadCheckCell _ | .disablePendingApplied _
  | .streamImageApplication _ | .deviceApplication | .commitResponse | .resetPinAsserted => false

/-- The management commands: the rows that are the agent's taking of a request. -/
def Instr.isManagement : Instr → Bool
  | .readDevice | .readPort | .readLane | .readStream | .readNotices | .stageDevice | .stagePort | .stageStream
  | .discard | .commit | .openStream | .closeStream | .closeStreamDiscard | .clearHold | .timerControlRun
  | .timerControlStop | .timerControlPreset | .ackNotice | .laneControlEnable | .laneControlDisable
  | .laneControlRetire | .laneControlRecover | .restart | .unknownCommandCode => true
  | .powerOnReset | .stroke | .answerDeadlineExpiry _ | .holdDeadlineExpiry _ | .settleDeadlineExpiry _
  | .commitDeadlineExpiry | .budgetEntryAgeOut | .spacingExpiry | .arbiterPass | .laneSlot _
  | .drainCompletion _ | .edgeSlot _ | .edgeLinkUp _ | .edgeLinkDown _ | .laneAligned _
  | .laneAlignmentLost _ | .trafficCellArrival _ _ | .requestCellArrival _ _ | .edgeFillCell _
  | .edgeBadKindCell _ _ | .edgeBadCheckCell _ | .bindAckAccept _ _ | .bindAckRefuse _ _
  | .bindAckUnknownCode _ _ _ | .releaseAck _ _ | .resetAck _ _ | .pause _ _ | .resume _ _
  | .trunkOtherKindCell _ _ | .trunkFillCell _ | .trunkBadCheckCell _ | .disablePendingApplied _
  | .streamImageApplication _ | .deviceApplication | .commitResponse | .resetPinAsserted => false

end Sys2Proof
end

