-- ==== Sys2Proof/Certificates/Slice0/Obligations.lean ====
section
/-! DEFINITION. The statements about the model. A hypothesis `s.resetPin = false` says that the part is not held in
reset (00_scope.md, Pins), and `s.uncounted = false` that no counting of a stroke waits (log 3;
`StrokeCountsEveryRunningStream` says what a command does where one waits). `respond` and `takeRequest` are what
`AgentTakesAndAnswers` says they are; the notice unit's `raise`, the lane controller's `judgeLane`, the arbiter's
`notify`, `pass` and `callPass` each have a statement of their own. A hypothesis `s.turn = false` says that the event is
taken with nothing between its claims (log 6); `AgentTakesAndAnswers` says what happens otherwise, and `dropTurn` is the
state with the turn used up. -/

open Sys2Proof Sys2Proof.Machine

/-! ### The machine as a whole -/

/-- A step runs the command at the front of the queue with the queue's rest; on an empty queue the block idles (the
model's choice, log 20). -/
def Obligations.StepRunsFrontCommand : Prop :=
  (∀ (c : Instr) (rest : List Instr) (s : State),
    step { s with pending := c :: rest } = exec c { s with pending := rest })
  ∧ ∀ s : State, s.pending = [] → step s = .next s

/-- Every command answers a next state, whatever the state, and leaves the queue of commands as it found it: the manual
names no event that stops the block (the model's reading, logs 2 and 20). -/
def Obligations.EveryCommandAnswersNext : Prop :=
  ∀ (c : Instr) (s : State), ∃ t, exec c s = .next t ∧ t.pending = s.pending

/-- POWER_ON_RESET leaves the power-on reset state with the pin released, RESET_PIN_ASSERTED the same state with the
pin asserted; the sender's queue and turns are kept. While the pin is asserted every other command changes nothing (log
11). -/
def Obligations.ResetPinHoldsTheBlock : Prop :=
  (∀ s : State, exec .powerOnReset s = .next { State.reset with pending := s.pending, turns := s.turns })
  ∧ (∀ s : State, exec .resetPinAsserted s =
      .next { State.reset with pending := s.pending, turns := s.turns, resetPin := true })
  ∧ ∀ (c : Instr) (s : State), c ≠ .powerOnReset → c ≠ .resetPinAsserted → s.resetPin = true → exec c s = .next s

/-- The values that the manual gives for power-on reset, of every piece of state that it gives one for: the pace clock
(R20, R21), the stream table (R2, R3, R4, R19), the arbiter (R55), the lane records (R56, R57), the pool and the queues
(R104), the parameter set and the port records (R115, R116), the commit unit (R129), the notice sets and the report
queue (R131, R134), the ports' queues (R142), the agent (R145, R159), the edge links and their counters (R160, R161),
the trunk (R162). (The fields `uncounted`, `launching`, `arriving`, `passes` and `failures` are the model's: logs 3, 6,
14, 29 and 30.) -/
def Obligations.ResetValues : Prop :=
  let s := State.reset
  s.paceCount = 0 ∧ s.uncounted = false ∧ s.unitLength = 10 ∧ s.trunkUp = false ∧ s.trunkCommitPending = false
  ∧ s.stagedParams = none ∧ s.record = none ∧ s.commitAnswer = none
  ∧ s.freeBuffers = 2048 ∧ s.requests = [] ∧ s.budget = [] ∧ s.spacing = none ∧ s.reports = []
  ∧ s.lastServed = 5 ∧ s.inExecution = none ∧ s.barred = none ∧ s.owedVoid = false
  ∧ (∀ g, s.waiting.read g = false ∧ s.freeLanes.read g = [])
  ∧ (∀ pt, s.entry pt = none)
  ∧ s.params.paceMultiplier = 10 ∧ s.params.budgetCount = 4 ∧ s.params.budgetWindow = 200
  ∧ s.params.bindSpacing = 2 ∧ s.params.answerTimeout = 50 ∧ s.params.refusalLimit = 3
  ∧ s.params.settleInterval = 8 ∧ s.params.commitTimeout = 1000 ∧ s.params.reportPort = some 0
  ∧ (∀ l, (s.params.groupMap.read l).val = l.val / 4)
  ∧ s.params.laneMask = 0xF ∧ s.params.portMask = 0x3F ∧ s.params.deviceMask = 0xF
  ∧ (∀ i, s.stream i = StreamRec.reset)
  ∧ (let c := StreamRec.reset.config
     c.sourcePort = 0 ∧ c.group = 0 ∧ c.queueLimit = 0 ∧ c.reload = 0 ∧ c.leadPoint = none ∧ c.creditCap = 0
     ∧ c.initialCredit = 0 ∧ c.holdTime = 0 ∧ c.sequenceCheck = false ∧ c.runAtOpen = false ∧ c.reportMask = 0)
  ∧ StreamRec.reset.generation = 0
  ∧ StreamRec.reset.life = .closed ∧ StreamRec.reset.refusals = 0 ∧ StreamRec.reset.count = 0
  ∧ StreamRec.reset.credit = 0 ∧ StreamRec.reset.timer = .stopped ∧ StreamRec.reset.queue = []
  ∧ StreamRec.reset.admitted = 0 ∧ StreamRec.reset.launched = 0 ∧ StreamRec.reset.queueDrops = 0
  ∧ StreamRec.reset.duplicateDrops = 0 ∧ StreamRec.reset.sequenceGaps = 0
  ∧ StreamRec.reset.expected = none ∧ StreamRec.reset.heldLane = none ∧ StreamRec.reset.keptTime = none
  ∧ StreamRec.reset.commitPending = false ∧ StreamRec.reset.settle = none ∧ StreamRec.reset.staged = none
  ∧ (∀ l, (s.lane l).state = .down ∧ (s.lane l).holder = none ∧ (s.lane l).tag = 0
      ∧ (s.lane l).outstanding = none ∧ (s.lane l).answerDeadline = none ∧ (s.lane l).holdDeadline = none
      ∧ (s.lane l).paused = false ∧ (s.lane l).disablePending = false ∧ (s.lane l).group.val = l.val / 4
      ∧ (s.lane l).bindsAccepted = 0 ∧ (s.lane l).bindsRefused = 0 ∧ (s.lane l).answerTimeouts = 0
      ∧ (s.lane l).staleAnswers = 0 ∧ (s.lane l).waitingCell = none ∧ (s.lane l).launching = none
      ∧ (s.lane l).aligned = false ∧ (s.lane l).failures = 0 ∧ (s.lane l).passes = 0)
  ∧ ∀ p, (s.port p).record.acceptance = true ∧ ((s.port p).record.level = if p = 0 then .full else .none)
      ∧ (s.port p).staged = none ∧ (s.port p).aligned = false ∧ (s.port p).failures = 0 ∧ (s.port p).passes = 0
      ∧ (s.port p).requests = [] ∧ (s.port p).responses = [] ∧ (s.port p).reserved = false
      ∧ (s.port p).received = 0 ∧ (s.port p).checkFailures = 0 ∧ (s.port p).badKinds = 0
      ∧ (s.port p).misrouted = 0 ∧ (s.port p).lastMisrouted = none ∧ (s.port p).arriving = none

/-! ### Pacing -/

/-- A stroke (R21, R24, R25, R29): the pace count, the length of the next pace unit, and every stream's count, credit
and timer state; CREDIT_SATURATED is raised at an underflow at the cap with the queue not empty, stamped with the pace
count of the stroke, and for no other stream. A stream whose credit input or lead input the stroke changes is notified
to the arbiter and the lane controller (R34). Raises and notifications go in ascending order of stream number (the
model's choice, log 7). The counting follows at once, or waits for the next STROKE, which advances nothing, so that
expiries come first (R22; the model's form of that freedom, log 3); a command that is neither an expiry nor a reset
finds the streams counted (R37). -/
def Obligations.StrokeCountsEveryRunningStream : Prop :=
  let lead (r : StreamRec) : Bool :=
    match r.config.leadPoint with
    | some n => decide (r.count ≤ n)
    | none => false
  let struck (r : StreamRec) : StreamRec :=
    if r.timer = .stopped then r
    else
      { r with
        count := if r.count = 0 then r.config.reload else r.count - 1
        credit := if r.count = 0 ∧ r.credit < r.config.creditCap then r.credit + 1 else r.credit
        timer := if r.timer = .stopPending then .stopped else r.timer }
  let saturates (r : StreamRec) : Bool :=
    decide (r.timer ≠ .stopped ∧ r.count = 0 ∧ r.config.creditCap ≤ r.credit ∧ r.queue ≠ [])
  let changes (r : StreamRec) : Bool :=
    decide (1 ≤ r.credit) != decide (1 ≤ (struck r).credit) || lead r != lead (struck r)
  let counted (s : State) : State :=
    (List.finRange 512).foldl
      (fun u i =>
        let u := if saturates (s.stream i) then raise (.stream i .creditSaturated) u else u
        if changes (s.stream i) then demandChanged i u else u)
      { s with uncounted := false, streams := s.streams.mapAll struck }
  let expiryOrReset (c : Instr) : Prop :=
    c = .powerOnReset ∨ c = .resetPinAsserted ∨ (∃ l, c = .answerDeadlineExpiry l) ∨ (∃ l, c = .holdDeadlineExpiry l)
      ∨ (∃ i, c = .settleDeadlineExpiry i) ∨ c = .commitDeadlineExpiry ∨ c = .budgetEntryAgeOut ∨ c = .spacingExpiry
  (∀ s : State, s.resetPin = false →
    (s.uncounted = false →
      let advanced :=
        { s with
          paceCount := s.paceCount + 1
          unitLength := s.params.paceMultiplier
          uncounted := true
          turns := s.turns.tail }
      (s.turn = false → exec .stroke s = .next (counted advanced))
      ∧ (s.turn = true → exec .stroke s = .next advanced))
    ∧ (s.uncounted = true →
      exec .stroke s = .next (counted s)
      ∧ ∀ c : Instr, c ≠ .stroke → ¬ expiryOrReset c → exec c s = exec c (counted s)))
  ∧ ∀ (s : State) (i : StreamNo),
    let r := s.stream i
    let r' := (counted s).stream i
    (r.timer = .stopped → r'.count = r.count ∧ r'.credit = r.credit ∧ r'.timer = .stopped)
    ∧ (r.timer ≠ .stopped → r.count ≠ 0 → r'.count = r.count - 1 ∧ r'.credit = r.credit)
    ∧ (r.timer ≠ .stopped → r.count = 0 → r'.count = r.config.reload
        ∧ r'.credit = if r.credit < r.config.creditCap then r.credit + 1 else r.credit)
    ∧ (r.timer = .running → r'.timer = .running)
    ∧ (r.timer = .stopPending → r'.timer = .stopped)
    ∧ (counted s).paceCount = s.paceCount
    ∧ (counted s).entry (.stream i .creditSaturated) =
        if saturates r then some (raisedEntry s.paceCount (s.entry (.stream i .creditSaturated)))
        else s.entry (.stream i .creditSaturated)

/-- TIMER-CONTROL (R30, R31) on a stream that is not CLOSED is answered DONE with the action's effect on count, credit
and timer state; on a CLOSED stream it is answered WRONG-STATE and leaves the stream. A preset that takes the last
credit has the credit claim of a launch of the stream that is in flight refused (R89), which sends FILL in this step
(log 29; `launches` and `endLaunch` are what `LaneSlotLaunches` says). -/
def Obligations.TimerControlActs : Prop :=
  ∀ (s : State) (p : PortNo) (q : Request) (i : StreamNo),
    s.resetPin = false → s.uncounted = false → s.nextRequest = some (p, q) → s.turn = false →
    (s.port p).record.level = .full → q.code = 0x0E → targetOf q = i.val →
    let t := (takeRequest p q s).dropTurn
    let r := s.stream i
    (r.life = .closed →
      (selectorOf q = 0 → exec .timerControlRun s = .next (respond p q (bare .wrongState) t))
      ∧ (selectorOf q = 1 → exec .timerControlStop s = .next (respond p q (bare .wrongState) t))
      ∧ (selectorOf q = 2 → exec .timerControlPreset s = .next (respond p q (bare .wrongState) t)))
    ∧ (r.life ≠ .closed →
      (selectorOf q = 0 →
        exec .timerControlRun s =
          .next (respond p q (bare .done) (t.modStream i fun r => { r with timer := .running })))
      ∧ (selectorOf q = 1 →
        exec .timerControlStop s =
          .next (respond p q (bare .done)
            (t.modStream i fun r =>
              { r with timer := if r.timer = .running then .stopPending else r.timer })))
      ∧ (selectorOf q = 2 →
        let u := t.modStream i fun r =>
          { r with
            count := r.config.reload
            credit := if (octetAt q.payload 3).getLsbD 0 then 0 else r.credit }
        let v :=
          if (1 ≤ r.credit ↔ 1 ≤ (u.stream i).credit) ∧ r.leadInput = (u.stream i).leadInput then u
          else demandChanged i u
        exec .timerControlPreset s =
          .next (respond p q (bare .done) ((t.launches (· == i)).foldl (endLaunch []) v))))

/-! ### Notices -/

/-- A raise (R132): the entry of its cause is created with occurrences 1 and the present pace count, or counted up to
255 with its first pace count kept, whatever the masks say; a raise that finds its entry queues no report, and a report
linked to the entry follows its occurrences; no other entry but that of REPORT_LOST changes, and nothing but notices
and reports changes. -/
def Obligations.RaiseCountsOrCreates : Prop :=
  ∀ (s : State) (pt pt' : CausePoint),
    (raise pt s).entry pt =
        some (match s.entry pt with
          | none => ⟨1, s.paceCount⟩
          | some e => ⟨min 255 (e.occurrences + 1), e.first⟩)
    ∧ (∀ e, s.entry pt = some e →
      (raise pt s).reports =
        s.reports.map fun r =>
          if r.point = pt ∧ r.linked = true then { r with occurrences := min 255 (e.occurrences + 1) } else r)
    ∧ (pt' ≠ pt → pt' ≠ .device .reportLost → (raise pt s).entry pt' = s.entry pt')
    ∧ (raise pt s).sansNotices = s.sansNotices

/-- Reports (R133): a raise of an ordinary cause that creates its entry queues a report at the tail exactly when its
cause is enabled, the report port is a port and fewer than 31 ordinary reports wait; with 31 waiting its report is
discarded and REPORT_LOST is raised (R134). That raise queues its own report where it creates its entry, its mask bit
is set and no report of it waits; where it finds its entry it counts it, queues none, and a report linked to the entry
follows. -/
def Obligations.RaiseQueuesReports : Prop :=
  ∀ (s : State) (pt : CausePoint), pt ≠ .device .reportLost → s.entry pt = none →
    (s.causeEnabled pt = false ∨ s.params.reportPort = none → (raise pt s).reports = s.reports)
    ∧ (s.causeEnabled pt = true → s.params.reportPort ≠ none →
      let ordinary := (s.reports.filter fun r => r.point ≠ .device .reportLost).length
      (ordinary < 31 → (raise pt s).reports = s.reports ++ [⟨pt, s.paceCount, 1, true⟩])
      ∧ (31 ≤ ordinary →
        (raise pt s).entry (.device .reportLost) =
            some (raisedEntry s.paceCount (s.entry (.device .reportLost)))
        ∧ (∀ e, s.entry (.device .reportLost) = some e →
          (raise pt s).reports =
            s.reports.map fun r =>
              if r.point = .device .reportLost ∧ r.linked = true
              then { r with occurrences := min 255 (e.occurrences + 1) } else r)
        ∧ (s.entry (.device .reportLost) = none →
          (raise pt s).reports =
            if s.params.deviceMask.getLsbD 3 = true ∧ ∀ r ∈ s.reports, r.point ≠ .device .reportLost
            then s.reports ++ [⟨.device .reportLost, s.paceCount, 1, true⟩] else s.reports)))

/-- ACK-NOTICE (R138): with a mask of causes of the level each named entry leaves its set, every other entry stays, and
the answer is DONE; a bit above the level's highest cause is answered BAD-VALUE and removes nothing. -/
def Obligations.AckNoticeRemovesNamedEntries : Prop :=
  ∀ (s : State) (p : PortNo) (q : Request) (n : NoticeTarget),
    s.resetPin = false → s.uncounted = false → s.nextRequest = some (p, q) → s.turn = false →
    (s.port p).record.level = .full → q.code = 0x0F → noticeTargetOf q = some n →
    let t := (takeRequest p q s).dropTurn
    let mask := (octetAt q.payload 3).toNat
    (2 ^ n.points.length ≤ mask → exec .ackNotice s = .next (respond p q (bare .badValue) t))
    ∧ (mask < 2 ^ n.points.length →
      ∃ u, exec .ackNotice s = .next (respond p q (bare .done) u)
        ∧ (∀ (k : Nat) (pt : CausePoint), n.points[k]? = some pt →
            u.entry pt = if mask.testBit k then none else s.entry pt)
        ∧ (∀ pt, pt ∉ n.points → u.entry pt = s.entry pt)
        ∧ (∀ r ∈ u.reports, ∀ k, n.points[k]? = some r.point → mask.testBit k = true → r.linked = false)
        ∧ u.reports.map (fun r => (r.point, r.first, r.occurrences)) =
            s.reports.map (fun r => (r.point, r.first, r.occurrences))
        ∧ u.sansNotices = t.sansNotices)

/-! ### Slots -/

/-- A lane's slot with no launch in flight. With a control cell waiting while the trunk is UP (R61, R86) the cell is
sent, its place becomes free, and the answer deadline runs from now. In any case in which neither a control cell nor a
launch goes out (R85, R87): FILL. -/
def Obligations.LaneSlotSendsControlOrFill : Prop :=
  ∀ (s : State) (l : LaneNo), s.resetPin = false → s.uncounted = false → (s.lane l).launching = none →
    (∀ c : ControlCell, s.trunkUp = true → (s.lane l).waitingCell = some c →
      exec (.laneSlot l) s =
        .next (s.modLane l fun r =>
          { r with
            waitingCell := none
            answerDeadline := some (s.paceCount + BitVec.ofNat 32 s.params.answerTimeout)
            sent := some (formCell
              ⟨match c.kind with | .bind => 0x8 | .release => 0x9 | .laneReset => 0xA,
                0, l.val, c.stream, 0, c.tag, 0⟩ (octetTable 56 [])) }))
    ∧ ((s.trunkUp = false
        ∨ ((s.lane l).waitingCell = none
          ∧ ((s.lane l).state ≠ .bound ∨ (s.lane l).paused = true
            ∨ ∀ i, (s.lane l).holder = some i → (s.stream i).credit = 0 ∨ (s.stream i).queue = []))) →
      exec (.laneSlot l) s =
        .next (s.modLane l fun r =>
          { r with sent := some (formCell ⟨0x0, 0, l.val, 0, 0, 0, 0⟩ (octetTable 56 [])) }))

/-- A launch (R87, R88, R89). A slot that finds the launch conditions begins the launch; a turn says whether another
event comes between this reading and the claims, and the lane's next slot then goes on with them (log 6). It does so
only where the lane is still BOUND to the stream and not paused, with no control cell waiting and the trunk UP; else
the slot judges the lane afresh, as with no launch in flight (R89, R90, R96; log 29). The credit claim is refused at
credit 0, with FILL in the slot; otherwise it takes one credit, and the last one taken is notified (R34). The take-head
claim takes the head cell, which leaves on the lane; its buffer returns and the launch is counted; the last cell taken
is notified (R108) and judged for a drain (R13). An empty queue leaves FILL in the slot and the credit spent. An event
that flushes queues or takes the lanes (`duringLaunches`) finds the launches in flight of their streams; a turn for
each that has credit says whether its credit claim came first; then the event; then the take-head claims of those, and
FILL for the others whose stream has credit 0. An event that can take the credit (`beforeCredit`) has no credit claim
before it. -/
def Obligations.LaneSlotLaunches : Prop :=
  let filled (l : LaneNo) (s : State) : State :=
    s.modLane l fun r =>
      { r with
        launching := none
        sent := some (formCell ⟨0x0, 0, l.val, 0, 0, 0, 0⟩ (octetTable 56 [])) }
  let carries (s : State) (l : LaneNo) (i : StreamNo) : Prop :=
    s.trunkUp = true ∧ (s.lane l).state = .bound ∧ (s.lane l).paused = false ∧ (s.lane l).waitingCell = none
      ∧ (s.lane l).holder = some i
  let spent (s : State) (i : StreamNo) : State :=
    let u := s.modStream i fun r => { r with credit := r.credit - 1 }
    if (s.stream i).credit = 1 then demandChanged i u else u
  (∀ (s : State) (l : LaneNo) (i : StreamNo), s.resetPin = false → s.uncounted = false →
    ((s.lane l).launching = none → carries s l i → 1 ≤ (s.stream i).credit → (s.stream i).queue ≠ [] →
      let begun := s.dropTurn.modLane l fun r => { r with launching := some i }
      exec (.laneSlot l) s = if s.turn then .next begun else exec (.laneSlot l) begun)
    ∧ ((s.lane l).launching = some i →
      (carries s l i →
        ((s.stream i).credit = 0 → exec (.laneSlot l) s = .next (filled l s))
        ∧ (1 ≤ (s.stream i).credit → exec (.laneSlot l) s = .next (launchCell l i (spent s i))))
      ∧ (¬ carries s l i →
        exec (.laneSlot l) s = exec (.laneSlot l) (s.modLane l fun r => { r with launching := none })))
    ∧ ((s.stream i).queue = [] → launchCell l i s = filled l s)
    ∧ ∀ c rest, (s.stream i).queue = c :: rest →
      let u := { s with freeBuffers := s.freeBuffers + 1 }.modStream i fun r => { r with queue := rest }
      ∃ v, (rest ≠ [] → v = u) ∧ (rest = [] → exec (.drainCompletion i) (demandChanged i u) = .next v)
        ∧ launchCell l i s =
            (v.modLane l fun r =>
                { r with
                  launching := none
                  sent := some (formCell ⟨0x1, c.flags, l.val, c.stream, c.sequence, 0, 0⟩ c.payload) }).modStream i
              fun r => { r with launched := r.launched + 1 })
  ∧ (∀ (s : State) (which : StreamNo → Bool),
    ((s.launches which).map Prod.fst).Pairwise (· < ·)
    ∧ ∀ l i, (l, i) ∈ s.launches which ↔ (s.lane l).launching = some i ∧ which i = true ∧ carries s l i)
  ∧ (∀ s : State, chargeLaunches [] s = ([], s))
  ∧ (∀ (s : State) (l : LaneNo) (i : StreamNo) (fs : List (LaneNo × StreamNo)),
    ((s.stream i).credit = 0 → chargeLaunches ((l, i) :: fs) s = chargeLaunches fs s)
    ∧ (1 ≤ (s.stream i).credit →
      let v := chargeLaunches fs (spent s.dropTurn i)
      chargeLaunches ((l, i) :: fs) s = if s.turn then ((l, i) :: v.1, v.2) else chargeLaunches fs s.dropTurn))
  ∧ (∀ (s : State) (l : LaneNo) (i : StreamNo) (charged : List (LaneNo × StreamNo)),
    endLaunch charged s (l, i) =
      if (l, i) ∈ charged then launchCell l i s else if (s.stream i).credit = 0 then filled l s else s)
  ∧ ∀ (s : State) (which : StreamNo → Bool) (event : State → State),
    beforeCredit which event s = (s.launches which).foldl (endLaunch []) (event s)
    ∧ (let charge := chargeLaunches (s.launches which) s
       duringLaunches which event s = (s.launches which).foldl (endLaunch charge.1) (event charge.2))

/-- An edge port's slot (R136, R144): nothing while the link is DOWN; the head response; on the report port with no
response the head report; otherwise FILL. A response carries the code of its status (R168). -/
def Obligations.EdgeSlotSends : Prop :=
  let statusCode (status : Status) : Byte :=
    match status with
    | .done => 0x00 | .busy => 0x01 | .noPrivilege => 0x02 | .badCommand => 0x03
    | .badTarget => 0x04 | .badValue => 0x05 | .wrongState => 0x06 | .commitLate => 0x07
  ∀ (s : State) (p : PortNo), s.resetPin = false → s.uncounted = false →
    ((s.port p).aligned = false → exec (.edgeSlot p) s = .next s)
    ∧ ((s.port p).aligned = true →
      (∀ a rest, (s.port p).responses = a :: rest →
        exec (.edgeSlot p) s =
          .next (s.modPort p fun r =>
            { r with
              responses := rest
              sent := some (formCell ⟨0x3, 0, 0, 0, 0, a.tag, statusCode a.status⟩ a.payload) }))
      ∧ ((s.port p).responses = [] →
        (∀ rep rest, s.params.reportPort = some p → s.reports = rep :: rest →
          exec (.edgeSlot p) s =
            .next ({ s with reports := rest }.modPort p fun r =>
              { r with
                sent := some (formCell ⟨0x4, 0, 0, 0, 0, 0, BitVec.ofNat 8 rep.point.code⟩ rep.payload) }))
        ∧ (s.params.reportPort ≠ some p ∨ s.reports = [] →
          exec (.edgeSlot p) s =
            .next (s.modPort p fun r =>
              { r with sent := some (formCell ⟨0x0, 0, 0, 0, 0, 0, 0⟩ (octetTable 56 [])) }))))

/-! ### Edge links and arrivals -/

/-- The edge link's changes (R98, R158, R160): a HUNTING port comes UP once six cells in a row have passed, which
changes its alignment only; going DOWN empties both queues, keeps a reserved place, raises LINK_DOWN, makes void what
the port is owed, and makes unsynchronized the expected sequence of every stream sourced there. An event whose
conditions do not hold changes nothing (log 2). (The runs of failures and passes are the model's fields, log 14.) -/
def Obligations.EdgeLinkChanges : Prop :=
  ∀ (s : State) (p : PortNo), s.resetPin = false → s.uncounted = false →
    ((s.port p).aligned = false →
      (6 ≤ (s.port p).passes →
        exec (.edgeLinkUp p) s =
          .next (s.modPort p fun r => { r with aligned := true, failures := 0, passes := 0 }))
      ∧ ((s.port p).passes < 6 → exec (.edgeLinkUp p) s = .next s)
      ∧ exec (.edgeLinkDown p) s = .next s)
    ∧ ((s.port p).aligned = true →
      exec (.edgeLinkUp p) s = .next s
      ∧ exec (.edgeLinkDown p) s =
          .next
            { raise (.port p .linkDown) (s.modPort p fun r =>
                { r with aligned := false, failures := 0, passes := 0, requests := [], responses := [] }) with
              inExecution := s.inExecution.map fun e => { e with void := e.void || e.port == p }
              owedVoid := s.owedVoid || s.barred == some p
              streams := s.streams.mapAll fun r =>
                { r with expected := if r.config.sourcePort = p then none else r.expected } })

/-- A traffic cell dropped with MISROUTED (R99, R100): the port does not accept traffic, or the stream is CLOSED or
DRAINING, or its source port is another; the port counts it, the stream is not touched. A traffic cell dropped after it
passed those checks (R101, R102): as a duplicate, which leaves the expected sequence; or, not being one, for the queue
limit or the empty pool, which counts it as received. (No arrival is in flight on the port, and the append claim follows
at once: `AdmittedCellQueued` says what happens otherwise, log 30.) -/
def Obligations.TrafficCellDropped : Prop :=
  (∀ (s : State) (p : PortNo) (c : TrafficCell),
    s.resetPin = false → s.uncounted = false → (s.port p).aligned = true → (s.port p).arriving = none →
    ((s.port p).record.acceptance = false ∨ (s.stream c.stream).life = .closed
      ∨ (∃ k, (s.stream c.stream).life = .draining k) ∨ (s.stream c.stream).config.sourcePort ≠ p) →
    exec (.trafficCellArrival p c) s =
      .next (raise (.port p .misrouted) (s.modPort p fun r =>
        { r with
          received := r.received + 1
          failures := 0
          misrouted := r.misrouted + 1
          lastMisrouted := some c.stream })))
  ∧ (∀ (s : State) (p : PortNo) (c : TrafficCell),
    s.resetPin = false → s.uncounted = false → (s.port p).aligned = true → (s.port p).arriving = none →
    (s.port p).record.acceptance = true →
    ((s.stream c.stream).life = .opened ∨ (s.stream c.stream).life = .held) →
    (s.stream c.stream).config.sourcePort = p →
    let arrived := s.modPort p fun r => { r with received := r.received + 1, failures := 0 }
    let duplicate :=
      (s.stream c.stream).config.sequenceCheck = true ∧ (s.stream c.stream).expected = some (c.sequence + 1)
    (duplicate →
      exec (.trafficCellArrival p c) s =
        .next (raise (.stream c.stream .duplicateDrop)
          (arrived.modStream c.stream fun r => { r with duplicateDrops := r.duplicateDrops + 1 })))
    ∧ (¬ duplicate → s.turn = false →
      ((s.stream c.stream).config.queueLimit ≤ (s.stream c.stream).queue.length ∨ s.freeBuffers = 0) →
      exec (.trafficCellArrival p c) s =
        .next (raise (.stream c.stream .queueDrop)
          (arrived.dropTurn.modStream c.stream fun r =>
            { r with expected := some (c.sequence + 1), queueDrops := r.queueDrops + 1 }))))

/-- An arrival that passes its checks (R101, R102, R103, R105, R108), in its two claims. First the expected sequence is
settled. Then the append claim: one buffer leaves the free list and the cell joins the tail of its stream's queue, with
POOL_EMPTY where it took the last buffer and a notification where the queue was empty; the admission is counted, with
SEQ_GAP where it was marked as a gap (the order of these is the model's choice, log 8). A turn says whether another
event comes between the two (log 30). The same cell sent again then goes on with the append claim, which names the
queue limit of its sending and finds the stream as it is by then: closed, with MISROUTED and the expected sequence as
settled (R102, R111), limit, pool or appended. Another cell on the port first ends the arrival. -/
def Obligations.AdmittedCellQueued : Prop :=
  ∀ (s : State) (p : PortNo) (c : TrafficCell), s.resetPin = false → s.uncounted = false →
    let r := s.stream c.stream
    let admits : Prop := r.life = .opened ∨ r.life = .held
    let appended (gap : Bool) (u : State) : State :=
      let u :=
        { u with freeBuffers := u.freeBuffers - 1 }.modStream c.stream fun r => { r with queue := r.queue ++ [c] }
      let u := if s.freeBuffers = 1 then raise (.device .poolEmpty) u else u
      let u := if r.queue = [] then demandChanged c.stream u else u
      let u := u.modStream c.stream fun r => { r with admitted := r.admitted + 1 }
      if gap then
        raise (.stream c.stream .seqGap) (u.modStream c.stream fun r => { r with sequenceGaps := r.sequenceGaps + 1 })
      else u
    ((s.port p).aligned = true → (s.port p).arriving = none → (s.port p).record.acceptance = true → admits →
      r.config.sourcePort = p → ¬ (r.config.sequenceCheck = true ∧ r.expected = some (c.sequence + 1)) →
      let gap : Bool := r.config.sequenceCheck && r.expected.isSome && r.expected != some c.sequence
      let settled :=
        (s.dropTurn.modPort p fun r => { r with received := r.received + 1, failures := 0 }).modStream c.stream
          fun r => { r with expected := some (c.sequence + 1) }
      (s.turn = true →
        exec (.trafficCellArrival p c) s = .next (settled.modPort p fun r =>
          { r with arriving := some ⟨c, (s.stream c.stream).config.queueLimit, gap⟩ }))
      ∧ (s.turn = false → r.queue.length < r.config.queueLimit → 0 < s.freeBuffers →
        exec (.trafficCellArrival p c) s = .next (appended gap settled)))
    ∧ ∀ a, (s.port p).arriving = some a →
      let ended := s.modPort p fun r => { r with arriving := none }
      (a.cell = c → r.life = .closed ∨ (∃ k, r.life = .draining k) →
        exec (.trafficCellArrival p c) s =
          .next (raise (.port p .misrouted) (ended.modPort p fun r =>
            { r with misrouted := r.misrouted + 1, lastMisrouted := some c.stream })))
      ∧ (a.cell = c → admits → a.limit ≤ r.queue.length ∨ s.freeBuffers = 0 →
        exec (.trafficCellArrival p c) s =
          .next (raise (.stream c.stream .queueDrop)
            (ended.modStream c.stream fun r => { r with queueDrops := r.queueDrops + 1 })))
      ∧ (a.cell = c → admits → r.queue.length < a.limit → 0 < s.freeBuffers →
        exec (.trafficCellArrival p c) s = .next (appended a.gap ended))
      ∧ (a.cell ≠ c →
        ∃ u, exec (.trafficCellArrival p a.cell) s = .next u
          ∧ exec (.trafficCellArrival p c) s = exec (.trafficCellArrival p c) u)

/-- A request's arrival (R143): joined, answered BUSY, or lost with MGMT_OVERRUN, by the port's two queues. -/
def Obligations.RequestArrivalByQueues : Prop :=
  ∀ (s : State) (p : PortNo) (q : Request), s.resetPin = false → s.uncounted = false → (s.port p).aligned = true →
    let arrived := s.modPort p fun r => { r with received := r.received + 1, failures := 0 }
    let places := (s.port p).responses.length + (if (s.port p).reserved then 1 else 0)
    ((s.port p).requests.length < 4 →
      exec (.requestCellArrival p q) s =
        .next (arrived.modPort p fun r => { r with requests := r.requests ++ [q] }))
    ∧ (4 ≤ (s.port p).requests.length → places < 8 →
      exec (.requestCellArrival p q) s =
        .next (arrived.modPort p fun r =>
          { r with responses := r.responses ++ [⟨q.tag, .busy, octetTable 56 [q.code]⟩] }))
    ∧ (4 ≤ (s.port p).requests.length → 8 ≤ places →
      exec (.requestCellArrival p q) s = .next (raise (.port p .mgmtOverrun) arrived))

/-- The other cells of an edge port (R160, R161): FILL is discarded, another kind is counted with BAD_KIND (the row's
name decides, whatever kind it carries: log 26), a failed header check with BAD_CHECK; the seventh failure in a row
takes the link DOWN as EDGE_LINK_DOWN does (log 13). On a HUNTING port every cell that passes counts toward the six of
R160 and is discarded, and one that fails ends the run (logs 14, 22). -/
def Obligations.OtherEdgeCells : Prop :=
  ∀ (s : State) (p : PortNo) (kind : BitVec 4), s.resetPin = false → s.uncounted = false →
    ((s.port p).aligned = true →
      exec (.edgeFillCell p) s =
          .next (s.modPort p fun r => { r with received := r.received + 1, failures := 0 })
      ∧ exec (.edgeBadKindCell p kind) s =
          .next (raise (.port p .badKind) (s.modPort p fun r =>
            { r with received := r.received + 1, failures := 0, badKinds := r.badKinds + 1 }))
      ∧ let failed := raise (.port p .badCheck) (s.modPort p fun r =>
          { r with checkFailures := r.checkFailures + 1, failures := r.failures + 1 })
        exec (.edgeBadCheckCell p) s =
          if (s.port p).failures + 1 < 7 then .next failed else exec (.edgeLinkDown p) failed)
    ∧ ((s.port p).aligned = false →
      (∀ (c : TrafficCell) (q : Request), (s.port p).arriving = none →
        ∀ i ∈ [Instr.edgeFillCell p, .edgeBadKindCell p kind, .trafficCellArrival p c, .requestCellArrival p q],
          exec i s = .next (s.modPort p fun r => { r with passes := min 6 (r.passes + 1) }))
      ∧ exec (.edgeBadCheckCell p) s = .next (s.modPort p fun r => { r with passes := 0 }))

/-! ### The trunk link and the trunk's cells -/

/-- A lane that gains alignment (R80, R162), which it does once six cells in a row have passed: the last of the sixteen
takes the trunk UP, and every DOWN lane begins a recovery. (The runs of failures and passes are the model's fields, log
14.) -/
def Obligations.LaneAlignedBringsTrunkUp : Prop :=
  ∀ (s : State) (l : LaneNo), s.resetPin = false → s.uncounted = false → (s.lane l).aligned = false →
    let aligned := s.modLane l fun r => { r with aligned := true, failures := 0, passes := 0 }
    ((s.lane l).passes < 6 → exec (.laneAligned l) s = .next s)
    ∧ (6 ≤ (s.lane l).passes → ((∃ k, k ≠ l ∧ (s.lane k).aligned = false) ∨ s.trunkUp = true) →
      exec (.laneAligned l) s = .next aligned)
    ∧ (6 ≤ (s.lane l).passes → (∀ k, k ≠ l → (s.lane k).aligned = true) → s.trunkUp = false →
      exec (.laneAligned l) s =
        .next
          { aligned with
            trunkUp := true
            lanes := aligned.lanes.mapAll fun r =>
              if r.state = .down then
                { r with
                  state := .recovering
                  tag := r.tag + 1
                  outstanding := some .laneReset
                  answerDeadline := none
                  holdDeadline := none
                  paused := false
                  launching := none
                  waitingCell := some ⟨.laneReset, 0, r.tag + 1⟩ }
              else r })

/-- A lane that loses alignment (R79, R162): while the trunk is UP the trunk goes DOWN, which can come in the midst of
a pass (R50; `duringPass` is what `ArbiterPassRounds` says) and between the claims of launches in flight (R18, sixth
row; `duringLaunches` is what `LaneSlotLaunches` says; logs 6, 29). So, with the one launch in flight that of a PLAIN
drain's last cell: if a turn has its credit claim granted before, the cell leaves in its slot and is counted, and the
queue-empty claim, taken after the loss of the lane, closes the stream; else the stream stays DRAINING with its cell.
TRUNK_DOWN is raised, every free-lane list is emptied, every lane becomes DISABLED (if it was, or had a disable
pending) or DOWN with its tag, group and counters kept and no launch still to begin its claims (R96), no stream holds a
lane. Then each former holder, in ascending order of lane (log 8): LANE_LOST if its lane was BOUND or BINDING, and the
claims of the loss (R62), by which a drain that is complete is CLOSED and a commit-pending image is applied (R13, R19,
R129). Then the report to the commit unit, which applies a waiting device set. A claim that a pass had still to send is
refused and changes nothing (R50). (The runs of failures and passes, 0 on the lane that loses alignment, are the
model's fields, log 14.) -/
def Obligations.AlignmentLossTakesTrunkDown : Prop :=
  (∀ (s : State) (l : LaneNo), s.resetPin = false → s.uncounted = false → (s.lane l).aligned = true →
    let hunting := s.modLane l fun r => { r with aligned := false, failures := 0, passes := 0 }
    (s.trunkUp = false → exec (.laneAlignmentLost l) s = .next hunting)
    ∧ (s.trunkUp = true →
      exec (.laneAlignmentLost l) s = .next (duringLaunches (fun _ => true) (duringPass trunkDown) hunting)
      ∧ ∀ (k : LaneNo) (i : StreamNo) (c : TrafficCell), s.launches (fun _ => true) = [(k, i)] →
        1 ≤ (s.stream i).credit → (s.stream i).life = .draining .plain → (s.stream i).queue = [c] →
        ∃ t, exec (.laneAlignmentLost l) s = .next t ∧ t.trunkUp = false ∧ (t.stream i).heldLane = none
          ∧ (s.turn = true →
            (t.stream i).life = .closed ∧ (t.stream i).queue = []
            ∧ (t.stream i).launched = (s.stream i).launched + 1
            ∧ (t.lane k).sent =
              some (formCell ⟨0x1, c.flags, k.val, c.stream, c.sequence, 0, 0⟩ c.payload))
          ∧ (s.turn = false →
            (t.stream i).life = .draining .plain ∧ (t.stream i).queue = [c]
            ∧ (t.stream i).launched = (s.stream i).launched)))
  ∧ (∀ (s : State) (e : RequestEntry) (marked : List GroupNo), passFrom e marked (trunkDown s) = trunkDown s)
  ∧ ∀ s : State,
    let down :=
      { raise (.device .trunkDown) { s with trunkUp := false } with
        freeLanes := Table.const 4 []
        lanes := s.lanes.mapAll fun r =>
          { r with
            state := if r.state = .disabled ∨ r.disablePending = true then .disabled else .down
            holder := none
            outstanding := none
            answerDeadline := none
            holdDeadline := none
            paused := false
            disablePending := false
            launching := none
            waitingCell := none }
        streams := s.streams.mapAll fun r => { r with heldLane := none } }
    let loses (u : State) (k : LaneNo) : State :=
      match (s.lane k).holder with
      | some i =>
        lossClaims .trunkLost i
          (if (s.lane k).state = .bound ∨ (s.lane k).state = .binding then raise (.stream i .laneLost) u else u)
      | none => u
    let t := trunkDown s
    t = judgeDevicePart ((List.finRange 16).foldl loses down)
    ∧ t.trunkUp = false ∧ (∀ g, t.freeLanes.read g = []) ∧ t.lanes = down.lanes ∧ (∀ i, (t.stream i).heldLane = none)
    ∧ t.entry (.device .trunkDown) = some (raisedEntry s.paceCount (s.entry (.device .trunkDown)))
    ∧ (∀ d, s.trunkCommitPending = true → s.stagedParams = some d →
        t.params = d ∧ t.stagedParams = none ∧ t.trunkCommitPending = false)
    ∧ (LaneInv s →
      (∀ i, t.entry (.stream i .laneLost) =
        if ∃ k, (s.lane k).holder = some i ∧ ((s.lane k).state = .bound ∨ (s.lane k).state = .binding)
        then some (raisedEntry s.paceCount (s.entry (.stream i .laneLost)))
        else s.entry (.stream i .laneLost))
      ∧ ∀ k i, (s.lane k).holder = some i →
        let r := s.stream i
        let drained : Prop := r.life = .draining .discard ∨ (r.life = .draining .plain ∧ r.queue = [])
        (drained → (t.stream i).life = .closed) ∧ (¬ drained → (t.stream i).life = r.life)
        ∧ ∀ m, r.commitPending = true → r.staged = some m →
          (t.stream i).config = m ∧ (t.stream i).staged = none ∧ (t.stream i).commitPending = false)

/-- The lane control cells (R64): with another tag than the lane's each is stale, in every lane state; with the lane's
tag an answer that the outstanding request does not await, a BIND-ACK of an unknown code, and a PAUSE or RESUME on a
lane that is not BOUND are stray. Neither changes a lane field other than the stale answers counter (and the run of
failures, which any passing cell ends). BIND_ACK_UNKNOWN_CODE is so by the row's name, whatever code it carries (log
27). -/
def Obligations.StaleAndStrayCells : Prop :=
  ∀ (s : State) (l : LaneNo) (tag code : Byte),
    s.resetPin = false → s.uncounted = false → s.trunkUp = true → (s.lane l).aligned = true →
    let passed := s.modLane l fun r => { r with failures := 0 }
    (tag ≠ (s.lane l).tag →
      ∀ c ∈ [Instr.bindAckAccept l tag, .bindAckRefuse l tag, .bindAckUnknownCode l tag code, .releaseAck l tag,
          .resetAck l tag, .pause l tag, .resume l tag],
        exec c s =
          .next (raise (.lane l .staleAnswer)
            (passed.modLane l fun r => { r with staleAnswers := r.staleAnswers + 1 })))
    ∧ (tag = (s.lane l).tag →
      let stray := Host.Outcome.next (raise (.lane l .strayControl) passed)
      ((s.lane l).outstanding ≠ some .bind →
        exec (.bindAckAccept l tag) s = stray ∧ exec (.bindAckRefuse l tag) s = stray)
      ∧ ((s.lane l).outstanding ≠ some .release → exec (.releaseAck l tag) s = stray)
      ∧ ((s.lane l).outstanding ≠ some .laneReset → exec (.resetAck l tag) s = stray)
      ∧ exec (.bindAckUnknownCode l tag code) s = stray
      ∧ ((s.lane l).state ≠ .bound → exec (.pause l tag) s = stray ∧ exec (.resume l tag) s = stray))

/-- PAUSE and RESUME with the lane's tag on a BOUND lane (R74). The trunk's other cells on an aligned lane (R163):
while the trunk is UP a kind not taken raises STRAY_CONTROL without regard to a tag (the row's name decides, whatever
kind it carries: log 26) and FILL is discarded; a failed check counts toward the run of failures, and the seventh loses
alignment as LANE_ALIGNMENT_LOST does (log 13). While the trunk is DOWN nothing is delivered or raised. On a HUNTING
lane every cell that passes counts toward the six of R160 and is discarded, and one that fails ends the run (logs 14,
22). -/
def Obligations.PauseAndOtherTrunkCells : Prop :=
  (∀ (s : State) (l : LaneNo) (tag : Byte),
    s.resetPin = false → s.uncounted = false → s.trunkUp = true → (s.lane l).aligned = true →
    (s.lane l).state = .bound →
    tag = (s.lane l).tag →
    exec (.pause l tag) s = .next (s.modLane l fun r => { r with failures := 0, paused := true })
    ∧ exec (.resume l tag) s = .next (s.modLane l fun r => { r with failures := 0, paused := false }))
  ∧ (∀ (s : State) (l : LaneNo) (kind : BitVec 4),
    s.resetPin = false → s.uncounted = false → (s.lane l).aligned = true →
    let passed := s.modLane l fun r => { r with failures := 0 }
    let failed := s.modLane l fun r => { r with failures := r.failures + 1 }
    exec (.trunkFillCell l) s = .next passed
    ∧ (s.trunkUp = true → exec (.trunkOtherKindCell l kind) s = .next (raise (.lane l .strayControl) passed))
    ∧ (s.trunkUp = false →
      ∀ tag code, ∀ c ∈ [Instr.trunkOtherKindCell l kind, .bindAckAccept l tag, .bindAckRefuse l tag,
          .bindAckUnknownCode l tag code, .releaseAck l tag, .resetAck l tag, .pause l tag, .resume l tag],
        exec c s = .next passed)
    ∧ exec (.trunkBadCheckCell l) s =
        if (s.lane l).failures + 1 < 7 then .next failed else exec (.laneAlignmentLost l) failed)
  ∧ ∀ (s : State) (l : LaneNo) (kind : BitVec 4) (tag code : Byte),
    s.resetPin = false → s.uncounted = false → (s.lane l).aligned = false →
    (∀ c ∈ [Instr.trunkFillCell l, .trunkOtherKindCell l kind, .bindAckAccept l tag, .bindAckRefuse l tag,
        .bindAckUnknownCode l tag code, .releaseAck l tag, .resetAck l tag, .pause l tag, .resume l tag],
      exec c s = .next (s.modLane l fun r => { r with passes := min 6 (r.passes + 1) }))
    ∧ exec (.trunkBadCheckCell l) s = .next (s.modLane l fun r => { r with passes := 0 })

/-! ### Handshakes -/

/-- A matching BIND-ACK ACCEPT (R65), in its four steps: the lane becomes BOUND and counts the acceptance; the holder's
refusal count becomes 0; the arbiter is notified; the lane is judged; and the commit unit has its report
(R57; that it comes last is the model's choice, log 8). -/
def Obligations.BindAccepted : Prop :=
  ∀ (s : State) (l : LaneNo) (i : StreamNo) (tag : Byte),
    s.resetPin = false → s.uncounted = false → s.trunkUp = true → (s.lane l).aligned = true → tag = (s.lane l).tag →
    (s.lane l).outstanding = some .bind → (s.lane l).holder = some i →
    let bound := s.modLane l fun r =>
      { r with
        state := .bound
        outstanding := none
        answerDeadline := none
        waitingCell := none
        paused := false
        holdDeadline := none
        failures := 0
        bindsAccepted := r.bindsAccepted + 1 }
    exec (.bindAckAccept l tag) s =
      .next (judgeDevicePart (judgeLane l
        (notify .bindAccepted i (bound.modStream i fun r => { r with refusals := 0 }))))

/-- A matching BIND-ACK REFUSE (R14 to R16, R66): in the lane's own event the refusal is counted on the lane, the
holder loses it, and the lane is DISABLED with a disable pending, otherwise FREE in its group's list. Then the claims:
the bind-refused claim counts the refusal against an OPEN stream or a plain drain; below the refusal limit an OPEN
stream and a plain drain with cells queued keep their life state, and a plain drain with an empty queue is CLOSED by
the loss (R13); at the limit an OPEN stream becomes HELD and a plain drain CLOSED with its queue flushed, both with
cause HELD; the claims of the loss follow (R62; `commitLoss` is what `StreamImageApplied` says). Then the arbiter takes
the stream's notification and, where the lane joined its list, makes the pass on the join, in either order (R53): a
turn decides (log 6); and the commit unit has its report (R57; that it comes last is the model's choice, log 8). -/
def Obligations.BindRefused : Prop :=
  ∀ (s : State) (l : LaneNo) (i : StreamNo) (tag : Byte),
    s.resetPin = false → s.uncounted = false → s.trunkUp = true → (s.lane l).aligned = true → tag = (s.lane l).tag →
    (s.lane l).outstanding = some .bind → (s.lane l).holder = some i →
    let r := s.stream i
    let counted : Bool := r.life == .opened || r.life == .draining .plain
    let limit : Bool := counted && s.params.refusalLimit ≤ r.refusals + 1
    let ended :=
      (s.modLane l fun r =>
        { r with
          outstanding := none
          answerDeadline := none
          waitingCell := none
          failures := 0
          bindsRefused := r.bindsRefused + 1
          holder := none }).modStream i fun r => { r with heldLane := none }
    let g := s.params.groupMap.read l
    let back :=
      if (s.lane l).disablePending = true then
        ended.modLane l fun r => { r with state := .disabled, disablePending := false }
      else (ended.modLane l fun r => { r with state := .free, group := g }).setFree g (s.freeLanes.read g ++ [l])
    ∃ t u v, exec (.bindAckRefuse l tag) s = .next t
      ∧ exec (.drainCompletion i) (bindRefused i back) = .next u ∧ v = commitLoss i u
      ∧ ((s.lane l).disablePending = true → t = judgeDevicePart (notify .bindRefused i v))
      ∧ ((s.lane l).disablePending = false →
          t = judgeDevicePart
            (if v.turn then notify .bindRefused i (callPass v.dropTurn)
             else callPass (notify .bindRefused i v.dropTurn)))
      ∧ (LaneInv s →
        (t.lane l).bindsRefused = (s.lane l).bindsRefused + 1
        ∧ (t.stream i).refusals = (if counted then r.refusals + 1 else r.refusals)
        ∧ (limit = true → r.life = .opened → (t.stream i).life = .held ∧ (t.stream i).queue = r.queue)
        ∧ (limit = true → r.life = .draining .plain →
            (t.stream i).life = .closed ∧ (t.stream i).queue = [] ∧ (t.stream i).credit = 0
            ∧ t.freeBuffers = s.freeBuffers + r.queue.length)
        ∧ (r.life = .opened → limit = false → (t.stream i).life = .opened ∧ (t.stream i).queue = r.queue)
        ∧ (r.life = .draining .plain → limit = false →
            (r.queue ≠ [] → (t.stream i).life = .draining .plain ∧ (t.stream i).queue = r.queue)
            ∧ (r.queue = [] → (t.stream i).life = .closed ∧ (t.stream i).queue = []))
        ∧ (r.life = .draining .discard → (t.stream i).life = .closed)
        ∧ t.entry (.stream i .held) =
            (if limit = true then some (raisedEntry s.paceCount (s.entry (.stream i .held)))
             else s.entry (.stream i .held))
        ∧ ((s.lane l).disablePending = true →
            (t.lane l).state = .disabled ∧ (t.lane l).holder = none ∧ (t.lane l).tag = (s.lane l).tag
            ∧ (t.lane l).disablePending = false ∧ (t.stream i).heldLane ≠ some l)
        ∧ ((s.lane l).disablePending = false →
            ((t.lane l).state = .free ∧ (t.lane l).holder = none ∧ (t.lane l).tag = (s.lane l).tag
              ∧ l ∈ t.freeLanes.read (t.lane l).group)
            ∨ ((t.lane l).state = .binding ∧ (t.lane l).tag = (s.lane l).tag + 1)))

/-- A matching RELEASE-ACK and a matching RESET-ACK (R62, R69, R72): in the lane's own event the handshake ends, the
holder of a released lane loses it, and the lane becomes DISABLED with a disable pending, otherwise FREE in the group
that the active map gives, at the tail of that group's list. Then the claims of the loss, with the arbiter's
notification, and, where the lane joined its list, the pass on the join (that it follows is the model's reading, log
21); then the commit unit's report (that it comes last is the model's choice, log 8). -/
def Obligations.ReleaseAndRecoveryComplete : Prop :=
  ∀ (s : State) (l : LaneNo) (tag : Byte),
    s.resetPin = false → s.uncounted = false → s.trunkUp = true → (s.lane l).aligned = true → tag = (s.lane l).tag →
    let ended := s.modLane l fun r =>
      { r with outstanding := none, answerDeadline := none, waitingCell := none, failures := 0 }
    let g := s.params.groupMap.read l
    let back (t : State) : State :=
      if (s.lane l).disablePending = true then
        t.modLane l fun r => { r with state := .disabled, disablePending := false }
      else (t.modLane l fun r => { r with state := .free, group := g }).setFree g (s.freeLanes.read g ++ [l])
    let onJoin (t : State) : State := if (s.lane l).disablePending = true then t else callPass t
    (∀ i, (s.lane l).outstanding = some .release → (s.lane l).holder = some i →
      exec (.releaseAck l tag) s =
        .next (judgeDevicePart (onJoin (lossClaims .releaseCompleted i (back
          ((ended.modLane l fun r => { r with holder := none }).modStream i fun r => { r with heldLane := none }))))))
    ∧ ((s.lane l).outstanding = some .laneReset →
      exec (.resetAck l tag) s = .next (judgeDevicePart (onJoin (back ended))))

/-- The claims of a lost lane (R13, R62, R122), in their order: the stream table judges the drain, the commit unit
applies a commit-pending image and counts it in an open record that holds the stream (R122), which it may complete
(R126), and the arbiter is notified of the loss, so that it judges the stream as the first two leave it, with the kept
request time at an answer timeout of the bind (R42, R53). What the first does is what DRAIN_COMPLETION does, and
`commitLoss` is what `StreamImageApplied` says. A stream that neither drains nor waits for an image is only notified;
one whose drain completes is CLOSED; one that waits for an image has it applied, whether or not a record is open. -/
def Obligations.LossClaimsInOrder : Prop :=
  ∀ (s : State) (kind : NotifyKind) (i : StreamNo),
    s.resetPin = false → s.uncounted = false → (s.stream i).heldLane = none →
    let r := s.stream i
    let drained : Prop := r.life = .draining .discard ∨ (r.life = .draining .plain ∧ r.queue = [])
    (∃ u, exec (.drainCompletion i) s = .next u ∧ lossClaims kind i s = notify kind i (commitLoss i u))
    ∧ (¬ drained → r.commitPending = false → lossClaims kind i s = notify kind i s)
    ∧ (drained → r.commitPending = false →
      (lossClaims kind i s).sansBinding =
        ({ s with freeBuffers := s.freeBuffers + r.queue.length }.modStream i fun r =>
          { r with life := .closed, timer := .stopped, credit := 0, queue := [] }).sansBinding)
    ∧ ∀ m, ¬ drained → r.commitPending = true → r.staged = some m →
      (lossClaims kind i s).sansBinding =
        (judgeCompletion
          { s.setStream i
              { r with
                config := m
                generation := if r.generation = 65535 then 1 else r.generation + 1
                staged := none
                commitPending := false
                settle :=
                  if s.params.settleInterval = 0 then none
                  else some (s.paceCount + BitVec.ofNat 32 s.params.settleInterval)
                count := if m.reload = r.config.reload then r.count else m.reload
                credit := min r.credit m.creditCap
                expected := if m.sourcePort = r.config.sourcePort then r.expected else none } with
            record := s.record.map fun c =>
              { c with
                streams := c.streams.filter (· ≠ i)
                applied := if i ∈ c.streams then c.applied + 1 else c.applied } }).sansBinding

/-- An answer deadline reached (R63, R76): the tag moves on, the handshake ends, the timeout is counted, the lane
becomes QUARANTINED (DISABLED with a disable pending); a recovery raises RECOVERY_FAILED; a bind or release raises
ANSWER_TIMEOUT and the holder loses the lane, with LANE_LOST for a bind; then the commit unit's report (that it comes
last is the model's choice, log 8). (A deadline already passed still expires: log 3.) Before its deadline, or without
one, nothing changes. DISABLE_PENDING_APPLIED (R76; as a command of its own the model's choice, log 1): a lane that is
neither BOUND nor FREE, with a disable pending and no handshake in flight, becomes DISABLED; a BOUND one is released;
without a disable pending, or during a handshake, nothing changes. -/
def Obligations.AnswerTimeoutAndPendingDisable : Prop :=
  (∀ (s : State) (l : LaneNo), s.resetPin = false →
    let expired := s.modLane l fun r =>
      { r with
        state := if r.disablePending = true then .disabled else .quarantined
        disablePending := false
        tag := r.tag + 1
        outstanding := none
        answerDeadline := none
        waitingCell := none
        answerTimeouts := r.answerTimeouts + 1 }
    let lost (kind : NotifyKind) (i : StreamNo) (t : State) : State :=
      lossClaims kind i
        ((t.modLane l fun r => { r with holder := none }).modStream i fun r => { r with heldLane := none })
    (∀ d, (s.lane l).answerDeadline = some d → inFuture s.paceCount d = false →
      ((s.lane l).state = .recovering →
        exec (.answerDeadlineExpiry l) s = .next (judgeDevicePart (raise (.lane l .recoveryFailed) expired)))
      ∧ (∀ i, (s.lane l).state = .binding → (s.lane l).holder = some i →
        exec (.answerDeadlineExpiry l) s =
          .next (judgeDevicePart (lost .bindTimeout i
            (raise (.stream i .laneLost) (raise (.lane l .answerTimeout) expired)))))
      ∧ (∀ i, (s.lane l).state = .unbinding → (s.lane l).holder = some i →
        exec (.answerDeadlineExpiry l) s =
          .next (judgeDevicePart (lost .releaseTimeout i (raise (.lane l .answerTimeout) expired)))))
    ∧ ((∀ d, (s.lane l).answerDeadline = some d → inFuture s.paceCount d = true) →
      exec (.answerDeadlineExpiry l) s = .next s))
  ∧ (∀ (s : State) (l : LaneNo), s.resetPin = false → s.uncounted = false →
    ((s.lane l).disablePending = true → (s.lane l).outstanding = none →
      ((s.lane l).state ≠ .bound → (s.lane l).state ≠ .free →
        exec (.disablePendingApplied l) s =
          .next (s.modLane l fun r => { r with state := .disabled, disablePending := false }))
      ∧ (∀ i, (s.lane l).state = .bound → (s.lane l).holder = some i →
        exec (.disablePendingApplied l) s =
          .next (s.modLane l fun r =>
            { r with
              state := .unbinding
              tag := r.tag + 1
              outstanding := some .release
              answerDeadline := none
              holdDeadline := none
              paused := false
              launching := none
              waitingCell := some ⟨.release, i, r.tag + 1⟩ }))
      ∧ ((s.lane l).state = .free →
        let g := (s.lane l).group
        let rest := (s.freeLanes.read g).filter (· ≠ l)
        let u := (s.modLane l fun r => { r with state := .disabled, disablePending := false }).setFree g rest
        exec (.disablePendingApplied l) s = .next (if rest = [] then judgeGroup g u else u)))
    ∧ ((s.lane l).disablePending = false ∨ (s.lane l).outstanding ≠ none →
      exec (.disablePendingApplied l) s = .next s))

/-- A deadline is in the future exactly when it lies 1 to 2^31 - 1 pace units ahead, modulo 2^32, and a duration of 1 to
2^31 - 1 gives one that stays in the future until as many strokes have passed (R22). -/
def Obligations.DeadlinesModulo : Prop :=
  (∀ now deadline : PaceCount,
    inFuture now deadline = true ↔ 1 ≤ (deadline - now).toNat ∧ (deadline - now).toNat ≤ 2 ^ 31 - 1)
  ∧ ∀ (now : PaceCount) (d k : Nat), 1 ≤ d → d ≤ 2 ^ 31 - 1 → k ≤ d →
      inFuture (now + BitVec.ofNat 32 k) (deadlineAfter now d) = decide (k < d)

/-- A hold deadline reached on a BOUND lane (R61, R68, R93): the lane is released at once. A settle deadline reached
(R125): it becomes absent and the arbiter is notified. Before its deadline, or without one, each expiry changes nothing.
(An expiry taken late is still taken: log 3.) -/
def Obligations.HoldAndSettleExpire : Prop :=
  ∀ s : State, s.resetPin = false →
    (∀ (l : LaneNo) (i : StreamNo) (d : PaceCount), inFuture s.paceCount d = false →
      (s.lane l).holdDeadline = some d → (s.lane l).state = .bound → (s.lane l).holder = some i →
      exec (.holdDeadlineExpiry l) s =
        .next (s.modLane l fun r =>
          { r with
            state := .unbinding
            tag := r.tag + 1
            outstanding := some .release
            answerDeadline := none
            holdDeadline := none
            paused := false
            launching := none
            waitingCell := some ⟨.release, i, r.tag + 1⟩ }))
    ∧ (∀ l : LaneNo, (∀ d, (s.lane l).holdDeadline = some d → inFuture s.paceCount d = true) →
      exec (.holdDeadlineExpiry l) s = .next s)
    ∧ (∀ (i : StreamNo) (d : PaceCount), inFuture s.paceCount d = false → (s.stream i).settle = some d →
      exec (.settleDeadlineExpiry i) s =
        .next (notify .demandChange i (s.modStream i fun r => { r with settle := none })))
    ∧ ∀ i : StreamNo, (∀ d, (s.stream i).settle = some d → inFuture s.paceCount d = true) →
      exec (.settleDeadlineExpiry i) s = .next s

/-- A judgement of a BOUND lane (R92, R93, R94), test by test: release at once; keep, with any hold deadline cleared;
or hold grace, which a hold time of 0 and the cut-short end at once. A judgement of a group's lanes (R91, R94), at
"group waiting" and at the emptying of its free-lane list, judges each BOUND lane of the group by itself, and changes
nothing else. -/
def Obligations.JudgementOfBoundLane : Prop :=
  (∀ (s : State) (l : LaneNo) (i : StreamNo), (s.lane l).state = .bound → (s.lane l).holder = some i →
      let h := s.stream i
      let released := s.modLane l fun r =>
        { r with
          state := .unbinding
          tag := r.tag + 1
          outstanding := some .release
          answerDeadline := none
          holdDeadline := none
          paused := false
          launching := none
          waitingCell := some ⟨.release, i, r.tag + 1⟩ }
      let cut : Prop :=
        s.waiting.read (s.lane l).group = true ∧ s.freeLanes.read (s.lane l).group = []
      let demand : Prop :=
        h.queue ≠ [] ∧ (1 ≤ h.credit ∨ ∃ p, h.config.leadPoint = some p ∧ h.count ≤ p)
      let atOnce : Prop :=
        (s.lane l).disablePending = true ∨ h.life = .draining .discard
          ∨ (h.life = .draining .plain ∧ h.queue = []) ∨ h.commitPending = true
      (atOnce → judgeLane l s = released)
      ∧ (¬ atOnce → demand → judgeLane l s = s.modLane l fun r => { r with holdDeadline := none })
      ∧ (¬ atOnce → ¬ demand →
        ((s.lane l).holdDeadline = none → h.config.holdTime = 0 → judgeLane l s = released)
        ∧ (((s.lane l).holdDeadline ≠ none ∨ h.config.holdTime ≠ 0) → cut → judgeLane l s = released)
        ∧ ((s.lane l).holdDeadline = none → h.config.holdTime ≠ 0 → ¬ cut →
            judgeLane l s = s.modLane l fun r =>
              { r with holdDeadline := some (s.paceCount + BitVec.ofNat 32 h.config.holdTime) })
        ∧ ((s.lane l).holdDeadline ≠ none → ¬ cut → judgeLane l s = s)))
  ∧ ∀ (s : State) (g : GroupNo),
    judgeGroup g s = { s with lanes := (judgeGroup g s).lanes }
    ∧ ∀ k, (judgeGroup g s).lane k =
        if (s.lane k).group = g ∧ (s.lane k).state = .bound then (judgeLane k s).lane k else s.lane k

/-- LANE-CONTROL (R75, R77, R78) by lane state, with its status. A disable of a FREE lane can come in the midst of a
pass (R50; that it does, a turn says: log 6, and `ArbiterPassRounds` for `duringPass`): it then finds the lane FREE
still, or BINDING. -/
def Obligations.LaneControlByState : Prop :=
  ∀ (s : State) (p : PortNo) (q : Request) (l : LaneNo),
    s.resetPin = false → s.uncounted = false → s.nextRequest = some (p, q) → s.turn = false →
    (s.port p).record.level = .full → q.code = 0x10 → targetOf q = l.val →
    let t := (takeRequest p q s).dropTurn
    let st := (s.lane l).state
    let started (kind : Handshake) (state : LaneState) (i : StreamNo) (r : LaneRec) : LaneRec :=
      { r with
        state := state
        tag := r.tag + 1
        outstanding := some kind
        answerDeadline := none
        holdDeadline := none
        paused := false
        launching := none
        waitingCell := some ⟨kind, i, r.tag + 1⟩ }
    let holder := (s.lane l).holder.getD 0
    (selectorOf q = 0 →
      (st ≠ .disabled → exec .laneControlEnable s = .next (respond p q (bare .wrongState) t))
      ∧ (st = .disabled → s.trunkUp = true →
        exec .laneControlEnable s =
          .next (respond p q (bare .done) (t.modLane l (started .laneReset .recovering 0))))
      ∧ (st = .disabled → s.trunkUp = false →
        exec .laneControlEnable s =
          .next (respond p q (bare .done) (t.modLane l fun r => { r with state := .down }))))
    ∧ (selectorOf q = 1 →
      (st = .disabled → exec .laneControlDisable s = .next (respond p q (bare .wrongState) t))
      ∧ (st = .down ∨ st = .quarantined →
        exec .laneControlDisable s =
          .next (respond p q (bare .done) (t.modLane l fun r => { r with state := .disabled })))
      ∧ (st = .binding ∨ st = .unbinding ∨ st = .recovering →
        exec .laneControlDisable s =
          .next (respond p q (bare .done) (t.modLane l fun r => { r with disablePending := true })))
      ∧ (st = .bound →
        exec .laneControlDisable s =
          .next (respond p q (bare .done)
            (t.modLane l fun r => { started .release .unbinding holder r with disablePending := true })))
      ∧ (st = .free →
        exec .laneControlDisable s =
          .next (respond p q (bare .done) (duringPass (fun u => (laneDisable l u).2) t))
        ∧ ∀ u : State,
          ((u.lane l).state = .free →
            let g := (u.lane l).group
            let rest := (u.freeLanes.read g).filter (· ≠ l)
            let v := (u.modLane l fun r => { r with state := .disabled }).setFree g rest
            laneDisable l u = (.done, if rest = [] then judgeGroup g v else v))
          ∧ ((u.lane l).state = .binding →
            laneDisable l u = (.done, u.modLane l fun r => { r with disablePending := true }))))
    ∧ (selectorOf q = 2 →
      (st ≠ .bound → exec .laneControlRetire s = .next (respond p q (bare .wrongState) t))
      ∧ (st = .bound →
        exec .laneControlRetire s =
          .next (respond p q (bare .done) (t.modLane l (started .release .unbinding holder)))))
    ∧ (selectorOf q = 3 →
      (st ≠ .quarantined → exec .laneControlRecover s = .next (respond p q (bare .wrongState) t))
      ∧ (st = .quarantined →
        exec .laneControlRecover s =
          .next (respond p q (bare .done) (t.modLane l (started .laneReset .recovering 0)))))

/-! ### The bind arbiter -/

/-- A pass (R46, R49, R50), round by round: it ends while trunk commit is pending, while the budget test fails, and
when no waiting group has a free lane; the earliest entry of a group with a free lane is removed if its stream no
longer wants a lane, and otherwise started on the list's head lane. A start (R47, R50, R58, R61): the lane leaves its
list and is BINDING with the stream as holder and its BIND waiting, the stream holds it and keeps its request time, the
start joins the setup budget record, the spacing deadline is set, the entry is gone; with another lane left in the list
nothing else changes but the group's indication. A start that takes the last free lane also has the group's lanes
judged (R91); where it takes the group's last entry too, a turn says which of that judgement and "group not waiting" is
first (R95, last row; log 6). A pass that another event calls for is made at once or, where a turn says so, left to
ARBITER_PASS (log 6). An event that reaches the free-lane lists (`duringPass`) may come in the midst of a pass: a turn
says whether one is under way, where it has an entry to choose, and a turn at each claim whether the event comes before
that claim. The claim is then answered by the list as it stands: it takes the head lane, or it is refused, its entry
keeps its place, and its group is marked empty for the rest of the pass (R49, R50). -/
def Obligations.ArbiterPassRounds : Prop :=
  let stops (s : State) : Prop :=
    s.trunkCommitPending = true ∨ s.params.budgetCount ≤ s.budget.length
      ∨ ∃ newest, s.budget.getLast? = some newest ∧ (s.paceCount - newest).toNat < s.params.bindSpacing
  let passed (s : State) (marked : List GroupNo) (e : RequestEntry) : Prop :=
    e.group ∈ marked ∨ s.freeLanes.read e.group = []
  let chosen (s : State) (marked : List GroupNo) (e : RequestEntry) : Prop :=
    e.group ∉ marked ∧ ∃ before after, s.requests = before ++ e :: after ∧ ∀ x ∈ before, passed s marked x
  (∀ s : State, s.resetPin = false → s.uncounted = false →
    exec .arbiterPass s = .next (passLoop (s.requests.length + 4) [] s)
    ∧ (stops s ∨ (∀ e ∈ s.requests, passed s [] e) → exec .arbiterPass s = .next s)
    ∧ ∀ (e : RequestEntry) (l : LaneNo) (rest : List LaneNo),
      ¬ stops s → chosen s [] e → s.freeLanes.read e.group = l :: rest →
      ((s.stream e.stream).wantsLane s.paceCount = false →
        exec .arbiterPass s = exec .arbiterPass (removeEntry e.stream s))
      ∧ ((s.stream e.stream).wantsLane s.paceCount = true →
        exec .arbiterPass s = exec .arbiterPass (startBind e l rest s)
        ∧ (1 ≤ s.params.bindSpacing → exec .arbiterPass s = .next (startBind e l rest s))))
  ∧ (∀ (s : State) (e : RequestEntry) (l : LaneNo) (rest : List LaneNo),
    let started : State :=
      { ((s.setFree e.group rest).modLane l fun r =>
          { r with
            state := .binding
            holder := some e.stream
            tag := r.tag + 1
            outstanding := some .bind
            answerDeadline := none
            holdDeadline := none
            paused := false
            launching := none
            waitingCell := some ⟨.bind, e.stream, r.tag + 1⟩ }).modStream e.stream
          (fun r => { r with heldLane := some l, keptTime := some e.time }) with
        budget := s.budget ++ [s.paceCount]
        spacing :=
          if s.params.bindSpacing = 0 then none
          else some (s.paceCount + BitVec.ofNat 32 s.params.bindSpacing)
        requests := s.requests.filter fun x => x.stream ≠ e.stream }
    let last : Prop := ∀ x ∈ started.requests, x.group ≠ e.group
    (rest ≠ [] → ¬ last → startBind e l rest s = started)
    ∧ (rest ≠ [] → last → startBind e l rest s = started.setWaiting e.group false)
    ∧ (rest = [] → ¬ last → startBind e l rest s = judgeGroup e.group started)
    ∧ (rest = [] → last → startBind e l rest s =
        if s.turn then (judgeGroup e.group started.dropTurn).setWaiting e.group false
        else judgeGroup e.group (started.dropTurn.setWaiting e.group false)))
  ∧ (∀ s : State, callPass s = if s.turn then s.dropTurn else pass s.dropTurn)
  ∧ (∀ (s : State) (n : Nat) (marked : List GroupNo),
    (stops s ∨ (∀ e ∈ s.requests, passed s marked e) →
      passLoop n marked s = s ∧ passUntil n marked s = (none, s))
    ∧ ∀ (e : RequestEntry) (l : LaneNo) (rest : List LaneNo),
      ¬ stops s → chosen s marked e → s.freeLanes.read e.group = l :: rest →
      ((s.stream e.stream).wantsLane s.paceCount = false →
        passLoop (n + 1) marked s = passLoop n marked (removeEntry e.stream s)
        ∧ passUntil (n + 1) marked s = passUntil n marked (removeEntry e.stream s))
      ∧ ((s.stream e.stream).wantsLane s.paceCount = true →
        passLoop (n + 1) marked s = passLoop n marked (startBind e l rest s)
        ∧ passUntil (n + 1) marked s =
            if s.turn then (some (e, marked), s.dropTurn)
            else passUntil n marked (startBind e l rest s.dropTurn)))
  ∧ (∀ (s : State) (e : RequestEntry) (marked : List GroupNo),
    (s.freeLanes.read e.group = [] →
      passFrom e marked s = passLoop (s.requests.length + 4) (e.group :: marked) s)
    ∧ ∀ (l : LaneNo) (rest : List LaneNo), s.freeLanes.read e.group = l :: rest →
      let t := startBind e l rest s
      passFrom e marked s = passLoop (t.requests.length + 4) marked t)
  ∧ ∀ (event : State → State) (s : State),
    (stops s ∨ (∀ e ∈ s.requests, passed s [] e) → duringPass event s = event s)
    ∧ (¬ stops s → (∃ e ∈ s.requests, ¬ passed s [] e) →
      duringPass event s =
        if s.turn then
          match passUntil (s.requests.length + 4) [] s.dropTurn with
          | (some (e, marked), t) => passFrom e marked (event t)
          | (none, t) => event t
        else event s.dropTurn)

/-- The arbiter's taking of a notification (R32, R33, R41, R42, R43), by its kind and by the entry and the stream
found. The kept request time goes at the report that the bind was accepted or that the lane was lost, and where the
stream holds no lane and does not want one. Without an entry a stream that wants a lane gets one, with the kept request
time at a bind answer timeout and the present pace count otherwise, and a pass is called. An entry whose stream still
wants a lane takes its reason, any other is removed. -/
def Obligations.NotificationJudgesStream : Prop :=
  ∀ (s : State) (kind : NotifyKind) (i : StreamNo),
    let r := s.stream i
    let wants : Prop :=
      (r.life = .opened ∨ ∃ k, r.life = .draining k) ∧ r.heldLane = none
        ∧ (∀ d, r.settle = some d → inFuture s.paceCount d = false)
        ∧ r.queue ≠ [] ∧ (1 ≤ r.credit ∨ ∃ p, r.config.leadPoint = some p ∧ r.count ≤ p)
    let reason : Reason := if 1 ≤ r.credit then .demand else .lead
    let time : PaceCount := if kind = .bindTimeout then r.keptTime.getD s.paceCount else s.paceCount
    let forgotten := s.modStream i fun r => { r with keptTime := none }
    let forgets : Prop :=
      kind = .bindAccepted ∨ (r.heldLane = none ∧ (kind ≠ .demandChange ∨ ¬ wants))
    ∃ u : State, (forgets → u = forgotten) ∧ (¬ forgets → u = s)
      ∧ (s.hasEntry i = false → wants →
        notify kind i s = callPass (joinList ⟨i, time, reason, r.config.group⟩ u))
      ∧ (s.hasEntry i = false → ¬ wants → notify kind i s = u)
      ∧ (s.hasEntry i = true → wants →
        notify kind i s =
          { u with requests := s.requests.map fun e => if e.stream = i then { e with reason := reason } else e })
      ∧ (s.hasEntry i = true → ¬ wants → notify kind i s = removeEntry i u)

/-- An entry joins in list order (R39): the list gains the entry and keeps the order of the others; every entry ahead
of it is older, or of the same age and of a lower stream number; a list in order stays in order. The first entry of its
group tells the lane controller that the group waits, which judges the group's lanes (R40, R91). An entry that is
removed leaves the others in order, and the last of its group takes the indication back (R40, R44). -/
def Obligations.EntryJoinsInOrder : Prop :=
  (∀ (now : PaceCount) (e : RequestEntry) (es : List RequestEntry),
    let age (x : RequestEntry) : Nat := min (2 ^ 31 - 1) (now - x.time).toNat
    let ahead (x y : RequestEntry) : Prop := age y < age x ∨ (age x = age y ∧ x.stream ≤ y.stream)
    ∃ before after, es = before ++ after ∧ insertEntry now e es = before ++ e :: after
      ∧ (∀ x ∈ before, ahead x e ∧ (age x = age e → x.stream ≠ e.stream))
      ∧ (es.Pairwise ahead → (insertEntry now e es).Pairwise ahead))
  ∧ (∀ (s : State) (e : RequestEntry),
    let joined := { s with requests := insertEntry s.paceCount e s.requests }
    ((∃ x ∈ s.requests, x.group = e.group) → joinList e s = joined)
    ∧ ((∀ x ∈ s.requests, x.group ≠ e.group) →
      joinList e s = judgeGroup e.group (joined.setWaiting e.group true)))
  ∧ ∀ (s : State) (i : StreamNo),
    let rest := s.requests.filter fun x => x.stream ≠ i
    (s.hasEntry i = false → removeEntry i s = s)
    ∧ ∀ e, s.requests.find? (fun x => x.stream = i) = some e →
      ((∃ x ∈ rest, x.group = e.group) → removeEntry i s = { s with requests := rest })
      ∧ ((∀ x ∈ rest, x.group ≠ e.group) →
        removeEntry i s = { s with requests := rest }.setWaiting e.group false)

/-- The oldest entry of the setup budget record at W pace units, and the spacing deadline reached (R45, R47, R48): the
entry leaves, the deadline becomes absent, and the arbiter makes a pass. Before that nothing changes. (An expiry taken
late is still taken: the model's choice, log 3.) -/
def Obligations.BudgetAndSpacingExpire : Prop :=
  ∀ s : State, s.resetPin = false →
    (∀ oldest rest, s.budget = oldest :: rest →
      (s.params.budgetWindow ≤ (s.paceCount - oldest).toNat →
        exec .budgetEntryAgeOut s = .next (pass { s with budget := rest }))
      ∧ ((s.paceCount - oldest).toNat < s.params.budgetWindow → exec .budgetEntryAgeOut s = .next s))
    ∧ (∀ d, s.spacing = some d →
      (inFuture s.paceCount d = false → exec .spacingExpiry s = .next (pass { s with spacing := none }))
      ∧ (inFuture s.paceCount d = true → exec .spacingExpiry s = .next s))

/-! ### Life states -/

/-- OPEN-STREAM (R7, R8): a CLOSED stream of generation 1 or more becomes OPEN with its count, credit, timer state,
expected sequence, refusal count and counters set, and nothing else changes but by the notifications: the pacing unit's
where its credit input or lead input has changed (R34), and the stream table's at the change of life state (R6). Any
other stream is left unchanged with WRONG-STATE. -/
def Obligations.OpenStreamOpens : Prop :=
  ∀ (s : State) (p : PortNo) (q : Request) (i : StreamNo),
    s.resetPin = false → s.uncounted = false → s.nextRequest = some (p, q) → s.turn = false →
    (s.port p).record.level = .full → q.code = 0x0B → targetOf q = i.val →
    let t := (takeRequest p q s).dropTurn
    let r := s.stream i
    (r.life = .closed → 1 ≤ r.generation →
      let u := t.modStream i fun r =>
        { r with
          life := .opened
          expected := none
          count := r.config.reload
          credit := r.config.initialCredit
          timer := if r.config.runAtOpen then .running else .stopped
          refusals := 0
          admitted := 0
          launched := 0
          queueDrops := 0
          duplicateDrops := 0
          sequenceGaps := 0 }
      exec .openStream s =
        .next (respond p q (bare .done) (demandChanged i
          (if (1 ≤ r.credit ↔ 1 ≤ (u.stream i).credit) ∧ r.leadInput = (u.stream i).leadInput
           then u else demandChanged i u))))
    ∧ (r.life ≠ .closed ∨ r.generation = 0 →
      exec .openStream s = .next (respond p q (bare .wrongState) t))

/-- CLOSE-STREAM without discard (R10, R12) and CLEAR-HOLD (R17) by life state. A stream that enters CLOSED does so with
the changes of R9, its request entry removed. One that becomes DRAINING is notified to the arbiter and the lane
controller (R6); with an empty queue its BOUND lane is released at once (R10, R92). (A stream that is HELD holds no
lane, and a lane that a stream holds names it: R5, R58, the invariants `LifeInv` and `LaneInv`.) -/
def Obligations.PlainCloseAndClearHold : Prop :=
  ∀ (s : State) (p : PortNo) (q : Request) (i : StreamNo),
    s.resetPin = false → s.uncounted = false → s.nextRequest = some (p, q) → s.turn = false →
    (s.port p).record.level = .full → targetOf q = i.val →
    let t := (takeRequest p q s).dropTurn
    let r := s.stream i
    let closed := removeEntry i ({ t with freeBuffers := t.freeBuffers + r.queue.length }.modStream i fun r =>
      { r with life := .closed, timer := .stopped, credit := 0, queue := [], keptTime := none })
    let drains := t.modStream i fun r => { r with life := .draining .plain }
    (q.code = 0x0C → selectorOf q = 0 →
      (r.life = .closed → exec .closeStream s = .next (respond p q (bare .wrongState) t))
      ∧ ((∃ k, r.life = .draining k) → exec .closeStream s = .next (respond p q (bare .done) t))
      ∧ (r.life = .opened → (r.queue ≠ [] ∨ r.heldLane ≠ none) →
        exec .closeStream s = .next (respond p q (bare .done) (demandChanged i drains)))
      ∧ (∀ l, r.life = .opened → r.queue = [] → r.heldLane = some l → (s.lane l).holder = some i →
        (s.lane l).state = .bound →
        demandChanged i drains = (removeEntry i drains).modLane l fun r =>
          { r with
            state := .unbinding
            tag := r.tag + 1
            outstanding := some .release
            answerDeadline := none
            holdDeadline := none
            paused := false
            launching := none
            waitingCell := some ⟨.release, i, r.tag + 1⟩ })
      ∧ (r.life = .held ∨ (r.life = .opened ∧ r.queue = []) → r.heldLane = none →
        exec .closeStream s = .next (respond p q (bare .done) closed)))
    ∧ (q.code = 0x0D →
      (r.life ≠ .held → exec .clearHold s = .next (respond p q (bare .wrongState) t))
      ∧ (r.life = .held →
        exec .clearHold s =
          .next (respond p q (bare .done)
            (demandChanged i (t.modStream i fun r => { r with life := .opened, refusals := 0 })))))

/-- CLOSE-STREAM with discard (R11, R12) by life state: the queue is flushed and the entry removed; without a lane the
stream becomes CLOSED with the changes of R9, with one it drains until the lane is handed back, and a BOUND lane is
released at once (R11, R92). The flush can come among the claims of a launch of the stream that is in flight (R89;
`duringLaunches` is what `LaneSlotLaunches` says). (A stream that is HELD holds no lane, and a lane that a stream holds
names it: R5, R58, the invariants `LifeInv` and `LaneInv`.) -/
def Obligations.DiscardCloseFlushes : Prop :=
  (∀ (s : State) (p : PortNo) (q : Request) (i : StreamNo),
    s.resetPin = false → s.uncounted = false → s.nextRequest = some (p, q) → s.turn = false →
    (s.port p).record.level = .full → targetOf q = i.val → q.code = 0x0C → selectorOf q = 1 →
    let t := (takeRequest p q s).dropTurn
    exec .closeStreamDiscard s =
      .next (respond p q (bare (if (s.stream i).life = .closed then .wrongState else .done))
        (duringLaunches (· == i) (fun u => (closeDiscard i u).2) t)))
  ∧ ∀ (t : State) (i : StreamNo),
    let r := t.stream i
    let flushed := { t with freeBuffers := t.freeBuffers + r.queue.length }
    let drains := removeEntry i (flushed.modStream i fun r => { r with life := .draining .discard, queue := [] })
    (r.life = .closed → closeDiscard i t = (.wrongState, t))
    ∧ (r.life = .draining .discard → closeDiscard i t = (.done, t))
    ∧ (r.life = .held ∨ r.life = .opened ∨ r.life = .draining .plain → r.heldLane = none →
      closeDiscard i t =
        (.done, removeEntry i (flushed.modStream i fun r =>
          { r with life := .closed, timer := .stopped, credit := 0, queue := [], keptTime := none })))
    ∧ ∀ l, r.life = .opened ∨ r.life = .draining .plain → r.heldLane = some l → (t.lane l).holder = some i →
      ((t.lane l).state ≠ .bound → closeDiscard i t = (.done, drains))
      ∧ ((t.lane l).state = .bound →
        closeDiscard i t =
          (.done, drains.modLane l fun r =>
            { r with
              state := .unbinding
              tag := r.tag + 1
              outstanding := some .release
              answerDeadline := none
              holdDeadline := none
              paused := false
              launching := none
              waitingCell := some ⟨.release, i, r.tag + 1⟩ }))

/-- A drain completion (R9, R13): a DRAINING stream that holds no lane becomes CLOSED if it drains with discard or its
queue is empty; any other stream is left unchanged. (As a command of its own: the model's choice, log 1.) -/
def Obligations.DrainCompletionCloses : Prop :=
  ∀ (s : State) (i : StreamNo), s.resetPin = false → s.uncounted = false →
    let r := s.stream i
    let complete : Prop :=
      r.heldLane = none ∧ (r.life = .draining .discard ∨ (r.life = .draining .plain ∧ r.queue = []))
    (complete →
      ∃ t, exec (.drainCompletion i) s = .next t ∧ t.hasEntry i = false
        ∧ t.sansBinding =
            ({ s with freeBuffers := s.freeBuffers + r.queue.length }.modStream i fun r =>
              { r with life := .closed, timer := .stopped, credit := 0, queue := [] }).sansBinding)
    ∧ (¬ complete → exec (.drainCompletion i) s = .next s)

/-! ### Staging and commit -/

/-- The checks of a stream image (R114, R169) and of a device parameter image (R115, R170): an image is accepted
exactly when every field lies in its range, and the accepted image has the fields of its octets. -/
def Obligations.ImagesChecked : Prop :=
  (∀ (t : Payload) (k : Nat),
    let octet (j : Nat) : Nat := (octetAt t (k + j)).toNat
    let pair (j : Nat) : Nat := octet j * 256 + octet (j + 1)
    let flag (j : Nat) : Bool := (octetAt t (k + 5)).getLsbD j
    let valid : Prop :=
      octet 0 ≤ 5 ∧ octet 1 ≤ 3 ∧ 1 ≤ octet 2 ∧ 1 ≤ octet 3 ∧ octet 3 ≤ 15 ∧ octet 4 ≤ octet 3
        ∧ 1 ≤ pair 6 ∧ (flag 0 = true → pair 8 ≤ pair 6) ∧ pair 10 ≤ 4095
    (¬ valid → streamImageAt t k = none)
    ∧ (valid → ∃ m, streamImageAt t k = some m
        ∧ m.sourcePort.val = octet 0 ∧ m.group.val = octet 1 ∧ m.queueLimit = octet 2 ∧ m.creditCap = octet 3
        ∧ m.initialCredit = octet 4 ∧ m.leadPoint = (if flag 0 then some (pair 8) else none)
        ∧ m.sequenceCheck = flag 1 ∧ m.runAtOpen = flag 2 ∧ m.reload = pair 6 ∧ m.holdTime = pair 10
        ∧ ∀ b : Fin 6, m.reportMask.getLsbD b.val = (octetAt t (k + 12)).getLsbD b.val))
  ∧ (∀ (t : Payload) (k : Nat),
    let octet (j : Nat) : Nat := (octetAt t (k + j)).toNat
    let pair (j : Nat) : Nat := octet j * 256 + octet (j + 1)
    let valid : Prop :=
      1 ≤ pair 0 ∧ pair 0 ≤ 1000 ∧ 1 ≤ octet 2 ∧ octet 2 ≤ 8 ∧ 1 ≤ pair 3 ∧ pair 5 ≤ 4095 ∧ pair 5 ≤ pair 3
        ∧ 1 ≤ pair 7 ∧ pair 7 ≤ 4095 ∧ 1 ≤ octet 9 ∧ octet 9 ≤ 7 ∧ 1 ≤ pair 11
        ∧ (octet 13 ≤ 5 ∨ octet 13 = 255)
    (¬ valid → deviceImageAt t k = none)
    ∧ (valid → ∃ d, deviceImageAt t k = some d
        ∧ d.paceMultiplier = pair 0 ∧ d.budgetCount = octet 2 ∧ d.budgetWindow = pair 3 ∧ d.bindSpacing = pair 5
        ∧ d.answerTimeout = pair 7 ∧ d.refusalLimit = octet 9 ∧ d.settleInterval = octet 10
        ∧ d.commitTimeout = pair 11
        ∧ (octet 13 = 255 → d.reportPort = none) ∧ (∀ p, octet 13 = p.val → d.reportPort = some p)
        ∧ (∀ l, (d.groupMap.read l).val = octet (14 + l.val / 4) / 4 ^ (l.val % 4) % 4)
        ∧ (∀ b : Fin 4, d.laneMask.getLsbD b.val = (octetAt t (k + 18)).getLsbD b.val
            ∧ d.deviceMask.getLsbD b.val = (octetAt t (k + 20)).getLsbD b.val)
        ∧ ∀ b : Fin 6, d.portMask.getLsbD b.val = (octetAt t (k + 19)).getLsbD b.val))

/-- Staging (R114, R115, R116): an image that passes its checks becomes the staged image, replacing any other, with
DONE; one that fails is answered BAD-VALUE and leaves what was staged. -/
def Obligations.StagingStoresWholeImages : Prop :=
  ∀ (s : State) (p : PortNo) (q : Request),
    s.resetPin = false → s.uncounted = false → s.nextRequest = some (p, q) → s.turn = false →
    (s.port p).record.level = .full →
    let t := (takeRequest p q s).dropTurn
    (∀ i : StreamNo, q.code = 0x08 → targetOf q = i.val →
      (∀ m, streamImageAt q.payload 3 = some m →
        exec .stageStream s =
          .next (respond p q (bare .done) (t.modStream i fun r => { r with staged := some m })))
      ∧ (streamImageAt q.payload 3 = none →
        exec .stageStream s = .next (respond p q (bare .badValue) t)))
    ∧ (q.code = 0x06 →
      (∀ d, deviceImageAt q.payload 3 = some d →
        exec .stageDevice s = .next (respond p q (bare .done) { t with stagedParams := some d }))
      ∧ (deviceImageAt q.payload 3 = none →
        exec .stageDevice s = .next (respond p q (bare .badValue) t)))
    ∧ ∀ x : PortNo, q.code = 0x07 → targetOf q = x.val →
      ((octetAt q.payload 3).toNat ≤ 1 → (octetAt q.payload 4).toNat ≤ 2 →
        exec .stagePort s =
          .next (respond p q (bare .done) (t.modPort x fun r =>
            { r with
              staged := some
                ⟨decide ((octetAt q.payload 3).toNat = 1),
                  if (octetAt q.payload 4).toNat = 0 then .none
                  else if (octetAt q.payload 4).toNat = 1 then .read else .full⟩ })))
      ∧ (1 < (octetAt q.payload 3).toNat ∨ 2 < (octetAt q.payload 4).toNat →
        exec .stagePort s = .next (respond p q (bare .badValue) t))

/-- The application of a commit-pending image to a stream that holds no lane (R121, R122, R125): configuration,
generation, settle deadline, count, credit and expected sequence; the staged image and the flag are gone, the request
entry is removed. An open record that holds the stream counts it and, with nothing left pending, closes (R126, R148;
`CompletedCommitAnswered` says how `judgeCompletion` answers it); one that does not hold it counts nothing (R122). As
the claim of a lost lane (`commitLoss`) that is all; as a command of its own (log 1) the notification of R121 step 7
follows. A stream that holds a lane, or is not commit pending, is left unchanged. -/
def Obligations.StreamImageApplied : Prop :=
  ∀ (s : State) (i : StreamNo),
    let r := s.stream i
    (∀ m, r.commitPending = true → r.staged = some m →
      let applied :=
        s.setStream i
          { r with
            config := m
            generation := if r.generation = 65535 then 1 else r.generation + 1
            staged := none
            commitPending := false
            settle :=
              if s.params.settleInterval = 0 then none
              else some (s.paceCount + BitVec.ofNat 32 s.params.settleInterval)
            count := if m.reload = r.config.reload then r.count else m.reload
            credit := min r.credit m.creditCap
            expected := if m.sourcePort = r.config.sourcePort then r.expected else none }
      (s.record = none → commitLoss i s = removeEntry i applied)
      ∧ (∀ c, s.record = some c → i ∈ c.streams →
        commitLoss i s =
          judgeCompletion (removeEntry i
            { applied with
              record := some { c with streams := c.streams.filter (· ≠ i), applied := c.applied + 1 } }))
      ∧ (∀ c, s.record = some c → i ∉ c.streams → commitLoss i s = judgeCompletion (removeEntry i applied))
      ∧ (s.resetPin = false → s.uncounted = false → r.heldLane = none →
        exec (.streamImageApplication i) s = .next (demandChanged i (commitLoss i s))
        ∧ (s.record = none → (demandChanged i (commitLoss i s)).sansBinding = applied.sansBinding)
        ∧ (∀ c, s.record = some c → i ∈ c.streams →
          (demandChanged i (commitLoss i s)).sansBinding =
            (judgeCompletion
              { applied with
                record :=
                  some { c with streams := c.streams.filter (· ≠ i), applied := c.applied + 1 } }).sansBinding)
        ∧ ∀ c, s.record = some c → i ∉ c.streams →
          (demandChanged i (commitLoss i s)).sansBinding = (judgeCompletion applied).sansBinding))
    ∧ (r.commitPending = false ∨ r.staged = none → commitLoss i s = s)
    ∧ (s.resetPin = false → s.uncounted = false → r.heldLane ≠ none ∨ r.commitPending = false ∨ r.staged = none →
      exec (.streamImageApplication i) s = .next s)

/-- The application of a waiting device parameter set when no lane is in handshake (R52, R123, R124): the whole set
becomes active, the staged set and the flag are gone, the setup budget record is judged by the new W and the spacing
deadline by the new S, a pending device part becomes applied, and the arbiter is called to a pass; an open record that
this completes is closed. While a lane is in handshake, or nothing waits, nothing changes. (As a command of its own:
the model's choice, log 1; when the called pass is made: log 6.) -/
def Obligations.DeviceSetApplied : Prop :=
  ∀ s : State, s.resetPin = false → s.uncounted = false →
    let quiet : Prop := ∀ l, (s.lane l).state ≠ .binding ∧ (s.lane l).state ≠ .unbinding
      ∧ (s.lane l).state ≠ .recovering
    (∀ d, s.trunkCommitPending = true → s.stagedParams = some d → quiet →
      let kept := s.budget.filter fun b => (s.paceCount - b).toNat < d.budgetWindow
      exec .deviceApplication s =
        .next (judgeCompletion (callPass
          { s with
            params := d
            stagedParams := none
            trunkCommitPending := false
            record := s.record.map fun c =>
              { c with devicePart := if c.devicePart = .pending then .applied else c.devicePart }
            budget := kept
            spacing :=
              if d.bindSpacing = 0 then none
              else kept.getLast?.bind fun newest =>
                let deadline := newest + BitVec.ofNat 32 d.bindSpacing
                if inFuture s.paceCount deadline then some deadline else none })))
    ∧ (s.trunkCommitPending = false ∨ s.stagedParams = none ∨ ¬ quiet →
      exec .deviceApplication s = .next s)

/-- The completion of an open record (R126, R148): a record with nothing pending closes with DONE and its applied and
withdrawn counts in the barred port's reserved place, or discarded if it is void, and the port is barred no more; a
record with something pending stays. COMMIT_RESPONSE is the agent's taking of such a response on its own. (That the
response is taken at once, and that the record keeps the selector it echoes, are the model's: logs 1 and 15.) -/
def Obligations.CompletedCommitAnswered : Prop :=
  (∀ (s : State) (c : CommitRecord) (p : PortNo), s.record = some c → s.barred = some p →
    (c.streams = [] → c.devicePart ≠ .pending →
      judgeCompletion s =
        { s.modPort p (fun r =>
            { r with
              responses :=
                if s.owedVoid then r.responses
                else r.responses ++
                  [⟨c.tag, .done,
                    octetTable 56 ([0x0A, c.selector] ++ octets2 c.applied ++ octets2 c.withdrawn)⟩]
              reserved := false }) with
          record := none
          commitAnswer := none
          barred := none
          owedVoid := false })
    ∧ (c.streams ≠ [] ∨ c.devicePart = .pending → judgeCompletion s = s))
  ∧ (∀ (s : State), s.resetPin = false → s.uncounted = false →
    (∀ a p, s.commitAnswer = some a → s.barred = some p →
      exec .commitResponse s =
        .next
          { s.modPort p (fun r =>
              { r with
                responses := if s.owedVoid then r.responses else r.responses ++ [a]
                reserved := false }) with
            commitAnswer := none
            barred := none
            owedVoid := false })
    ∧ (s.commitAnswer = none ∨ s.barred = none → exec .commitResponse s = .next s))

/-- The commit deadline reached (R127, R148): COMMIT-LATE with the number of parts still pending is placed, COMMIT_LATE
is raised, the record closes, and nothing pending is cancelled. Before its deadline, or with no record, nothing
changes. (The selector echoed and an expiry taken late: logs 3 and 15.) -/
def Obligations.CommitDeadlineExpires : Prop :=
  ∀ s : State, s.resetPin = false →
    (∀ c p, s.record = some c → s.barred = some p → inFuture s.paceCount c.deadline = false →
      exec .commitDeadlineExpiry s =
        .next (raise (.device .commitLate)
          { s.modPort p (fun r =>
              { r with
                responses :=
                  if s.owedVoid then r.responses
                  else r.responses ++
                    [⟨c.tag, .commitLate,
                      octetTable 56 ([0x0A, c.selector] ++
                        octets2 (c.streams.length + if c.devicePart = .pending then 1 else 0))⟩]
                reserved := false }) with
            record := none
            commitAnswer := none
            barred := none
            owedVoid := false }))
    ∧ (s.record = none ∨ (∃ c, s.record = some c ∧ inFuture s.paceCount c.deadline = true) →
      exec .commitDeadlineExpiry s = .next s)

/-- A COMMIT that is refused, or that has nothing to do (R118, R119, R151): with a record open WRONG-STATE before any
other test; with the ports flag and no port left at FULL BAD-VALUE; with no flag and no stream part DONE with counts 0.
Each leaves everything as it was. And the scope that a COMMIT carries (R151, R172), with the refusals of the agent's
checks. -/
def Obligations.CommitChecked : Prop :=
  (∀ (s : State) (p : PortNo) (q : Request),
    s.resetPin = false → s.uncounted = false → s.nextRequest = some (p, q) → (s.port p).record.level = .full →
    q.code = 0x0A →
    let taken := takeRequest p q s
    let t := taken.dropTurn
    (s.turn = false → ∀ scope, commitScopeOf q = .ok scope →
      (s.record.isSome = true → exec .commit s = .next (respond p q (bare .wrongState) t))
      ∧ (s.record = none → scope.ports = true →
        (∀ x, ((s.port x).staged.getD (s.port x).record).level ≠ .full) →
        exec .commit s = .next (respond p q (bare .badValue) t)))
    ∧ (s.turn = false → s.record = none → selectorOf q = 0 → octetAt q.payload 3 = 0 →
      exec .commit s = .next (respond p q ⟨.done, [0, 0, 0, 0]⟩ t))
    ∧ (∀ status, commitScopeOf q = .error status → exec .commit s = .next (respond p q (bare status) taken)))
  ∧ (∀ q : Request,
    let device := (octetAt q.payload 3).getLsbD 0
    let ports := (octetAt q.payload 3).getLsbD 1
    let length := (octetAt q.payload 4).toNat
    (selectorOf q = 0 → commitScopeOf q = .ok ⟨device, ports, .absent⟩)
    ∧ (selectorOf q = 2 → commitScopeOf q = .ok ⟨device, ports, .allStaged⟩)
    ∧ (3 ≤ selectorOf q ∨ (selectorOf q = 1 ∧ (length = 0 ∨ 16 < length)) → commitScopeOf q = .error .badValue)
    ∧ (selectorOf q = 1 → 1 ≤ length → length ≤ 16 →
      ((∃ k < length, 511 < word16At q.payload (5 + 2 * k)) → commitScopeOf q = .error .badTarget)
      ∧ ((∀ k < length, word16At q.payload (5 + 2 * k) ≤ 511) →
        ∃ is, commitScopeOf q = .ok ⟨device, ports, .list is⟩
          ∧ is.map Fin.val = (List.range length).map fun k => word16At q.payload (5 + 2 * k))))

/-- A COMMIT that is taken (R119, R120): every staged port record is applied with the ports flag; of the streams named
that have a staged image, one that holds no lane has it applied at once (R121: configuration, generation, settle
deadline, count, credit, expected sequence), one that holds a lane becomes commit pending; every other stream keeps its
configuration; the BOUND lane of one that becomes commit pending is released at once (R92, test 4); the device part is
applied, left pending while a lane is in handshake, or none; the record, or the DONE response of one that is complete at
once, counts the images applied. (The order of the claims after the event is the model's choice, log 9; the selector
that the record keeps is log 15.) -/
def Obligations.CommitTaken : Prop :=
  ∀ (s : State) (p : PortNo) (q : Request) (scope : CommitScope),
    s.resetPin = false → s.uncounted = false → s.nextRequest = some (p, q) → s.turn = false →
    (s.port p).record.level = .full → q.code = 0x0A →
    commitScopeOf q = .ok scope → s.record = none →
    (scope.ports = true → ∃ x, ((s.port x).staged.getD (s.port x).record).level = .full) →
    let named (i : StreamNo) : Prop :=
      match scope.streams with
      | .absent => False
      | .list is => i ∈ is
      | .allStaged => True
    let quiet : Prop := ∀ l, (s.lane l).state ≠ .binding ∧ (s.lane l).state ≠ .unbinding
      ∧ (s.lane l).state ≠ .recovering
    ∃ t, exec .commit s = .next t
      ∧ (∀ x, (t.port x).record =
            (if scope.ports then (s.port x).staged.getD (s.port x).record else (s.port x).record)
          ∧ (t.port x).staged = if scope.ports then none else (s.port x).staged)
      ∧ (∀ i m, named i → (s.stream i).staged = some m → (s.stream i).heldLane = none →
          (t.stream i).config = m ∧ (t.stream i).staged = none ∧ (t.stream i).commitPending = false
          ∧ (t.stream i).generation =
              (if (s.stream i).generation = 65535 then 1 else (s.stream i).generation + 1)
          ∧ (t.stream i).settle =
              (if s.params.settleInterval = 0 then none
               else some (s.paceCount + BitVec.ofNat 32 s.params.settleInterval))
          ∧ (t.stream i).count =
              (if m.reload = (s.stream i).config.reload then (s.stream i).count else m.reload)
          ∧ (t.stream i).credit = min (s.stream i).credit m.creditCap
          ∧ (t.stream i).expected =
              if m.sourcePort = (s.stream i).config.sourcePort then (s.stream i).expected else none)
      ∧ (∀ i m, named i → (s.stream i).staged = some m → (s.stream i).heldLane ≠ none →
          (t.stream i).config = (s.stream i).config ∧ (t.stream i).staged = some m
          ∧ (t.stream i).commitPending = true ∧ (t.stream i).generation = (s.stream i).generation
          ∧ (LaneInv s → ∀ l, (s.stream i).heldLane = some l → (s.lane l).state = .bound →
            t.lane l =
              { s.lane l with
                state := .unbinding
                tag := (s.lane l).tag + 1
                outstanding := some .release
                answerDeadline := none
                holdDeadline := none
                paused := false
                launching := none
                waitingCell := some ⟨.release, i, (s.lane l).tag + 1⟩ }))
      ∧ (∀ i, ¬ named i ∨ (s.stream i).staged = none →
          (t.stream i).config = (s.stream i).config ∧ (t.stream i).staged = (s.stream i).staged
          ∧ (t.stream i).commitPending = (s.stream i).commitPending
          ∧ (t.stream i).generation = (s.stream i).generation)
      ∧ (∀ d, scope.device = true → s.stagedParams = some d → quiet →
          t.params = d ∧ t.stagedParams = none ∧ t.trunkCommitPending = false)
      ∧ (∀ d, scope.device = true → s.stagedParams = some d → ¬ quiet →
          t.params = s.params ∧ t.stagedParams = some d ∧ t.trunkCommitPending = true)
      ∧ (scope.device = false ∨ s.stagedParams = none →
          t.params = s.params ∧ t.stagedParams = s.stagedParams ∧ t.trunkCommitPending = s.trunkCommitPending)
      ∧ (let applied : Nat :=
          {i : StreamNo | named i ∧ (s.stream i).staged.isSome = true ∧ (s.stream i).heldLane = none}.ncard
         let pendingStream : Prop :=
          ∃ i, named i ∧ (s.stream i).staged.isSome = true ∧ (s.stream i).heldLane ≠ none
         let pendingDevice : Prop := scope.device = true ∧ s.stagedParams.isSome = true ∧ ¬ quiet
         (¬ pendingStream → ¬ pendingDevice →
            t.record = none ∧ t.barred = s.barred
            ∧ (t.port p).responses =
                (s.port p).responses ++
                  [⟨q.tag, .done,
                    octetTable 56 ([0x0A, octetAt q.payload 2] ++ octets2 applied ++ octets2 0)⟩])
         ∧ (pendingStream ∨ pendingDevice →
            t.barred = some p ∧ (t.port p).responses = (s.port p).responses ∧ (t.port p).reserved = true
            ∧ ∃ c, t.record = some c ∧ c.port = p ∧ c.tag = q.tag ∧ c.streams.Nodup
              ∧ c.applied = applied ∧ c.withdrawn = 0 ∧ c.selector = octetAt q.payload 2
              ∧ c.deadline = s.paceCount + BitVec.ofNat 32 s.params.commitTimeout
              ∧ (∀ i, i ∈ c.streams ↔
                  named i ∧ (s.stream i).staged.isSome = true ∧ (s.stream i).heldLane ≠ none)
              ∧ (c.devicePart = .pending ↔ pendingDevice)))

/-- DISCARD (R117) by scope, answered DONE whether or not any image was there: a staged image goes; a stream that was
commit pending leaves the open record as withdrawn; a waiting device set is withdrawn with a call to a pass; and a
withdrawal may complete the record. Scope "all" does so for every stream, port and the device set, and changes nothing
else but bindings before the completion is judged. -/
def Obligations.DiscardByScope : Prop :=
  ∀ (s : State) (p : PortNo) (q : Request),
    s.resetPin = false → s.uncounted = false → s.nextRequest = some (p, q) → s.turn = false →
    (s.port p).record.level = .full → q.code = 0x09 →
    let t := (takeRequest p q s).dropTurn
    (∀ i : StreamNo, selectorOf q = 0 → targetOf q = i.val →
      exec .discard s =
        .next (respond p q (bare .done) (judgeCompletion
          { t.modStream i (fun r => { r with staged := none, commitPending := false }) with
            record := s.record.map fun c =>
              if (s.stream i).commitPending = true ∧ i ∈ c.streams then
                { c with
                  streams := c.streams.filter (· ≠ i)
                  withdrawn := c.withdrawn + (c.streams.filter (· = i)).length }
              else c })))
    ∧ (selectorOf q = 1 → s.trunkCommitPending = false →
      exec .discard s =
        .next (respond p q (bare .done) (judgeCompletion { t with stagedParams := none })))
    ∧ (selectorOf q = 1 → s.trunkCommitPending = true →
      exec .discard s =
        .next (respond p q (bare .done) (judgeCompletion (callPass
          { t with
            stagedParams := none
            trunkCommitPending := false
            record := s.record.map fun c =>
              { c with devicePart := if c.devicePart = .pending then .withdrawn else c.devicePart } }))))
    ∧ (∀ x : PortNo, selectorOf q = 2 → targetOf q = x.val →
      exec .discard s = .next (respond p q (bare .done) (t.modPort x fun r => { r with staged := none })))
    ∧ (selectorOf q = 3 →
      let gone (i : StreamNo) : Bool := (s.stream i).commitPending
      ∃ v : State, exec .discard s = .next (respond p q (bare .done) (judgeCompletion v))
        ∧ v.sansBinding = State.sansBinding
          { t with
            streams := t.streams.mapAll fun r => { r with staged := none, commitPending := false }
            ports := t.ports.mapAll fun r => { r with staged := none }
            stagedParams := none
            trunkCommitPending := false
            record := s.record.map fun c =>
              { c with
                streams := c.streams.filter fun i => !gone i
                withdrawn := c.withdrawn + (c.streams.filter gone).length
                devicePart :=
                  if s.trunkCommitPending = true ∧ c.devicePart = .pending then .withdrawn else c.devicePart } })

/-- The agent's taking of a request and its placing of a response (R142, R145, R147): with no request in execution it
takes the head request of the first eligible port from the one after the last served, E5 before E0; the request leaves
its queue, a response place is reserved, the port is the last served; and the response joins the port's queue in that
place (or, void, is discarded), which ends the execution. A response's payload (R168) is the command code, the selector
of a command that has one (READ-DEVICE, -PORT, -LANE and -STREAM, DISCARD, COMMIT, CLOSE-STREAM, TIMER-CONTROL and
LANE-CONTROL; 0 for every other code, an unknown one by log 17), and the result. A management command takes the next
request only if it is of its row: the request's code, and the selector where one code has several rows (the model's
choice, log 4); otherwise it changes nothing. A turn says whether other events come between the taking, the claims and
the response: the request then stays in execution, the same command goes on with it, and what it does is what it does in
one step; a READ is read at its taking (log 5). -/
def Obligations.AgentTakesAndAnswers : Prop :=
  let echo (q : Request) : Byte :=
    if q.code ∈ [0x01, 0x02, 0x03, 0x04, 0x09, 0x0A, 0x0C, 0x0E, 0x10] then octetAt q.payload 2 else 0
  ((∀ (s : State) (p : PortNo) (q : Request) (rest : List Request) (k : Nat),
    let eligible (x : PortNo) : Prop :=
      (s.port x).requests ≠ [] ∧ (s.port x).responses.length + (if (s.port x).reserved then 1 else 0) < 8
        ∧ s.barred ≠ some x
    s.inExecution = none → k < 6 → p.val = (s.lastServed.val + 1 + k) % 6 → eligible p →
    (∀ j < k, ∀ x : PortNo, x.val = (s.lastServed.val + 1 + j) % 6 → ¬ eligible x) →
    (s.port p).requests = q :: rest →
    s.nextRequest = some (p, q)
    ∧ takeRequest p q s =
        { s.modPort p (fun r => { r with requests := rest, reserved := true }) with
          lastServed := p
          inExecution := some ⟨p, q, false, none⟩ })
  ∧ (∀ s : State, s.inExecution = none → (∀ x, s.eligible x = false) →
      s.nextRequest = none
      ∧ ∀ c : Instr, c.isManagement = true → s.resetPin = false → s.uncounted = false → exec c s = .next s)
  ∧ ∀ (s : State) (p : PortNo) (q : Request) (a : Reply) (e : Execution), s.inExecution = some e →
      respond p q a s =
        { s.modPort p (fun r =>
            { r with
              responses :=
                if e.void then r.responses
                else r.responses ++
                  [⟨q.tag, a.status, octetTable 56 (q.code :: echo q :: a.result)⟩]
              reserved := false }) with
          inExecution := none })
  ∧ (∀ (c : Instr) (s : State) (p : PortNo) (q : Request),
    c.isManagement = true → s.resetPin = false → s.uncounted = false → s.nextRequest = some (p, q) → c.takes q = false →
    exec c s = .next s)
  ∧ (∀ (c : Instr) (s : State) (e : Execution),
    c.isManagement = true → s.resetPin = false → s.uncounted = false → s.inExecution = some e →
    (c.takes e.request = false → exec c s = .next s)
    ∧ ∀ a, c.takes e.request = true → e.answer = some a → exec c s = .next (respond e.port e.request a s))
  ∧ ∀ (c : Instr) (s : State) (p : PortNo) (q : Request),
    s.resetPin = false → s.uncounted = false → s.nextRequest = some (p, q) → c.takes q = true →
    c ≠ .unknownCommandCode →
    ((s.port p).record.level = .full ∨ ((s.port p).record.level = .read ∧ q.code.toNat ≤ 5)) →
    ¬ q.badTarget → ¬ q.badSelector → (q.code = 0x0A → ∃ scope, commitScopeOf q = .ok scope) → s.turn = true →
    let whole := exec c { s with turns := false :: s.turns.tail }
    let t := (takeRequest p q s).dropTurn
    (5 < q.code.toNat →
      exec c s = .next t
      ∧ ∃ u, exec c t = .next u
        ∧ (u.inExecution = none → whole = .next u) ∧ (u.inExecution ≠ none → whole = exec c u))
    ∧ (q.code.toNat ≤ 5 → ∃ u, exec c s = .next u ∧ whole = exec c u
        ∧ ∃ a, u = { t with inExecution := some ⟨p, q, false, some a⟩ })

/-- The agent's checks of a request (R146), in their order. Privilege and command code: at level NONE every request,
and at level READ every known command but the five READs, is answered NO-PRIVILEGE with MGMT_REFUSED; at READ or FULL
an unknown code is answered BAD-COMMAND. Target and selector (R172), of a request that the level allows: a stream, lane
or port out of range, or a notice target out of range or of an unknown level, is answered BAD-TARGET; with the target
in range, a selector that the command does not define is answered BAD-VALUE. The answer comes at once and nothing else
changes. (Which row takes an undefined selector is the model's choice, log 4. COMMIT's own checks are in
`CommitChecked`.) -/
def Obligations.RequestsChecked : Prop :=
  ∀ (c : Instr) (s : State) (p : PortNo) (q : Request),
    s.resetPin = false → s.uncounted = false → s.nextRequest = some (p, q) → c.takes q = true →
    let t := takeRequest p q s
    let refused := Host.Outcome.next (respond p q (bare .noPrivilege) (raise (.port p .mgmtRefused) t))
    let allowed : Prop :=
      (s.port p).record.level = .full ∨ ((s.port p).record.level = .read ∧ q.code.toNat ≤ 5)
    ((s.port p).record.level = .none → exec c s = refused)
    ∧ ((s.port p).record.level = .read → 0x06 ≤ q.code.toNat → q.code.toNat ≤ 0x11 → exec c s = refused)
    ∧ ((s.port p).record.level ≠ .none → c = .unknownCommandCode →
        exec c s = .next (respond p q (bare .badCommand) t))
    ∧ (allowed → q.badTarget → exec c s = .next (respond p q (bare .badTarget) t))
    ∧ (allowed → ¬ q.badTarget → q.badSelector → exec c s = .next (respond p q (bare .badValue) t))

/-- The READ commands at level READ or FULL (R37, R139, R149): each is answered DONE with the octets of its part, read
as the request is taken, and changes nothing else. (The lengths of READ-PORT are read after the taking: the model's
choice, log 16.) -/
def Obligations.ReadsReturnTheirParts : Prop :=
  ∀ (s : State) (p : PortNo) (q : Request),
    s.resetPin = false → s.uncounted = false → s.nextRequest = some (p, q) → s.turn = false →
    (s.port p).record.level ≠ .none →
    let t := (takeRequest p q s).dropTurn
    let answer (octets : List Byte) : Host.Outcome State Fault Refusal := .next (respond p q ⟨.done, octets⟩ t)
    (q.code = 0x01 →
      (selectorOf q = 0 → exec .readDevice s = answer (deviceStatusOctets s))
      ∧ (selectorOf q = 1 → exec .readDevice s = answer (deviceConfigOctets s))
      ∧ (selectorOf q = 2 → exec .readDevice s = answer (noticeOctets .device s)))
    ∧ (∀ x : PortNo, q.code = 0x02 → targetOf q = x.val →
      (selectorOf q = 0 → exec .readPort s = answer (portConfigOctets (t.port x)))
      ∧ (selectorOf q = 1 → exec .readPort s = answer (portCounterOctets (s.port x)))
      ∧ (selectorOf q = 2 → exec .readPort s = answer (noticeOctets (.port x) s)))
    ∧ (∀ l : LaneNo, q.code = 0x03 → targetOf q = l.val →
      (selectorOf q = 0 → exec .readLane s = answer (laneRecordOctets (s.lane l)))
      ∧ (selectorOf q = 1 → exec .readLane s = answer (noticeOctets (.lane l) s)))
    ∧ (∀ i : StreamNo, q.code = 0x04 → targetOf q = i.val →
      (selectorOf q = 0 → exec .readStream s = answer (streamConfigOctets (s.stream i)))
      ∧ (selectorOf q = 1 → exec .readStream s = answer (streamStateOctets i s))
      ∧ (selectorOf q = 2 → exec .readStream s = answer (streamCounterOctets (s.stream i)))
      ∧ (selectorOf q = 3 → exec .readStream s = answer (noticeOctets (.stream i) s)))
    ∧ (∀ n : NoticeTarget, q.code = 0x05 → noticeTargetOf q = some n →
      exec .readNotices s = answer (noticeOctets n s))

/-- The layout of what the READ commands return (R169, R170, R171, R173), octet by octet from octet 2 of the response,
and of a report's payload (R171) from its octet 0. -/
def Obligations.ReadLayouts : Prop :=
  let at2 (octets : List Byte) (k : Nat) : Byte := octetAt (responsePayload 0 0 octets) k
  let pair (octets : List Byte) (k : Nat) : Nat := (at2 octets k).toNat * 256 + (at2 octets (k + 1)).toNat
  let four (octets : List Byte) (k : Nat) : BitVec 32 :=
    at2 octets k ++ at2 octets (k + 1) ++ at2 octets (k + 2) ++ at2 octets (k + 3)
  let yes (b : Bool) : Byte := if b then 1 else 0
  let level (x : Level) : Byte := match x with | .none => 0 | .read => 1 | .full => 2
  let streamBlock (o : List Byte) (k : Nat) (m : StreamImage) (generation : Nat) : Prop :=
    (at2 o k).toNat = m.sourcePort.val ∧ (at2 o (k + 1)).toNat = m.group.val ∧ (at2 o (k + 2)).toNat = m.queueLimit
    ∧ (at2 o (k + 3)).toNat = m.creditCap ∧ (at2 o (k + 4)).toNat = m.initialCredit
    ∧ (at2 o (k + 5)).getLsbD 0 = m.leadPoint.isSome ∧ (at2 o (k + 5)).getLsbD 1 = m.sequenceCheck
    ∧ (at2 o (k + 5)).getLsbD 2 = m.runAtOpen ∧ pair o (k + 6) = m.reload ∧ pair o (k + 8) = m.leadPoint.getD 0
    ∧ pair o (k + 10) = m.holdTime ∧ at2 o (k + 12) = m.reportMask.setWidth 8 ∧ pair o (k + 13) = generation
    ∧ at2 o (k + 15) = 0
  let streamFits (m : StreamImage) : Prop :=
    m.queueLimit ≤ 255 ∧ m.creditCap ≤ 15 ∧ m.initialCredit ≤ 15 ∧ m.reload ≤ 65535 ∧ m.holdTime ≤ 65535
      ∧ ∀ n, m.leadPoint = some n → n ≤ 65535
  let deviceBlock (o : List Byte) (k : Nat) (d : DeviceParams) : Prop :=
    pair o k = d.paceMultiplier ∧ (at2 o (k + 2)).toNat = d.budgetCount ∧ pair o (k + 3) = d.budgetWindow
    ∧ pair o (k + 5) = d.bindSpacing ∧ pair o (k + 7) = d.answerTimeout ∧ (at2 o (k + 9)).toNat = d.refusalLimit
    ∧ (at2 o (k + 10)).toNat = d.settleInterval ∧ pair o (k + 11) = d.commitTimeout
    ∧ (at2 o (k + 13)).toNat = (match d.reportPort with | some p => p.val | none => 255)
    ∧ (∀ l : LaneNo, (at2 o (k + 14 + l.val / 4)).toNat / 4 ^ (l.val % 4) % 4 = (d.groupMap.read l).val)
    ∧ at2 o (k + 18) = d.laneMask.setWidth 8 ∧ at2 o (k + 19) = d.portMask.setWidth 8
    ∧ at2 o (k + 20) = d.deviceMask.setWidth 8
  let deviceFits (d : DeviceParams) : Prop :=
    d.paceMultiplier ≤ 65535 ∧ d.budgetCount ≤ 255 ∧ d.budgetWindow ≤ 65535 ∧ d.bindSpacing ≤ 65535
      ∧ d.answerTimeout ≤ 65535 ∧ d.refusalLimit ≤ 255 ∧ d.settleInterval ≤ 255 ∧ d.commitTimeout ≤ 65535
  let causeCode (pt : CausePoint) : Nat :=
    match pt with
    | .stream _ .seqGap => 0x10 | .stream _ .duplicateDrop => 0x11 | .stream _ .queueDrop => 0x12
    | .stream _ .creditSaturated => 0x13 | .stream _ .held => 0x14 | .stream _ .laneLost => 0x15
    | .lane _ .answerTimeout => 0x20 | .lane _ .staleAnswer => 0x21 | .lane _ .strayControl => 0x22
    | .lane _ .recoveryFailed => 0x23
    | .port _ .badCheck => 0x30 | .port _ .badKind => 0x31 | .port _ .misrouted => 0x32
    | .port _ .linkDown => 0x33 | .port _ .mgmtRefused => 0x34 | .port _ .mgmtOverrun => 0x35
    | .device .poolEmpty => 0x40 | .device .trunkDown => 0x41 | .device .commitLate => 0x42
    | .device .reportLost => 0x43
  (∀ s : State, s.freeBuffers ≤ 2048 →
    let o := deviceStatusOctets s
    at2 o 2 = 0x53 ∧ pair o 3 = 0x0616 ∧ at2 o 5 = 1 ∧ pair o 6 = s.freeBuffers
    ∧ at2 o 8 = yes s.trunkUp ∧ at2 o 9 = yes s.trunkCommitPending ∧ four o 10 = s.paceCount)
  ∧ (∀ s : State, deviceFits s.params →
    let o := deviceConfigOctets s
    deviceBlock o 2 s.params ∧ at2 o 23 = yes s.stagedParams.isSome
    ∧ (∀ d, s.stagedParams = some d → deviceFits d → deviceBlock o 24 d)
    ∧ (s.stagedParams = none → ∀ k, 24 ≤ k → at2 o k = 0))
  ∧ (∀ r : PortRec, r.requests.length ≤ 255 → r.responses.length + (if r.reserved then 1 else 0) ≤ 255 →
    let o := portConfigOctets r
    at2 o 2 = yes r.record.acceptance ∧ at2 o 3 = level r.record.level ∧ at2 o 4 = yes r.staged.isSome
    ∧ (∀ x, r.staged = some x → at2 o 5 = yes x.acceptance ∧ at2 o 6 = level x.level)
    ∧ (r.staged = none → at2 o 5 = 0 ∧ at2 o 6 = 0) ∧ at2 o 7 = yes r.aligned
    ∧ (at2 o 8).toNat = r.requests.length
    ∧ (at2 o 9).toNat = r.responses.length + (if r.reserved then 1 else 0))
  ∧ (∀ r : PortRec,
    let o := portCounterOctets r
    four o 2 = r.received ∧ four o 6 = r.checkFailures ∧ four o 10 = r.badKinds ∧ four o 14 = r.misrouted
    ∧ at2 o 18 = yes r.lastMisrouted.isSome
    ∧ pair o 19 = (match r.lastMisrouted with | some i => i.val | none => 0))
  ∧ (∀ r : LaneRec,
    let o := laneRecordOctets r
    at2 o 2 = (match r.state with
      | .down => 0 | .recovering => 1 | .free => 2 | .binding => 3 | .bound => 4 | .unbinding => 5
      | .quarantined => 6 | .disabled => 7)
    ∧ at2 o 3 = yes r.holder.isSome ∧ pair o 4 = (match r.holder with | some i => i.val | none => 0)
    ∧ at2 o 6 = r.tag
    ∧ at2 o 7 = (match r.outstanding with
      | none => 0 | some .bind => 1 | some .release => 2 | some .laneReset => 3)
    ∧ at2 o 8 = yes r.answerDeadline.isSome ∧ four o 9 = r.answerDeadline.getD 0
    ∧ at2 o 13 = yes r.holdDeadline.isSome ∧ four o 14 = r.holdDeadline.getD 0
    ∧ at2 o 18 = yes r.paused ∧ at2 o 19 = yes r.disablePending
    ∧ (at2 o 20).toNat = r.group.val ∧ four o 21 = r.bindsAccepted ∧ four o 25 = r.bindsRefused
    ∧ four o 29 = r.answerTimeouts ∧ four o 33 = r.staleAnswers ∧ o.length = 35)
  ∧ (∀ r : StreamRec, streamFits r.config → r.generation ≤ 65535 →
    let o := streamConfigOctets r
    streamBlock o 2 r.config r.generation ∧ at2 o 18 = yes r.staged.isSome
    ∧ (∀ m, r.staged = some m → streamFits m →
      streamBlock o 19 m (if r.generation = 65535 then 1 else r.generation + 1))
    ∧ (r.staged = none → ∀ k, 19 ≤ k → at2 o k = 0))
  ∧ (∀ (s : State) (i : StreamNo),
    let r := s.stream i
    let o := streamStateOctets i s
    r.count ≤ 65535 → r.credit ≤ 15 → r.queue.length ≤ 255 → r.refusals ≤ 7 →
    at2 o 2 = (match r.life with | .closed => 0 | .opened => 1 | .held => 2 | .draining _ => 3)
    ∧ at2 o 3 = (match r.life with | .draining .plain => 1 | .draining .discard => 2 | _ => 0)
    ∧ pair o 4 = r.count ∧ (at2 o 6).toNat = r.credit
    ∧ at2 o 7 = (match r.timer with | .running => 0 | .stopPending => 1 | .stopped => 2)
    ∧ (at2 o 8).toNat = r.queue.length ∧ at2 o 9 = yes r.expected.isSome
    ∧ at2 o 10 = r.expected.getD 0 ∧ at2 o 11 = yes r.heldLane.isSome
    ∧ (at2 o 12).toNat = (match r.heldLane with | some l => l.val | none => 0)
    ∧ (∀ e, s.requests.find? (fun e => e.stream = i) = some e →
        at2 o 13 = 1 ∧ four o 14 = e.time
        ∧ at2 o 18 = (match e.reason with | .demand => 0 | .lead => 1))
    ∧ (s.hasEntry i = false → at2 o 13 = 0 ∧ four o 14 = 0 ∧ at2 o 18 = 0)
    ∧ (at2 o 19).toNat = r.refusals ∧ at2 o 20 = yes r.commitPending
    ∧ at2 o 21 = yes r.settle.isSome ∧ four o 22 = r.settle.getD 0)
  ∧ (∀ r : StreamRec,
    let o := streamCounterOctets r
    four o 2 = r.admitted ∧ four o 6 = r.launched ∧ four o 10 = r.queueDrops ∧ four o 14 = r.duplicateDrops
    ∧ four o 18 = r.sequenceGaps)
  ∧ (∀ (s : State) (n : NoticeTarget),
    let o := noticeOctets n s
    let present := n.points.filter fun pt => (s.entry pt).isSome
    (at2 o 2).toNat = present.length
    ∧ ∀ (k : Nat) (pt : CausePoint) (e : NoticeEntry),
      present[k]? = some pt → s.entry pt = some e → e.occurrences ≤ 255 →
      (at2 o (3 + 6 * k)).toNat = causeCode pt ∧ (at2 o (4 + 6 * k)).toNat = e.occurrences
      ∧ four o (5 + 6 * k) = e.first)
  ∧ ∀ r : Report, r.occurrences ≤ 255 →
    (octetAt r.payload 0).toNat =
        (match r.point with | .device _ => 0 | .port _ _ => 1 | .lane _ _ => 2 | .stream _ _ => 3)
    ∧ word16At r.payload 1 =
        (match r.point with | .device _ => 0 | .port p _ => p.val | .lane l _ => l.val | .stream i _ => i.val)
    ∧ (octetAt r.payload 3).toNat = causeCode r.point ∧ (octetAt r.payload 4).toNat = r.occurrences
    ∧ octetAt r.payload 5 ++ octetAt r.payload 6 ++ octetAt r.payload 7 ++ octetAt r.payload 8 = r.first

/-- RESTART at level FULL (R19, R36, R55, R83, R112, R129, R141, R155): lanes taken down and recovered if the trunk is
UP, list, record, queues, notices and reports emptied, DRAINING streams closed, every count at its reload interval and
every credit 0, commit-pending images and a waiting device set applied; an open record closed, its DONE response with
its counts placed on the barred port unless it is void (R148), and the bar lifted; then RESTART's own answer, DONE. Life
states otherwise, counters, tables, links, request and response queues, the last port served and the pace count are
kept. RESTART can come among the claims of launches in flight (R89; `chargeLaunches` is what `LaneSlotLaunches` says):
whether or not a launch has had its credit, it fails, and FILL leaves in its slot; no traffic cell follows (R96). (Log
23. A port is barred exactly while a record is open, and what is commit pending has an image: R120, R148, the
invariant `CommitInv`.) -/
def Obligations.RestartClears : Prop :=
  (∀ (s : State) (p : PortNo) (q : Request),
    s.resetPin = false → s.uncounted = false → s.nextRequest = some (p, q) → s.turn = false →
    (s.port p).record.level = .full → q.code = 0x11 →
    let taken := (takeRequest p q s).dropTurn
    let flights := taken.launches fun _ => true
    exec .restart s =
      .next (respond p q (bare .done)
        (flights.foldl
          (fun u f => u.modLane f.1 fun r =>
            { r with
              launching := none
              sent := some (formCell ⟨0x0, 0, f.1.val, 0, 0, 0, 0⟩ (octetTable 56 [])) })
          (deviceRestart (chargeLaunches flights taken).2)))
    ∧ (CommitInv s → CommitInv (chargeLaunches flights taken).2))
  ∧ ∀ s : State, CommitInv s →
    let u := deviceRestart s
    u.requests = [] ∧ u.budget = [] ∧ u.spacing = none ∧ u.freeBuffers = 2048 ∧ u.reports = []
    ∧ u.record = none ∧ u.trunkCommitPending = false ∧ u.paceCount = s.paceCount ∧ u.trunkUp = s.trunkUp
    ∧ u.barred = none ∧ u.owedVoid = false ∧ u.commitAnswer = none ∧ u.lastServed = s.lastServed
    ∧ (∀ g, u.waiting.read g = false ∧ u.freeLanes.read g = []) ∧ (∀ pt, u.entry pt = none)
    ∧ (∀ l,
        let r := s.lane l
        let out : Bool := r.state == .disabled || r.disablePending
        (u.lane l).state = (if out then .disabled else if s.trunkUp then .recovering else .down)
        ∧ (u.lane l).holder = none ∧ (u.lane l).launching = none
        ∧ (u.lane l).disablePending = false ∧ (u.lane l).paused = false ∧ (u.lane l).holdDeadline = none ∧ (u.lane l).answerDeadline = none
        ∧ (u.lane l).tag = (if !out && s.trunkUp then r.tag + 1 else r.tag)
        ∧ (u.lane l).group = r.group ∧ (u.lane l).aligned = r.aligned
        ∧ (u.lane l).bindsAccepted = r.bindsAccepted ∧ (u.lane l).bindsRefused = r.bindsRefused
        ∧ (u.lane l).answerTimeouts = r.answerTimeouts ∧ (u.lane l).staleAnswers = r.staleAnswers)
    ∧ (∀ i,
        let r := s.stream i
        let r' := u.stream i
        r'.queue = [] ∧ r'.heldLane = none ∧ r'.credit = 0 ∧ r'.keptTime = none ∧ r'.commitPending = false
        ∧ r'.life = (match r.life with | .draining _ => .closed | l => l)
        ∧ r'.timer = (match r.life, r.timer with
            | .draining _, _ => .stopped | _, .running => .running | _, .stopPending => .stopped
            | _, .stopped => .stopped)
        ∧ r'.refusals = r.refusals ∧ r'.admitted = r.admitted ∧ r'.launched = r.launched
        ∧ r'.queueDrops = r.queueDrops ∧ r'.duplicateDrops = r.duplicateDrops
        ∧ r'.sequenceGaps = r.sequenceGaps ∧ r'.count = r'.config.reload
        ∧ (r.commitPending = false → r'.config = r.config ∧ r'.generation = r.generation
            ∧ r'.staged = r.staged ∧ r'.settle = r.settle ∧ r'.expected = r.expected)
        ∧ ∀ m, r.commitPending = true → r.staged = some m →
            r'.config = m ∧ r'.staged = none
            ∧ r'.generation = (if r.generation = 65535 then 1 else r.generation + 1)
            ∧ r'.settle =
                (if s.params.settleInterval = 0 then none
                 else some (s.paceCount + BitVec.ofNat 32 s.params.settleInterval))
            ∧ r'.expected = if m.sourcePort = r.config.sourcePort then r.expected else none)
    ∧ (∀ d, s.trunkCommitPending = true → s.stagedParams = some d → u.params = d ∧ u.stagedParams = none)
    ∧ (s.trunkCommitPending = false → u.params = s.params ∧ u.stagedParams = s.stagedParams)
    ∧ ∀ x, (u.port x).record = (s.port x).record ∧ (u.port x).staged = (s.port x).staged
        ∧ (u.port x).aligned = (s.port x).aligned ∧ (u.port x).arriving = (s.port x).arriving
        ∧ (u.port x).requests = (s.port x).requests
        ∧ (∀ c, s.record = some c → c.port = x →
            (u.port x).reserved = false
            ∧ (u.port x).responses =
                if s.owedVoid then (s.port x).responses
                else (s.port x).responses ++
                  [⟨c.tag, .done,
                    octetTable 56 ([0x0A, c.selector]
                      ++ octets2 (c.applied + c.streams.length) ++ octets2 c.withdrawn)⟩])
        ∧ ((∀ c, s.record = some c → c.port ≠ x) →
            (u.port x).reserved = (s.port x).reserved ∧ (u.port x).responses = (s.port x).responses)

/-! ### Cells and images -/

/-- A cell as sent carries its header, its payload and a passing header check, and the header of six zero octets has
the check 0x0E10 (R165, R166). Which command an inbound cell is (R161, R163, R167, R168): the header check first, then
the kind, then for a BIND-ACK the code; and what it says is well formed. And the model's own deduction from R160 and
R162 of what the octets of a HUNTING receiver's receive pair are (log 14): every octet position is tried as a cell
start; at the first at which six cells in a row pass come those six, the gain of alignment, and the cells at that
boundary after them: all of them, where no seven in a row fail; else those up to the first seventh failure in a row, and
from the octet after it what the octets of a HUNTING receiver are. -/
def Obligations.CellsFormedAndSorted : Prop :=
  ((∀ (h : Header) (p : Payload), h.lane < 16 →
    (formCell h p).header = h ∧ (formCell h p).payload = p ∧ (formCell h p).passes = true)
  ∧ headerCheck [0, 0, 0, 0, 0, 0] = 0x0E10)
  ∧ ((∀ (p : PortNo) (l : LaneNo) (c : Cell), c.passes = false →
    commandOfEdgeCell p c = .edgeBadCheckCell p ∧ commandOfTrunkCell l c = .trunkBadCheckCell l)
  ∧ (∀ (p : PortNo) (c : Cell), c.passes = true →
    (c.header.kind = 0x1 →
      commandOfEdgeCell p c =
        .trafficCellArrival p ⟨c.header.stream, c.header.sequence, c.header.flags, c.payload⟩)
    ∧ (c.header.kind = 0x2 →
      commandOfEdgeCell p c = .requestCellArrival p ⟨c.header.code, c.header.tag, c.payload⟩)
    ∧ (c.header.kind = 0x0 → commandOfEdgeCell p c = .edgeFillCell p)
    ∧ (2 < c.header.kind.toNat → commandOfEdgeCell p c = .edgeBadKindCell p c.header.kind))
  ∧ (∀ (l : LaneNo) (c : Cell), c.passes = true →
    (c.header.kind = 0x0 → commandOfTrunkCell l c = .trunkFillCell l)
    ∧ (c.header.kind = 0x6 → commandOfTrunkCell l c = .pause l c.header.tag)
    ∧ (c.header.kind = 0x7 → commandOfTrunkCell l c = .resume l c.header.tag)
    ∧ (c.header.kind = 0xC →
        (c.header.code = 0x01 → commandOfTrunkCell l c = .bindAckAccept l c.header.tag)
        ∧ (c.header.code = 0x02 → commandOfTrunkCell l c = .bindAckRefuse l c.header.tag)
        ∧ (c.header.code ≠ 0x01 → c.header.code ≠ 0x02 →
            commandOfTrunkCell l c = .bindAckUnknownCode l c.header.tag c.header.code))
    ∧ (c.header.kind = 0xD → commandOfTrunkCell l c = .releaseAck l c.header.tag)
    ∧ (c.header.kind = 0xE → commandOfTrunkCell l c = .resetAck l c.header.tag)
    ∧ (c.header.kind ∉ [0x0, 0x6, 0x7, 0xC, 0xD, 0xE] →
        commandOfTrunkCell l c = .trunkOtherKindCell l c.header.kind))
  ∧ ∀ (p : PortNo) (l : LaneNo) (c : Cell),
    (commandOfEdgeCell p c).wellFormed = true ∧ (commandOfTrunkCell l c).wellFormed = true)
  ∧ ∀ octets : List Byte,
    let boundary (k : Nat) : Prop :=
      k + 384 ≤ octets.length ∧ ∀ n < 6,
        headerCheck ((octets.drop (k + 64 * n)).take 6) =
          octets.getD (k + 64 * n + 6) 0 ++ octets.getD (k + 64 * n + 7) 0
    let cells (o : List Byte) : List Cell :=
      (List.range (o.length / 64)).map fun n => octetTable 64 ((o.drop (64 * n)).take 64)
    let seventhFails (o : List Byte) (m : Nat) : Prop :=
      6 ≤ m ∧ m < (cells o).length ∧ ∀ j ≤ 6, ((cells o)[m - j]?).map Cell.passes = some false
    ((∀ k, ¬ boundary k) → ∀ p l, commandsOfEdgeOctets p octets = [] ∧ commandsOfTrunkOctets l octets = [])
    ∧ ∀ k, boundary k → (∀ j < k, ¬ boundary j) → ∀ (p : PortNo) (l : LaneNo),
      let six := cells ((octets.drop k).take 384)
      let rest := octets.drop (k + 384)
      ((∀ m, ¬ seventhFails rest m) →
        commandsOfEdgeOctets p octets =
            six.map (commandOfEdgeCell p) ++ .edgeLinkUp p :: (cells rest).map (commandOfEdgeCell p)
        ∧ commandsOfTrunkOctets l octets =
            six.map (commandOfTrunkCell l) ++ .laneAligned l :: (cells rest).map (commandOfTrunkCell l))
      ∧ ∀ m, seventhFails rest m → (∀ j < m, ¬ seventhFails rest j) →
        commandsOfEdgeOctets p octets =
            six.map (commandOfEdgeCell p) ++ .edgeLinkUp p :: ((cells rest).take (m + 1)).map (commandOfEdgeCell p)
              ++ commandsOfEdgeOctets p (rest.drop (64 * (m + 1)))
        ∧ commandsOfTrunkOctets l octets =
            six.map (commandOfTrunkCell l) ++ .laneAligned l :: ((cells rest).take (m + 1)).map (commandOfTrunkCell l)
              ++ commandsOfTrunkOctets l (rest.drop (64 * (m + 1)))

/-- Stream and device images survive being sent and read back (R169, R170): the octets of a stream image or of a device
parameter set within its ranges, at octets 3 on of a request, are read as that image. -/
def Obligations.ImageRoundTrip : Prop :=
  (∀ (m : StreamImage) (generation : Nat) (lead : List Byte), lead.length = 3 →
    1 ≤ m.queueLimit → m.queueLimit ≤ 255 → 1 ≤ m.reload → m.reload ≤ 65535 →
    (∀ n, m.leadPoint = some n → n ≤ m.reload) → 1 ≤ m.creditCap → m.creditCap ≤ 15 →
    m.initialCredit ≤ m.creditCap → m.holdTime ≤ 4095 →
    streamImageAt (octetTable 56 (lead ++ m.octets generation)) 3 = some m)
  ∧ ∀ (d : DeviceParams) (lead : List Byte), lead.length = 3 →
    1 ≤ d.paceMultiplier → d.paceMultiplier ≤ 1000 → 1 ≤ d.budgetCount → d.budgetCount ≤ 8 →
    1 ≤ d.budgetWindow → d.budgetWindow ≤ 65535 → d.bindSpacing ≤ 4095 → d.bindSpacing ≤ d.budgetWindow →
    1 ≤ d.answerTimeout → d.answerTimeout ≤ 4095 → 1 ≤ d.refusalLimit → d.refusalLimit ≤ 7 →
    d.settleInterval ≤ 255 → 1 ≤ d.commitTimeout → d.commitTimeout ≤ 65535 →
    deviceImageAt (octetTable 56 (lead ++ d.octets)) 3 = some d

/-! ### Invariants -/

/-- Every invariant holds at power-on reset. -/
def Obligations.InvariantsAtReset : Prop :=
  PoolInv State.reset ∧ PacingInv State.reset ∧ LifeInv State.reset ∧ QueueInv State.reset ∧ CommitInv State.reset
    ∧ ReportInv State.reset ∧ BudgetInv State.reset ∧ ListInv State.reset ∧ LaneInv State.reset
    ∧ TrunkInv State.reset

/-- Every step keeps the number of free buffers plus the sum of all queue lengths at 2048 (R104). -/
def Obligations.StepKeepsPool : Prop := ∀ s t : State, step s = .next t → PoolInv s → PoolInv t

/-- Every step keeps each stream's credit within its cap and its count within its reload interval (R23), and what R5
says of CLOSED, HELD and discarding streams. -/
def Obligations.StepKeepsStreams : Prop :=
  (∀ s t : State, step s = .next t → PacingInv s → PacingInv t)
  ∧ (∀ s t : State, step s = .next t → LifeInv s → LifeInv t)

/-- Every step keeps the request and response queues within their capacities and a barred port's place reserved (R142,
R148), likewise the place of the request in execution (R145); a port barred exactly while a commit record is open on it
(R148; that its response is taken at once is the model's, log 1), and a staged image for whatever is commit pending, as
every stream in the record's pending set is (R118, R120); and the report queue at 31 ordinary reports and one of
REPORT_LOST at most (R133, R134). -/
def Obligations.StepKeepsQueueBounds : Prop :=
  (∀ s t : State, step s = .next t → QueueInv s → QueueInv t)
  ∧ (∀ s t : State, step s = .next t → CommitInv s → CommitInv t)
  ∧ (∀ s t : State, step s = .next t → ReportInv s → ReportInv t)

/-- Every step keeps the setup budget record at 8 entries at most (R45), one entry per stream in the bind request list,
and the group indications true to it (R38, R40). -/
def Obligations.StepKeepsArbiterLists : Prop :=
  (∀ s t : State, step s = .next t → BudgetInv s → BudgetInv t)
  ∧ (∀ s t : State, step s = .next t → ListInv s → ListInv t)

/-- Every step keeps lanes, streams, free-lane lists and the trunk link in agreement (R57, R58, R60, R80). -/
def Obligations.StepKeepsLanes : Prop :=
  ∀ s t : State, step s = .next t → LaneInv s ∧ TrunkInv s → LaneInv t ∧ TrunkInv t
end

