-- ==== Sys2Proof/Laws/Tables.lean ====
section
/-! SUPPORT. Laws of tables: what a read gives after a write, a change of every member, a constant; the indices a test
picks. -/

namespace Sys2Proof

variable {n : Nat} {α β γ : Type}

@[ext] theorem Table.ext_read {t u : Table n α} (h : ∀ i, t.read i = u.read i) : t = u := by
  apply Vector.ext
  intro i hi
  exact h ⟨i, hi⟩

@[simp] theorem Table.read_write_same (t : Table n α) (i : Fin n) (x : α) : (t.write i x).read i = x := by
  simp [Table.read, Table.write]

theorem Table.read_write (t : Table n α) (i j : Fin n) (x : α) :
    (t.write i x).read j = if i = j then x else t.read j := by
  simp only [Table.read, Table.write, Vector.getElem_set, Fin.ext_iff]

@[simp] theorem Table.read_write_ne (t : Table n α) {i j : Fin n} (h : i ≠ j) (x : α) :
    (t.write i x).read j = t.read j := by rw [Table.read_write, if_neg h]

@[simp] theorem Table.write_read (t : Table n α) (i : Fin n) : t.write i (t.read i) = t := by
  ext j; rw [Table.read_write]; split <;> simp_all

@[simp] theorem Table.write_write (t : Table n α) (i : Fin n) (x y : α) :
    (t.write i x).write i y = t.write i y := by
  ext j; simp only [Table.read_write]; split <;> rfl

@[simp] theorem Table.read_mapAll (f : α → β) (t : Table n α) (i : Fin n) :
    (t.mapAll f).read i = f (t.read i) := by
  simp [Table.read, Table.mapAll, ← Vector.getElem_toList]

@[simp] theorem Table.read_const (x : α) (i : Fin n) : (Table.const n x).read i = x := by
  simp [Table.read, Table.const]

@[simp] theorem Table.mapAll_mapAll (f : α → β) (g : β → γ) (t : Table n α) :
    (t.mapAll f).mapAll g = t.mapAll fun x => g (f x) := by ext i; simp

@[simp] theorem Table.mapAll_id (t : Table n α) : t.mapAll (fun x => x) = t := by ext i; simp

theorem Table.mapAll_write (f : α → β) (t : Table n α) (i : Fin n) (x : α) :
    (t.write i x).mapAll f = (t.mapAll f).write i (f x) := by
  ext j; simp only [Table.read_mapAll, Table.read_write]; split <;> rfl

/-- A write that a view does not see leaves the view of the whole table. -/
theorem Table.mapAll_write_of_eq {f : α → β} {t : Table n α} {i : Fin n} {x : α} (h : f x = f (t.read i)) :
    (t.write i x).mapAll f = t.mapAll f := by
  rw [Table.mapAll_write, h, ← Table.read_mapAll f t i, Table.write_read]

/-- A change of every member that a view does not see leaves the view of the whole table. -/
theorem Table.mapAll_mapAll_of_eq {f : α → β} {g : α → α} {t : Table n α} (h : ∀ x, f (g x) = f x) :
    (t.mapAll g).mapAll f = t.mapAll f := by ext i; simp [h]

/-- Members of tables whose views agree have the same view. -/
theorem Table.read_eq_of_mapAll_eq {f : α → β} {t u : Table n α} (h : t.mapAll f = u.mapAll f) (i : Fin n) :
    f (t.read i) = f (u.read i) := by
  rw [← Table.read_mapAll f t i, ← Table.read_mapAll f u i, h]

theorem Table.toList_length (t : Table n α) : t.toList.length = n := by simp

theorem Table.toList_getElem (t : Table n α) (i : Fin n) :
    t.toList[i.val]'(by simp) = t.read i := by simp [Table.read]

theorem Table.mem_toList {t : Table n α} {x : α} : x ∈ t.toList ↔ ∃ i, t.read i = x := by
  rw [List.mem_iff_getElem]
  constructor
  · rintro ⟨i, hi, rfl⟩
    have hn : i < n := by simpa using hi
    exact ⟨⟨i, hn⟩, (t.toList_getElem ⟨i, hn⟩).symm⟩
  · rintro ⟨i, rfl⟩
    exact ⟨i.val, by simp, t.toList_getElem i⟩

/-- All members pass a test exactly when every read does. -/
theorem Table.all_toList (t : Table n α) (p : α → Bool) : t.toList.all p = true ↔ ∀ i, p (t.read i) = true := by
  simp only [List.all_eq_true, Table.mem_toList]
  constructor
  · intro h i; exact h _ ⟨i, rfl⟩
  · rintro h x ⟨i, rfl⟩; exact h i

theorem Table.any_toList (t : Table n α) (p : α → Bool) : t.toList.any p = true ↔ ∃ i, p (t.read i) = true := by
  simp only [List.any_eq_true, Table.mem_toList]
  constructor
  · rintro ⟨x, ⟨i, rfl⟩, h⟩; exact ⟨i, h⟩
  · rintro ⟨i, h⟩; exact ⟨_, ⟨i, rfl⟩, h⟩

theorem mem_indicesFrom {p : α → Bool} (l : List α) (k : Nat) (i : Fin n) :
    i ∈ indicesFrom n p l k ↔ ∃ j, ∃ h : j < l.length, i.val = k + j ∧ p l[j] = true := by
  induction l generalizing k with
  | nil => simp [indicesFrom]
  | cons x xs ih =>
    have tail : i ∈ indicesFrom n p xs (k + 1) ↔
        ∃ j, ∃ h : j < xs.length, i.val = k + (j + 1) ∧ p xs[j] = true := by
      rw [ih]; simp only [Nat.add_assoc, Nat.add_comm 1]
    have split : (∃ j, ∃ h : j < (x :: xs).length, i.val = k + j ∧ p (x :: xs)[j] = true) ↔
        (i.val = k ∧ p x = true) ∨ ∃ j, ∃ h : j < xs.length, i.val = k + (j + 1) ∧ p xs[j] = true := by
      constructor
      · rintro ⟨j, hj, hi, hp⟩
        cases j with
        | zero => exact .inl ⟨by simpa using hi, by simpa using hp⟩
        | succ j => exact .inr ⟨j, by simpa using hj, hi, by simpa using hp⟩
      · rintro (⟨hi, hp⟩ | ⟨j, hj, hi, hp⟩)
        · exact ⟨0, by simp, by simpa using hi, by simpa using hp⟩
        · exact ⟨j + 1, by simpa using hj, hi, by simpa using hp⟩
    rw [split, ← tail, indicesFrom]
    by_cases hk : k < n
    · have head : i = ⟨k, hk⟩ ↔ i.val = k := Fin.ext_iff
      by_cases hx : p x = true
      · simp [hk, hx, head]
      · simp [hk, hx]
    · have : ¬ i.val = k := by have := i.isLt; omega
      rw [dif_neg hk, tail]
      simp only [List.not_mem_nil, this, false_and, false_or, false_iff]
      rintro ⟨j, -, hi, -⟩
      have := i.isLt; omega

/-- An index is picked exactly when its member passes the test. -/
@[simp] theorem Table.mem_indicesWhere (t : Table n α) (p : α → Bool) (i : Fin n) :
    i ∈ t.indicesWhere p ↔ p (t.read i) = true := by
  rw [Table.indicesWhere, mem_indicesFrom]
  constructor
  · rintro ⟨j, hj, hi, hp⟩
    have : j = i.val := by omega
    subst this
    rwa [t.toList_getElem i] at hp
  · intro hp
    exact ⟨i.val, by simp, by omega, by rwa [t.toList_getElem i]⟩

theorem indicesFrom_nodup {p : α → Bool} (l : List α) (k : Nat) : (indicesFrom n p l k).Nodup := by
  induction l generalizing k with
  | nil => simp [indicesFrom]
  | cons x xs ih =>
    rw [indicesFrom]
    split
    · split
      · refine List.nodup_cons.2 ⟨?_, ih _⟩
        rw [mem_indicesFrom]
        rintro ⟨j, -, h, -⟩
        simp at h
        omega
      · exact ih _
    · simp

/-- The picked indices are picked once each. -/
theorem Table.indicesWhere_nodup (t : Table n α) (p : α → Bool) : (t.indicesWhere p).Nodup := indicesFrom_nodup _ _

theorem Table.indicesWhere_eq_nil {t : Table n α} {p : α → Bool} (h : ∀ i, p (t.read i) = false) :
    t.indicesWhere p = [] := by
  rw [List.eq_nil_iff_forall_not_mem]
  intro i
  simp [h i]

/-- A write seen through the list of members. -/
theorem Table.toList_write (t : Table n α) (i : Fin n) (x : α) : (t.write i x).toList = t.toList.set i.val x := by
  simp [Table.write, Vector.toList, Vector.set]

@[simp] theorem Table.toList_mapAll (f : α → β) (t : Table n α) : (t.mapAll f).toList = t.toList.map f := rfl

@[simp] theorem Table.toList_const (x : α) : (Table.const n x).toList = List.replicate n x := rfl

end Sys2Proof
end

