-- ==== Sys2Proof/Laws/State.lean ====
section
/-! SUPPORT. What each update of a state does to each of its fields, and to the records a read gives. -/

namespace Sys2Proof.Machine

variable (s : State)

section setStream
variable (i : StreamNo) (r : StreamRec)

@[simp] theorem setStream_pending : (s.setStream i r).pending = s.pending := rfl
@[simp] theorem setStream_turns : (s.setStream i r).turns = s.turns := rfl
@[simp] theorem setStream_resetPin : (s.setStream i r).resetPin = s.resetPin := rfl
@[simp] theorem setStream_paceCount : (s.setStream i r).paceCount = s.paceCount := rfl
@[simp] theorem setStream_uncounted : (s.setStream i r).uncounted = s.uncounted := rfl
@[simp] theorem setStream_unitLength : (s.setStream i r).unitLength = s.unitLength := rfl
@[simp] theorem setStream_params : (s.setStream i r).params = s.params := rfl
@[simp] theorem setStream_stagedParams : (s.setStream i r).stagedParams = s.stagedParams := rfl
@[simp] theorem setStream_trunkUp : (s.setStream i r).trunkUp = s.trunkUp := rfl
@[simp] theorem setStream_trunkCommitPending : (s.setStream i r).trunkCommitPending = s.trunkCommitPending := rfl
@[simp] theorem setStream_streams : (s.setStream i r).streams = s.streams.write i r := rfl
@[simp] theorem setStream_lanes : (s.setStream i r).lanes = s.lanes := rfl
@[simp] theorem setStream_ports : (s.setStream i r).ports = s.ports := rfl
@[simp] theorem setStream_freeBuffers : (s.setStream i r).freeBuffers = s.freeBuffers := rfl
@[simp] theorem setStream_requests : (s.setStream i r).requests = s.requests := rfl
@[simp] theorem setStream_waiting : (s.setStream i r).waiting = s.waiting := rfl
@[simp] theorem setStream_freeLanes : (s.setStream i r).freeLanes = s.freeLanes := rfl
@[simp] theorem setStream_budget : (s.setStream i r).budget = s.budget := rfl
@[simp] theorem setStream_spacing : (s.setStream i r).spacing = s.spacing := rfl
@[simp] theorem setStream_record : (s.setStream i r).record = s.record := rfl
@[simp] theorem setStream_notices : (s.setStream i r).notices = s.notices := rfl
@[simp] theorem setStream_reports : (s.setStream i r).reports = s.reports := rfl
@[simp] theorem setStream_lastServed : (s.setStream i r).lastServed = s.lastServed := rfl
@[simp] theorem setStream_inExecution : (s.setStream i r).inExecution = s.inExecution := rfl
@[simp] theorem setStream_barred : (s.setStream i r).barred = s.barred := rfl
@[simp] theorem setStream_owedVoid : (s.setStream i r).owedVoid = s.owedVoid := rfl
@[simp] theorem setStream_commitAnswer : (s.setStream i r).commitAnswer = s.commitAnswer := rfl
@[simp] theorem setStream_lane (l' : LaneNo) : (s.setStream i r).lane l' = s.lane l' := rfl
@[simp] theorem setStream_port (p' : PortNo) : (s.setStream i r).port p' = s.port p' := rfl

end setStream

section setLane
variable (l : LaneNo) (r : LaneRec)

@[simp] theorem setLane_pending : (s.setLane l r).pending = s.pending := rfl
@[simp] theorem setLane_turns : (s.setLane l r).turns = s.turns := rfl
@[simp] theorem setLane_resetPin : (s.setLane l r).resetPin = s.resetPin := rfl
@[simp] theorem setLane_paceCount : (s.setLane l r).paceCount = s.paceCount := rfl
@[simp] theorem setLane_uncounted : (s.setLane l r).uncounted = s.uncounted := rfl
@[simp] theorem setLane_unitLength : (s.setLane l r).unitLength = s.unitLength := rfl
@[simp] theorem setLane_params : (s.setLane l r).params = s.params := rfl
@[simp] theorem setLane_stagedParams : (s.setLane l r).stagedParams = s.stagedParams := rfl
@[simp] theorem setLane_trunkUp : (s.setLane l r).trunkUp = s.trunkUp := rfl
@[simp] theorem setLane_trunkCommitPending : (s.setLane l r).trunkCommitPending = s.trunkCommitPending := rfl
@[simp] theorem setLane_streams : (s.setLane l r).streams = s.streams := rfl
@[simp] theorem setLane_lanes : (s.setLane l r).lanes = s.lanes.write l r := rfl
@[simp] theorem setLane_ports : (s.setLane l r).ports = s.ports := rfl
@[simp] theorem setLane_freeBuffers : (s.setLane l r).freeBuffers = s.freeBuffers := rfl
@[simp] theorem setLane_requests : (s.setLane l r).requests = s.requests := rfl
@[simp] theorem setLane_waiting : (s.setLane l r).waiting = s.waiting := rfl
@[simp] theorem setLane_freeLanes : (s.setLane l r).freeLanes = s.freeLanes := rfl
@[simp] theorem setLane_budget : (s.setLane l r).budget = s.budget := rfl
@[simp] theorem setLane_spacing : (s.setLane l r).spacing = s.spacing := rfl
@[simp] theorem setLane_record : (s.setLane l r).record = s.record := rfl
@[simp] theorem setLane_notices : (s.setLane l r).notices = s.notices := rfl
@[simp] theorem setLane_reports : (s.setLane l r).reports = s.reports := rfl
@[simp] theorem setLane_lastServed : (s.setLane l r).lastServed = s.lastServed := rfl
@[simp] theorem setLane_inExecution : (s.setLane l r).inExecution = s.inExecution := rfl
@[simp] theorem setLane_barred : (s.setLane l r).barred = s.barred := rfl
@[simp] theorem setLane_owedVoid : (s.setLane l r).owedVoid = s.owedVoid := rfl
@[simp] theorem setLane_commitAnswer : (s.setLane l r).commitAnswer = s.commitAnswer := rfl
@[simp] theorem setLane_stream (i' : StreamNo) : (s.setLane l r).stream i' = s.stream i' := rfl
@[simp] theorem setLane_port (p' : PortNo) : (s.setLane l r).port p' = s.port p' := rfl

end setLane

section setPort
variable (p : PortNo) (r : PortRec)

@[simp] theorem setPort_pending : (s.setPort p r).pending = s.pending := rfl
@[simp] theorem setPort_turns : (s.setPort p r).turns = s.turns := rfl
@[simp] theorem setPort_resetPin : (s.setPort p r).resetPin = s.resetPin := rfl
@[simp] theorem setPort_paceCount : (s.setPort p r).paceCount = s.paceCount := rfl
@[simp] theorem setPort_uncounted : (s.setPort p r).uncounted = s.uncounted := rfl
@[simp] theorem setPort_unitLength : (s.setPort p r).unitLength = s.unitLength := rfl
@[simp] theorem setPort_params : (s.setPort p r).params = s.params := rfl
@[simp] theorem setPort_stagedParams : (s.setPort p r).stagedParams = s.stagedParams := rfl
@[simp] theorem setPort_trunkUp : (s.setPort p r).trunkUp = s.trunkUp := rfl
@[simp] theorem setPort_trunkCommitPending : (s.setPort p r).trunkCommitPending = s.trunkCommitPending := rfl
@[simp] theorem setPort_streams : (s.setPort p r).streams = s.streams := rfl
@[simp] theorem setPort_lanes : (s.setPort p r).lanes = s.lanes := rfl
@[simp] theorem setPort_ports : (s.setPort p r).ports = s.ports.write p r := rfl
@[simp] theorem setPort_freeBuffers : (s.setPort p r).freeBuffers = s.freeBuffers := rfl
@[simp] theorem setPort_requests : (s.setPort p r).requests = s.requests := rfl
@[simp] theorem setPort_waiting : (s.setPort p r).waiting = s.waiting := rfl
@[simp] theorem setPort_freeLanes : (s.setPort p r).freeLanes = s.freeLanes := rfl
@[simp] theorem setPort_budget : (s.setPort p r).budget = s.budget := rfl
@[simp] theorem setPort_spacing : (s.setPort p r).spacing = s.spacing := rfl
@[simp] theorem setPort_record : (s.setPort p r).record = s.record := rfl
@[simp] theorem setPort_notices : (s.setPort p r).notices = s.notices := rfl
@[simp] theorem setPort_reports : (s.setPort p r).reports = s.reports := rfl
@[simp] theorem setPort_lastServed : (s.setPort p r).lastServed = s.lastServed := rfl
@[simp] theorem setPort_inExecution : (s.setPort p r).inExecution = s.inExecution := rfl
@[simp] theorem setPort_barred : (s.setPort p r).barred = s.barred := rfl
@[simp] theorem setPort_owedVoid : (s.setPort p r).owedVoid = s.owedVoid := rfl
@[simp] theorem setPort_commitAnswer : (s.setPort p r).commitAnswer = s.commitAnswer := rfl
@[simp] theorem setPort_stream (i' : StreamNo) : (s.setPort p r).stream i' = s.stream i' := rfl
@[simp] theorem setPort_lane (l' : LaneNo) : (s.setPort p r).lane l' = s.lane l' := rfl

end setPort

section modStream
variable (i : StreamNo) (f : StreamRec → StreamRec)

@[simp] theorem modStream_pending : (s.modStream i f).pending = s.pending := rfl
@[simp] theorem modStream_turns : (s.modStream i f).turns = s.turns := rfl
@[simp] theorem modStream_resetPin : (s.modStream i f).resetPin = s.resetPin := rfl
@[simp] theorem modStream_paceCount : (s.modStream i f).paceCount = s.paceCount := rfl
@[simp] theorem modStream_uncounted : (s.modStream i f).uncounted = s.uncounted := rfl
@[simp] theorem modStream_unitLength : (s.modStream i f).unitLength = s.unitLength := rfl
@[simp] theorem modStream_params : (s.modStream i f).params = s.params := rfl
@[simp] theorem modStream_stagedParams : (s.modStream i f).stagedParams = s.stagedParams := rfl
@[simp] theorem modStream_trunkUp : (s.modStream i f).trunkUp = s.trunkUp := rfl
@[simp] theorem modStream_trunkCommitPending : (s.modStream i f).trunkCommitPending = s.trunkCommitPending := rfl
@[simp] theorem modStream_streams : (s.modStream i f).streams = s.streams.write i (f (s.stream i)) := rfl
@[simp] theorem modStream_lanes : (s.modStream i f).lanes = s.lanes := rfl
@[simp] theorem modStream_ports : (s.modStream i f).ports = s.ports := rfl
@[simp] theorem modStream_freeBuffers : (s.modStream i f).freeBuffers = s.freeBuffers := rfl
@[simp] theorem modStream_requests : (s.modStream i f).requests = s.requests := rfl
@[simp] theorem modStream_waiting : (s.modStream i f).waiting = s.waiting := rfl
@[simp] theorem modStream_freeLanes : (s.modStream i f).freeLanes = s.freeLanes := rfl
@[simp] theorem modStream_budget : (s.modStream i f).budget = s.budget := rfl
@[simp] theorem modStream_spacing : (s.modStream i f).spacing = s.spacing := rfl
@[simp] theorem modStream_record : (s.modStream i f).record = s.record := rfl
@[simp] theorem modStream_notices : (s.modStream i f).notices = s.notices := rfl
@[simp] theorem modStream_reports : (s.modStream i f).reports = s.reports := rfl
@[simp] theorem modStream_lastServed : (s.modStream i f).lastServed = s.lastServed := rfl
@[simp] theorem modStream_inExecution : (s.modStream i f).inExecution = s.inExecution := rfl
@[simp] theorem modStream_barred : (s.modStream i f).barred = s.barred := rfl
@[simp] theorem modStream_owedVoid : (s.modStream i f).owedVoid = s.owedVoid := rfl
@[simp] theorem modStream_commitAnswer : (s.modStream i f).commitAnswer = s.commitAnswer := rfl
@[simp] theorem modStream_lane (l' : LaneNo) : (s.modStream i f).lane l' = s.lane l' := rfl
@[simp] theorem modStream_port (p' : PortNo) : (s.modStream i f).port p' = s.port p' := rfl

end modStream

section modLane
variable (l : LaneNo) (f : LaneRec → LaneRec)

@[simp] theorem modLane_pending : (s.modLane l f).pending = s.pending := rfl
@[simp] theorem modLane_turns : (s.modLane l f).turns = s.turns := rfl
@[simp] theorem modLane_resetPin : (s.modLane l f).resetPin = s.resetPin := rfl
@[simp] theorem modLane_paceCount : (s.modLane l f).paceCount = s.paceCount := rfl
@[simp] theorem modLane_uncounted : (s.modLane l f).uncounted = s.uncounted := rfl
@[simp] theorem modLane_unitLength : (s.modLane l f).unitLength = s.unitLength := rfl
@[simp] theorem modLane_params : (s.modLane l f).params = s.params := rfl
@[simp] theorem modLane_stagedParams : (s.modLane l f).stagedParams = s.stagedParams := rfl
@[simp] theorem modLane_trunkUp : (s.modLane l f).trunkUp = s.trunkUp := rfl
@[simp] theorem modLane_trunkCommitPending : (s.modLane l f).trunkCommitPending = s.trunkCommitPending := rfl
@[simp] theorem modLane_streams : (s.modLane l f).streams = s.streams := rfl
@[simp] theorem modLane_lanes : (s.modLane l f).lanes = s.lanes.write l (f (s.lane l)) := rfl
@[simp] theorem modLane_ports : (s.modLane l f).ports = s.ports := rfl
@[simp] theorem modLane_freeBuffers : (s.modLane l f).freeBuffers = s.freeBuffers := rfl
@[simp] theorem modLane_requests : (s.modLane l f).requests = s.requests := rfl
@[simp] theorem modLane_waiting : (s.modLane l f).waiting = s.waiting := rfl
@[simp] theorem modLane_freeLanes : (s.modLane l f).freeLanes = s.freeLanes := rfl
@[simp] theorem modLane_budget : (s.modLane l f).budget = s.budget := rfl
@[simp] theorem modLane_spacing : (s.modLane l f).spacing = s.spacing := rfl
@[simp] theorem modLane_record : (s.modLane l f).record = s.record := rfl
@[simp] theorem modLane_notices : (s.modLane l f).notices = s.notices := rfl
@[simp] theorem modLane_reports : (s.modLane l f).reports = s.reports := rfl
@[simp] theorem modLane_lastServed : (s.modLane l f).lastServed = s.lastServed := rfl
@[simp] theorem modLane_inExecution : (s.modLane l f).inExecution = s.inExecution := rfl
@[simp] theorem modLane_barred : (s.modLane l f).barred = s.barred := rfl
@[simp] theorem modLane_owedVoid : (s.modLane l f).owedVoid = s.owedVoid := rfl
@[simp] theorem modLane_commitAnswer : (s.modLane l f).commitAnswer = s.commitAnswer := rfl
@[simp] theorem modLane_stream (i' : StreamNo) : (s.modLane l f).stream i' = s.stream i' := rfl
@[simp] theorem modLane_port (p' : PortNo) : (s.modLane l f).port p' = s.port p' := rfl

end modLane

section modPort
variable (p : PortNo) (f : PortRec → PortRec)

@[simp] theorem modPort_pending : (s.modPort p f).pending = s.pending := rfl
@[simp] theorem modPort_turns : (s.modPort p f).turns = s.turns := rfl
@[simp] theorem modPort_resetPin : (s.modPort p f).resetPin = s.resetPin := rfl
@[simp] theorem modPort_paceCount : (s.modPort p f).paceCount = s.paceCount := rfl
@[simp] theorem modPort_uncounted : (s.modPort p f).uncounted = s.uncounted := rfl
@[simp] theorem modPort_unitLength : (s.modPort p f).unitLength = s.unitLength := rfl
@[simp] theorem modPort_params : (s.modPort p f).params = s.params := rfl
@[simp] theorem modPort_stagedParams : (s.modPort p f).stagedParams = s.stagedParams := rfl
@[simp] theorem modPort_trunkUp : (s.modPort p f).trunkUp = s.trunkUp := rfl
@[simp] theorem modPort_trunkCommitPending : (s.modPort p f).trunkCommitPending = s.trunkCommitPending := rfl
@[simp] theorem modPort_streams : (s.modPort p f).streams = s.streams := rfl
@[simp] theorem modPort_lanes : (s.modPort p f).lanes = s.lanes := rfl
@[simp] theorem modPort_ports : (s.modPort p f).ports = s.ports.write p (f (s.port p)) := rfl
@[simp] theorem modPort_freeBuffers : (s.modPort p f).freeBuffers = s.freeBuffers := rfl
@[simp] theorem modPort_requests : (s.modPort p f).requests = s.requests := rfl
@[simp] theorem modPort_waiting : (s.modPort p f).waiting = s.waiting := rfl
@[simp] theorem modPort_freeLanes : (s.modPort p f).freeLanes = s.freeLanes := rfl
@[simp] theorem modPort_budget : (s.modPort p f).budget = s.budget := rfl
@[simp] theorem modPort_spacing : (s.modPort p f).spacing = s.spacing := rfl
@[simp] theorem modPort_record : (s.modPort p f).record = s.record := rfl
@[simp] theorem modPort_notices : (s.modPort p f).notices = s.notices := rfl
@[simp] theorem modPort_reports : (s.modPort p f).reports = s.reports := rfl
@[simp] theorem modPort_lastServed : (s.modPort p f).lastServed = s.lastServed := rfl
@[simp] theorem modPort_inExecution : (s.modPort p f).inExecution = s.inExecution := rfl
@[simp] theorem modPort_barred : (s.modPort p f).barred = s.barred := rfl
@[simp] theorem modPort_owedVoid : (s.modPort p f).owedVoid = s.owedVoid := rfl
@[simp] theorem modPort_commitAnswer : (s.modPort p f).commitAnswer = s.commitAnswer := rfl
@[simp] theorem modPort_stream (i' : StreamNo) : (s.modPort p f).stream i' = s.stream i' := rfl
@[simp] theorem modPort_lane (l' : LaneNo) : (s.modPort p f).lane l' = s.lane l' := rfl

end modPort

section setWaiting
variable (g : GroupNo) (b : Bool)

@[simp] theorem setWaiting_pending : (s.setWaiting g b).pending = s.pending := rfl
@[simp] theorem setWaiting_turns : (s.setWaiting g b).turns = s.turns := rfl
@[simp] theorem setWaiting_resetPin : (s.setWaiting g b).resetPin = s.resetPin := rfl
@[simp] theorem setWaiting_paceCount : (s.setWaiting g b).paceCount = s.paceCount := rfl
@[simp] theorem setWaiting_uncounted : (s.setWaiting g b).uncounted = s.uncounted := rfl
@[simp] theorem setWaiting_unitLength : (s.setWaiting g b).unitLength = s.unitLength := rfl
@[simp] theorem setWaiting_params : (s.setWaiting g b).params = s.params := rfl
@[simp] theorem setWaiting_stagedParams : (s.setWaiting g b).stagedParams = s.stagedParams := rfl
@[simp] theorem setWaiting_trunkUp : (s.setWaiting g b).trunkUp = s.trunkUp := rfl
@[simp] theorem setWaiting_trunkCommitPending : (s.setWaiting g b).trunkCommitPending = s.trunkCommitPending := rfl
@[simp] theorem setWaiting_streams : (s.setWaiting g b).streams = s.streams := rfl
@[simp] theorem setWaiting_lanes : (s.setWaiting g b).lanes = s.lanes := rfl
@[simp] theorem setWaiting_ports : (s.setWaiting g b).ports = s.ports := rfl
@[simp] theorem setWaiting_freeBuffers : (s.setWaiting g b).freeBuffers = s.freeBuffers := rfl
@[simp] theorem setWaiting_requests : (s.setWaiting g b).requests = s.requests := rfl
@[simp] theorem setWaiting_waiting : (s.setWaiting g b).waiting = s.waiting.write g b := rfl
@[simp] theorem setWaiting_freeLanes : (s.setWaiting g b).freeLanes = s.freeLanes := rfl
@[simp] theorem setWaiting_budget : (s.setWaiting g b).budget = s.budget := rfl
@[simp] theorem setWaiting_spacing : (s.setWaiting g b).spacing = s.spacing := rfl
@[simp] theorem setWaiting_record : (s.setWaiting g b).record = s.record := rfl
@[simp] theorem setWaiting_notices : (s.setWaiting g b).notices = s.notices := rfl
@[simp] theorem setWaiting_reports : (s.setWaiting g b).reports = s.reports := rfl
@[simp] theorem setWaiting_lastServed : (s.setWaiting g b).lastServed = s.lastServed := rfl
@[simp] theorem setWaiting_inExecution : (s.setWaiting g b).inExecution = s.inExecution := rfl
@[simp] theorem setWaiting_barred : (s.setWaiting g b).barred = s.barred := rfl
@[simp] theorem setWaiting_owedVoid : (s.setWaiting g b).owedVoid = s.owedVoid := rfl
@[simp] theorem setWaiting_commitAnswer : (s.setWaiting g b).commitAnswer = s.commitAnswer := rfl
@[simp] theorem setWaiting_stream (i' : StreamNo) : (s.setWaiting g b).stream i' = s.stream i' := rfl
@[simp] theorem setWaiting_lane (l' : LaneNo) : (s.setWaiting g b).lane l' = s.lane l' := rfl
@[simp] theorem setWaiting_port (p' : PortNo) : (s.setWaiting g b).port p' = s.port p' := rfl

end setWaiting

section setFree
variable (g : GroupNo) (ls : List LaneNo)

@[simp] theorem setFree_pending : (s.setFree g ls).pending = s.pending := rfl
@[simp] theorem setFree_turns : (s.setFree g ls).turns = s.turns := rfl
@[simp] theorem setFree_resetPin : (s.setFree g ls).resetPin = s.resetPin := rfl
@[simp] theorem setFree_paceCount : (s.setFree g ls).paceCount = s.paceCount := rfl
@[simp] theorem setFree_uncounted : (s.setFree g ls).uncounted = s.uncounted := rfl
@[simp] theorem setFree_unitLength : (s.setFree g ls).unitLength = s.unitLength := rfl
@[simp] theorem setFree_params : (s.setFree g ls).params = s.params := rfl
@[simp] theorem setFree_stagedParams : (s.setFree g ls).stagedParams = s.stagedParams := rfl
@[simp] theorem setFree_trunkUp : (s.setFree g ls).trunkUp = s.trunkUp := rfl
@[simp] theorem setFree_trunkCommitPending : (s.setFree g ls).trunkCommitPending = s.trunkCommitPending := rfl
@[simp] theorem setFree_streams : (s.setFree g ls).streams = s.streams := rfl
@[simp] theorem setFree_lanes : (s.setFree g ls).lanes = s.lanes := rfl
@[simp] theorem setFree_ports : (s.setFree g ls).ports = s.ports := rfl
@[simp] theorem setFree_freeBuffers : (s.setFree g ls).freeBuffers = s.freeBuffers := rfl
@[simp] theorem setFree_requests : (s.setFree g ls).requests = s.requests := rfl
@[simp] theorem setFree_waiting : (s.setFree g ls).waiting = s.waiting := rfl
@[simp] theorem setFree_freeLanes : (s.setFree g ls).freeLanes = s.freeLanes.write g ls := rfl
@[simp] theorem setFree_budget : (s.setFree g ls).budget = s.budget := rfl
@[simp] theorem setFree_spacing : (s.setFree g ls).spacing = s.spacing := rfl
@[simp] theorem setFree_record : (s.setFree g ls).record = s.record := rfl
@[simp] theorem setFree_notices : (s.setFree g ls).notices = s.notices := rfl
@[simp] theorem setFree_reports : (s.setFree g ls).reports = s.reports := rfl
@[simp] theorem setFree_lastServed : (s.setFree g ls).lastServed = s.lastServed := rfl
@[simp] theorem setFree_inExecution : (s.setFree g ls).inExecution = s.inExecution := rfl
@[simp] theorem setFree_barred : (s.setFree g ls).barred = s.barred := rfl
@[simp] theorem setFree_owedVoid : (s.setFree g ls).owedVoid = s.owedVoid := rfl
@[simp] theorem setFree_commitAnswer : (s.setFree g ls).commitAnswer = s.commitAnswer := rfl
@[simp] theorem setFree_stream (i' : StreamNo) : (s.setFree g ls).stream i' = s.stream i' := rfl
@[simp] theorem setFree_lane (l' : LaneNo) : (s.setFree g ls).lane l' = s.lane l' := rfl
@[simp] theorem setFree_port (p' : PortNo) : (s.setFree g ls).port p' = s.port p' := rfl

end setFree

theorem stream_setStream (i j : StreamNo) (r : StreamRec) :
    (s.setStream i r).stream j = if i = j then r else s.stream j := Table.read_write _ _ _ _

@[simp] theorem stream_setStream_same (i : StreamNo) (r : StreamRec) : (s.setStream i r).stream i = r :=
  Table.read_write_same _ _ _

@[simp] theorem stream_setStream_ne {i j : StreamNo} (h : i ≠ j) (r : StreamRec) :
    (s.setStream i r).stream j = s.stream j := Table.read_write_ne _ h _

theorem stream_modStream (i j : StreamNo) (f : StreamRec → StreamRec) :
    (s.modStream i f).stream j = if i = j then f (s.stream i) else s.stream j := Table.read_write _ _ _ _

@[simp] theorem stream_modStream_same (i : StreamNo) (f : StreamRec → StreamRec) :
    (s.modStream i f).stream i = f (s.stream i) := Table.read_write_same _ _ _

@[simp] theorem stream_modStream_ne {i j : StreamNo} (h : i ≠ j) (f : StreamRec → StreamRec) :
    (s.modStream i f).stream j = s.stream j := Table.read_write_ne _ h _

@[simp] theorem setStream_self (i : StreamNo) : s.setStream i (s.stream i) = s := by
  simp [State.setStream, State.stream]

/-- Two changes of one record are one. -/
@[simp] theorem modStream_modStream (i : StreamNo) (f g : StreamRec → StreamRec) :
    (s.modStream i f).modStream i g = s.modStream i fun r => g (f r) := by
  simp [State.modStream, State.setStream, State.stream]

/-- A field that a change of a record keeps is kept in every record. -/
theorem stream_modStream_keeps {β : Type} (g : StreamRec → β) {f : StreamRec → StreamRec} (h : ∀ r, g (f r) = g r)
    (i j : StreamNo) : g ((s.modStream i f).stream j) = g (s.stream j) := by
  rw [stream_modStream]; split
  · subst_vars; exact h _
  · rfl

theorem lane_setLane (l j : LaneNo) (r : LaneRec) :
    (s.setLane l r).lane j = if l = j then r else s.lane j := Table.read_write _ _ _ _

@[simp] theorem lane_setLane_same (l : LaneNo) (r : LaneRec) : (s.setLane l r).lane l = r :=
  Table.read_write_same _ _ _

@[simp] theorem lane_setLane_ne {l j : LaneNo} (h : l ≠ j) (r : LaneRec) :
    (s.setLane l r).lane j = s.lane j := Table.read_write_ne _ h _

theorem lane_modLane (l j : LaneNo) (f : LaneRec → LaneRec) :
    (s.modLane l f).lane j = if l = j then f (s.lane l) else s.lane j := Table.read_write _ _ _ _

@[simp] theorem lane_modLane_same (l : LaneNo) (f : LaneRec → LaneRec) :
    (s.modLane l f).lane l = f (s.lane l) := Table.read_write_same _ _ _

@[simp] theorem lane_modLane_ne {l j : LaneNo} (h : l ≠ j) (f : LaneRec → LaneRec) :
    (s.modLane l f).lane j = s.lane j := Table.read_write_ne _ h _

@[simp] theorem setLane_self (l : LaneNo) : s.setLane l (s.lane l) = s := by
  simp [State.setLane, State.lane]

/-- Two changes of one record are one. -/
@[simp] theorem modLane_modLane (l : LaneNo) (f g : LaneRec → LaneRec) :
    (s.modLane l f).modLane l g = s.modLane l fun r => g (f r) := by
  simp [State.modLane, State.setLane, State.lane]

/-- A field that a change of a record keeps is kept in every record. -/
theorem lane_modLane_keeps {β : Type} (g : LaneRec → β) {f : LaneRec → LaneRec} (h : ∀ r, g (f r) = g r)
    (l j : LaneNo) : g ((s.modLane l f).lane j) = g (s.lane j) := by
  rw [lane_modLane]; split
  · subst_vars; exact h _
  · rfl

theorem port_setPort (p j : PortNo) (r : PortRec) :
    (s.setPort p r).port j = if p = j then r else s.port j := Table.read_write _ _ _ _

@[simp] theorem port_setPort_same (p : PortNo) (r : PortRec) : (s.setPort p r).port p = r :=
  Table.read_write_same _ _ _

@[simp] theorem port_setPort_ne {p j : PortNo} (h : p ≠ j) (r : PortRec) :
    (s.setPort p r).port j = s.port j := Table.read_write_ne _ h _

theorem port_modPort (p j : PortNo) (f : PortRec → PortRec) :
    (s.modPort p f).port j = if p = j then f (s.port p) else s.port j := Table.read_write _ _ _ _

@[simp] theorem port_modPort_same (p : PortNo) (f : PortRec → PortRec) :
    (s.modPort p f).port p = f (s.port p) := Table.read_write_same _ _ _

@[simp] theorem port_modPort_ne {p j : PortNo} (h : p ≠ j) (f : PortRec → PortRec) :
    (s.modPort p f).port j = s.port j := Table.read_write_ne _ h _

@[simp] theorem setPort_self (p : PortNo) : s.setPort p (s.port p) = s := by
  simp [State.setPort, State.port]

/-- Two changes of one record are one. -/
@[simp] theorem modPort_modPort (p : PortNo) (f g : PortRec → PortRec) :
    (s.modPort p f).modPort p g = s.modPort p fun r => g (f r) := by
  simp [State.modPort, State.setPort, State.port]

/-- A field that a change of a record keeps is kept in every record. -/
theorem port_modPort_keeps {β : Type} (g : PortRec → β) {f : PortRec → PortRec} (h : ∀ r, g (f r) = g r)
    (p j : PortNo) : g ((s.modPort p f).port j) = g (s.port j) := by
  rw [port_modPort]; split
  · subst_vars; exact h _
  · rfl

/-! ### Turns: using one up leaves everything else -/

@[simp] theorem takeTurn_eq : s.takeTurn = (s.turn, s.dropTurn) := rfl

@[simp] theorem dropTurn_turns : s.dropTurn.turns = s.turns.tail := rfl
@[simp] theorem dropTurn_pending : s.dropTurn.pending = s.pending := rfl
@[simp] theorem dropTurn_resetPin : s.dropTurn.resetPin = s.resetPin := rfl
@[simp] theorem dropTurn_paceCount : s.dropTurn.paceCount = s.paceCount := rfl
@[simp] theorem dropTurn_uncounted : s.dropTurn.uncounted = s.uncounted := rfl
@[simp] theorem dropTurn_unitLength : s.dropTurn.unitLength = s.unitLength := rfl
@[simp] theorem dropTurn_params : s.dropTurn.params = s.params := rfl
@[simp] theorem dropTurn_stagedParams : s.dropTurn.stagedParams = s.stagedParams := rfl
@[simp] theorem dropTurn_trunkUp : s.dropTurn.trunkUp = s.trunkUp := rfl
@[simp] theorem dropTurn_trunkCommitPending : s.dropTurn.trunkCommitPending = s.trunkCommitPending := rfl
@[simp] theorem dropTurn_streams : s.dropTurn.streams = s.streams := rfl
@[simp] theorem dropTurn_lanes : s.dropTurn.lanes = s.lanes := rfl
@[simp] theorem dropTurn_ports : s.dropTurn.ports = s.ports := rfl
@[simp] theorem dropTurn_freeBuffers : s.dropTurn.freeBuffers = s.freeBuffers := rfl
@[simp] theorem dropTurn_requests : s.dropTurn.requests = s.requests := rfl
@[simp] theorem dropTurn_waiting : s.dropTurn.waiting = s.waiting := rfl
@[simp] theorem dropTurn_freeLanes : s.dropTurn.freeLanes = s.freeLanes := rfl
@[simp] theorem dropTurn_budget : s.dropTurn.budget = s.budget := rfl
@[simp] theorem dropTurn_spacing : s.dropTurn.spacing = s.spacing := rfl
@[simp] theorem dropTurn_record : s.dropTurn.record = s.record := rfl
@[simp] theorem dropTurn_notices : s.dropTurn.notices = s.notices := rfl
@[simp] theorem dropTurn_reports : s.dropTurn.reports = s.reports := rfl
@[simp] theorem dropTurn_lastServed : s.dropTurn.lastServed = s.lastServed := rfl
@[simp] theorem dropTurn_inExecution : s.dropTurn.inExecution = s.inExecution := rfl
@[simp] theorem dropTurn_barred : s.dropTurn.barred = s.barred := rfl
@[simp] theorem dropTurn_owedVoid : s.dropTurn.owedVoid = s.owedVoid := rfl
@[simp] theorem dropTurn_commitAnswer : s.dropTurn.commitAnswer = s.commitAnswer := rfl

@[simp] theorem stream_dropTurn (i : StreamNo) : s.dropTurn.stream i = s.stream i := rfl
@[simp] theorem lane_dropTurn (l : LaneNo) : s.dropTurn.lane l = s.lane l := rfl
@[simp] theorem port_dropTurn (p : PortNo) : s.dropTurn.port p = s.port p := rfl

end Sys2Proof.Machine
end

