-- ==== Sys2Proof/Laws/Frames.lean ====
section
/-! SUPPORT. The frames of Safety.lean: what two states that agree but for bindings, or but for notices, have in common,
and which updates such a frame does not see. -/

namespace Sys2Proof.Machine

variable {s t : State}

/-! ### What agrees in all but bindings -/

theorem pending_of_sansBinding (h : t.sansBinding = s.sansBinding) : t.pending = s.pending :=
  (congrArg State.pending h :)
theorem resetPin_of_sansBinding (h : t.sansBinding = s.sansBinding) : t.resetPin = s.resetPin :=
  (congrArg State.resetPin h :)
theorem paceCount_of_sansBinding (h : t.sansBinding = s.sansBinding) : t.paceCount = s.paceCount :=
  (congrArg State.paceCount h :)
theorem uncounted_of_sansBinding (h : t.sansBinding = s.sansBinding) : t.uncounted = s.uncounted :=
  (congrArg State.uncounted h :)
theorem unitLength_of_sansBinding (h : t.sansBinding = s.sansBinding) : t.unitLength = s.unitLength :=
  (congrArg State.unitLength h :)
theorem params_of_sansBinding (h : t.sansBinding = s.sansBinding) : t.params = s.params :=
  (congrArg State.params h :)
theorem stagedParams_of_sansBinding (h : t.sansBinding = s.sansBinding) : t.stagedParams = s.stagedParams :=
  (congrArg State.stagedParams h :)
theorem trunkUp_of_sansBinding (h : t.sansBinding = s.sansBinding) : t.trunkUp = s.trunkUp :=
  (congrArg State.trunkUp h :)
theorem trunkCommitPending_of_sansBinding (h : t.sansBinding = s.sansBinding) : t.trunkCommitPending = s.trunkCommitPending :=
  (congrArg State.trunkCommitPending h :)
theorem freeBuffers_of_sansBinding (h : t.sansBinding = s.sansBinding) : t.freeBuffers = s.freeBuffers :=
  (congrArg State.freeBuffers h :)
theorem record_of_sansBinding (h : t.sansBinding = s.sansBinding) : t.record = s.record :=
  (congrArg State.record h :)
theorem notices_of_sansBinding (h : t.sansBinding = s.sansBinding) : t.notices = s.notices :=
  (congrArg State.notices h :)
theorem reports_of_sansBinding (h : t.sansBinding = s.sansBinding) : t.reports = s.reports :=
  (congrArg State.reports h :)
theorem lastServed_of_sansBinding (h : t.sansBinding = s.sansBinding) : t.lastServed = s.lastServed :=
  (congrArg State.lastServed h :)
theorem inExecution_of_sansBinding (h : t.sansBinding = s.sansBinding) : t.inExecution = s.inExecution :=
  (congrArg State.inExecution h :)
theorem barred_of_sansBinding (h : t.sansBinding = s.sansBinding) : t.barred = s.barred :=
  (congrArg State.barred h :)
theorem owedVoid_of_sansBinding (h : t.sansBinding = s.sansBinding) : t.owedVoid = s.owedVoid :=
  (congrArg State.owedVoid h :)
theorem commitAnswer_of_sansBinding (h : t.sansBinding = s.sansBinding) : t.commitAnswer = s.commitAnswer :=
  (congrArg State.commitAnswer h :)
theorem ports_of_sansBinding (h : t.sansBinding = s.sansBinding) : t.ports = s.ports :=
  (congrArg State.ports h :)

theorem stream_of_sansBinding (h : t.sansBinding = s.sansBinding) (i : StreamNo) :
    (t.stream i).sansBinding = (s.stream i).sansBinding :=
  Table.read_eq_of_mapAll_eq (congrArg State.streams h) i

theorem lane_of_sansBinding (h : t.sansBinding = s.sansBinding) (l : LaneNo) :
    (t.lane l).sansBinding = (s.lane l).sansBinding :=
  Table.read_eq_of_mapAll_eq (congrArg State.lanes h) l

theorem port_of_sansBinding (h : t.sansBinding = s.sansBinding) (p : PortNo) : t.port p = s.port p :=
  (congrArg (fun u : State => u.port p) h :)

/-- The entry of any cause survives a change of bindings. -/
theorem entry_of_sansBinding (h : t.sansBinding = s.sansBinding) (pt : CausePoint) : t.entry pt = s.entry pt := by
  cases pt with
  | device c => exact congrArg (fun n : NoticeSet 4 => n.read c.bit) (notices_of_sansBinding h)
  | port p c => exact congrArg (fun r : PortRec => r.notices.read c.bit) (port_of_sansBinding h p)
  | lane l c => exact (congrArg (fun r : LaneRec => r.notices.read c.bit) (lane_of_sansBinding h l) :)
  | stream i c => exact (congrArg (fun r : StreamRec => r.notices.read c.bit) (stream_of_sansBinding h i) :)

/-- Which causes are enabled survives a change of bindings. -/
theorem causeEnabled_of_sansBinding (h : t.sansBinding = s.sansBinding) (pt : CausePoint) :
    t.causeEnabled pt = s.causeEnabled pt := by
  cases pt with
  | device c => exact congrArg (fun d : DeviceParams => d.deviceMask.getLsbD c.bit.val) (params_of_sansBinding h)
  | port p c => exact congrArg (fun d : DeviceParams => d.portMask.getLsbD c.bit.val) (params_of_sansBinding h)
  | lane l c => exact congrArg (fun d : DeviceParams => d.laneMask.getLsbD c.bit.val) (params_of_sansBinding h)
  | stream i c =>
    exact (congrArg (fun r : StreamRec => r.config.reportMask.getLsbD c.bit.val) (stream_of_sansBinding h i) :)

/-! ### What agrees in all but notices -/

theorem pending_of_sansNotices (h : t.sansNotices = s.sansNotices) : t.pending = s.pending :=
  (congrArg State.pending h :)
theorem turns_of_sansNotices (h : t.sansNotices = s.sansNotices) : t.turns = s.turns :=
  (congrArg State.turns h :)
theorem resetPin_of_sansNotices (h : t.sansNotices = s.sansNotices) : t.resetPin = s.resetPin :=
  (congrArg State.resetPin h :)
theorem paceCount_of_sansNotices (h : t.sansNotices = s.sansNotices) : t.paceCount = s.paceCount :=
  (congrArg State.paceCount h :)
theorem uncounted_of_sansNotices (h : t.sansNotices = s.sansNotices) : t.uncounted = s.uncounted :=
  (congrArg State.uncounted h :)
theorem unitLength_of_sansNotices (h : t.sansNotices = s.sansNotices) : t.unitLength = s.unitLength :=
  (congrArg State.unitLength h :)
theorem params_of_sansNotices (h : t.sansNotices = s.sansNotices) : t.params = s.params :=
  (congrArg State.params h :)
theorem stagedParams_of_sansNotices (h : t.sansNotices = s.sansNotices) : t.stagedParams = s.stagedParams :=
  (congrArg State.stagedParams h :)
theorem trunkUp_of_sansNotices (h : t.sansNotices = s.sansNotices) : t.trunkUp = s.trunkUp :=
  (congrArg State.trunkUp h :)
theorem trunkCommitPending_of_sansNotices (h : t.sansNotices = s.sansNotices) : t.trunkCommitPending = s.trunkCommitPending :=
  (congrArg State.trunkCommitPending h :)
theorem freeBuffers_of_sansNotices (h : t.sansNotices = s.sansNotices) : t.freeBuffers = s.freeBuffers :=
  (congrArg State.freeBuffers h :)
theorem requests_of_sansNotices (h : t.sansNotices = s.sansNotices) : t.requests = s.requests :=
  (congrArg State.requests h :)
theorem waiting_of_sansNotices (h : t.sansNotices = s.sansNotices) : t.waiting = s.waiting :=
  (congrArg State.waiting h :)
theorem freeLanes_of_sansNotices (h : t.sansNotices = s.sansNotices) : t.freeLanes = s.freeLanes :=
  (congrArg State.freeLanes h :)
theorem budget_of_sansNotices (h : t.sansNotices = s.sansNotices) : t.budget = s.budget :=
  (congrArg State.budget h :)
theorem spacing_of_sansNotices (h : t.sansNotices = s.sansNotices) : t.spacing = s.spacing :=
  (congrArg State.spacing h :)
theorem record_of_sansNotices (h : t.sansNotices = s.sansNotices) : t.record = s.record :=
  (congrArg State.record h :)
theorem lastServed_of_sansNotices (h : t.sansNotices = s.sansNotices) : t.lastServed = s.lastServed :=
  (congrArg State.lastServed h :)
theorem inExecution_of_sansNotices (h : t.sansNotices = s.sansNotices) : t.inExecution = s.inExecution :=
  (congrArg State.inExecution h :)
theorem barred_of_sansNotices (h : t.sansNotices = s.sansNotices) : t.barred = s.barred :=
  (congrArg State.barred h :)
theorem owedVoid_of_sansNotices (h : t.sansNotices = s.sansNotices) : t.owedVoid = s.owedVoid :=
  (congrArg State.owedVoid h :)
theorem commitAnswer_of_sansNotices (h : t.sansNotices = s.sansNotices) : t.commitAnswer = s.commitAnswer :=
  (congrArg State.commitAnswer h :)

theorem stream_of_sansNotices (h : t.sansNotices = s.sansNotices) (i : StreamNo) :
    (t.stream i).sansNotices = (s.stream i).sansNotices :=
  Table.read_eq_of_mapAll_eq (congrArg State.streams h) i

theorem lane_of_sansNotices (h : t.sansNotices = s.sansNotices) (l : LaneNo) :
    (t.lane l).sansNotices = (s.lane l).sansNotices :=
  Table.read_eq_of_mapAll_eq (congrArg State.lanes h) l

theorem port_of_sansNotices (h : t.sansNotices = s.sansNotices) (p : PortNo) :
    (t.port p).sansNotices = (s.port p).sansNotices :=
  Table.read_eq_of_mapAll_eq (congrArg State.ports h) p

/-! ### Updates under a frame -/


/-- A change of one stream that the frame does not see. -/
theorem sansBinding_modStream (s : State) (i : StreamNo) {f : StreamRec → StreamRec} (h : ∀ r, (f r).sansBinding = r.sansBinding) :
    (s.modStream i f).sansBinding = s.sansBinding := by
  simp only [State.sansBinding, State.modStream, State.setStream, State.stream, Table.mapAll_write_of_eq (h _)]

/-- Like changes of one stream of states that agree under the frame agree under it. -/
theorem sansBinding_modStream_congr {f g : StreamRec → StreamRec}
    (hf : ∀ r r' : StreamRec, r.sansBinding = r'.sansBinding → (f r).sansBinding = (g r').sansBinding)
    (h : t.sansBinding = s.sansBinding) (i : StreamNo) : (t.modStream i f).sansBinding = (s.modStream i g).sansBinding := by
  have hi := hf _ _ (stream_of_sansBinding h i)
  simp only [State.sansBinding, State.modStream, State.setStream, Table.mapAll_write, hi] at h ⊢
  injection h
  simp only [*]

/-- A change of one lane that the frame does not see. -/
theorem sansBinding_modLane (s : State) (l : LaneNo) {f : LaneRec → LaneRec} (h : ∀ r, (f r).sansBinding = r.sansBinding) :
    (s.modLane l f).sansBinding = s.sansBinding := by
  simp only [State.sansBinding, State.modLane, State.setLane, State.lane, Table.mapAll_write_of_eq (h _)]

/-- Like changes of one lane of states that agree under the frame agree under it. -/
theorem sansBinding_modLane_congr {f g : LaneRec → LaneRec}
    (hf : ∀ r r' : LaneRec, r.sansBinding = r'.sansBinding → (f r).sansBinding = (g r').sansBinding)
    (h : t.sansBinding = s.sansBinding) (l : LaneNo) : (t.modLane l f).sansBinding = (s.modLane l g).sansBinding := by
  have hl := hf _ _ (lane_of_sansBinding h l)
  simp only [State.sansBinding, State.modLane, State.setLane, Table.mapAll_write, hl] at h ⊢
  injection h
  simp only [*]

/-- A change of one stream that the frame does not see. -/
theorem sansNotices_modStream (s : State) (i : StreamNo) {f : StreamRec → StreamRec} (h : ∀ r, (f r).sansNotices = r.sansNotices) :
    (s.modStream i f).sansNotices = s.sansNotices := by
  simp only [State.sansNotices, State.modStream, State.setStream, State.stream, Table.mapAll_write_of_eq (h _)]

/-- Like changes of one stream of states that agree under the frame agree under it. -/
theorem sansNotices_modStream_congr {f g : StreamRec → StreamRec}
    (hf : ∀ r r' : StreamRec, r.sansNotices = r'.sansNotices → (f r).sansNotices = (g r').sansNotices)
    (h : t.sansNotices = s.sansNotices) (i : StreamNo) : (t.modStream i f).sansNotices = (s.modStream i g).sansNotices := by
  have hi := hf _ _ (stream_of_sansNotices h i)
  simp only [State.sansNotices, State.modStream, State.setStream, Table.mapAll_write, hi] at h ⊢
  injection h
  simp only [*]

/-- A change of one lane that the frame does not see. -/
theorem sansNotices_modLane (s : State) (l : LaneNo) {f : LaneRec → LaneRec} (h : ∀ r, (f r).sansNotices = r.sansNotices) :
    (s.modLane l f).sansNotices = s.sansNotices := by
  simp only [State.sansNotices, State.modLane, State.setLane, State.lane, Table.mapAll_write_of_eq (h _)]

/-- Like changes of one lane of states that agree under the frame agree under it. -/
theorem sansNotices_modLane_congr {f g : LaneRec → LaneRec}
    (hf : ∀ r r' : LaneRec, r.sansNotices = r'.sansNotices → (f r).sansNotices = (g r').sansNotices)
    (h : t.sansNotices = s.sansNotices) (l : LaneNo) : (t.modLane l f).sansNotices = (s.modLane l g).sansNotices := by
  have hl := hf _ _ (lane_of_sansNotices h l)
  simp only [State.sansNotices, State.modLane, State.setLane, Table.mapAll_write, hl] at h ⊢
  injection h
  simp only [*]

/-- A change of one port that the frame does not see. -/
theorem sansNotices_modPort (s : State) (p : PortNo) {f : PortRec → PortRec} (h : ∀ r, (f r).sansNotices = r.sansNotices) :
    (s.modPort p f).sansNotices = s.sansNotices := by
  simp only [State.sansNotices, State.modPort, State.setPort, State.port, Table.mapAll_write_of_eq (h _)]

/-- Like changes of one port of states that agree under the frame agree under it. -/
theorem sansNotices_modPort_congr {f g : PortRec → PortRec}
    (hf : ∀ r r' : PortRec, r.sansNotices = r'.sansNotices → (f r).sansNotices = (g r').sansNotices)
    (h : t.sansNotices = s.sansNotices) (p : PortNo) : (t.modPort p f).sansNotices = (s.modPort p g).sansNotices := by
  have hp := hf _ _ (port_of_sansNotices h p)
  simp only [State.sansNotices, State.modPort, State.setPort, Table.mapAll_write, hp] at h ⊢
  injection h
  simp only [*]

theorem sansBinding_modPort_congr {f : PortRec → PortRec} (h : t.sansBinding = s.sansBinding) (p : PortNo) :
    (t.modPort p f).sansBinding = (s.modPort p f).sansBinding := by
  simp only [State.sansBinding, State.modPort, State.setPort, State.port] at h ⊢
  injection h
  simp only [*]

/-- The core, the frames taken in the other order. -/
theorem core_eq (s : State) : s.core = s.sansBinding.sansNotices := by
  simp only [State.core, State.sansBinding, State.sansNotices, Table.mapAll_mapAll]
  rfl

/-- States that agree in all but bindings agree in the core. -/
theorem core_of_sansBinding (h : t.sansBinding = s.sansBinding) : t.core = s.core := by
  rw [core_eq, core_eq, h]

/-- States that agree in all but notices agree in the core. -/
theorem core_of_sansNotices (h : t.sansNotices = s.sansNotices) : t.core = s.core := by
  simp only [State.core, h]

end Sys2Proof.Machine
end

