-- ==== Sys2Proof/Laws/Binding.lean ====
section
/-! SUPPORT. What the bind arbiter and the lane judgements can change: bindings alone. Each operation of Lanes.lean and
Arbiter.lean keeps everything that `State.sansBinding` keeps. -/

namespace Sys2Proof.Machine

variable (s : State)

/-- A fold of operations that each keep a view keeps it. -/
theorem foldl_keeps {α β : Type} {f : State → α → State} {v : State → β} (h : ∀ s a, v (f s a) = v s) (l : List α) :
    v (l.foldl f s) = v s := by
  induction l generalizing s with
  | nil => rfl
  | cons a l ih => rw [List.foldl_cons, ih, h]

@[simp] theorem startRelease_sansBinding (l : LaneNo) : (startRelease l s).sansBinding = s.sansBinding := by
  unfold startRelease
  split
  · exact sansBinding_modLane s l fun _ => rfl
  · rfl

@[simp] theorem holdGrace_sansBinding (l : LaneNo) (h : StreamRec) :
    (holdGrace l h s).sansBinding = s.sansBinding := by
  unfold holdGrace
  dsimp only
  split
  · exact startRelease_sansBinding s l
  · split
    · exact startRelease_sansBinding s l
    · split
      · exact sansBinding_modLane s l fun _ => rfl
      · rfl

@[simp] theorem judgeLane_sansBinding (l : LaneNo) : (judgeLane l s).sansBinding = s.sansBinding := by
  unfold judgeLane
  dsimp only
  split
  · split
    · exact startRelease_sansBinding s l
    · split
      · exact sansBinding_modLane s l fun _ => rfl
      · exact holdGrace_sansBinding s l _
  · rfl

@[simp] theorem judgeHeld_sansBinding (i : StreamNo) : (judgeHeld i s).sansBinding = s.sansBinding := by
  unfold judgeHeld
  split
  · exact judgeLane_sansBinding s _
  · rfl

@[simp] theorem judgeGroup_sansBinding (g : GroupNo) : (judgeGroup g s).sansBinding = s.sansBinding :=
  foldl_keeps s (fun s l => judgeLane_sansBinding s l) _

@[simp] theorem setWaiting_sansBinding (g : GroupNo) (b : Bool) :
    (s.setWaiting g b).sansBinding = s.sansBinding := rfl

@[simp] theorem setFree_sansBinding (g : GroupNo) (ls : List LaneNo) :
    (s.setFree g ls).sansBinding = s.sansBinding := rfl

@[simp] theorem dropTurn_sansBinding : s.dropTurn.sansBinding = s.sansBinding := rfl

@[simp] theorem indicateNotWaiting_sansBinding (g : GroupNo) :
    (indicateNotWaiting g s).sansBinding = s.sansBinding := by
  unfold indicateNotWaiting; split <;> rfl

@[simp] theorem removeEntry_sansBinding (i : StreamNo) : (removeEntry i s).sansBinding = s.sansBinding := by
  unfold removeEntry
  split
  · rw [indicateNotWaiting_sansBinding]; rfl
  · rfl

@[simp] theorem joinList_sansBinding (e : RequestEntry) : (joinList e s).sansBinding = s.sansBinding := by
  unfold joinList
  dsimp only
  split
  · rw [judgeGroup_sansBinding, setWaiting_sansBinding]; rfl
  · rfl

@[simp] theorem grantBind_sansBinding (e : RequestEntry) (l : LaneNo) (rest : List LaneNo) :
    (grantBind e l rest s).sansBinding = s.sansBinding := by
  have hl := sansBinding_modLane (s.setFree e.group rest) l
    (f := fun r => { r.begin .bind .binding e.stream with holder := some e.stream }) fun _ => rfl
  have hs (t : State) := sansBinding_modStream t e.stream
    (f := fun r => { r with heldLane := some l, keptTime := some e.time }) fun _ => rfl
  exact (hs _).trans hl

@[simp] theorem afterGrant_sansBinding (g : GroupNo) : (afterGrant g s).sansBinding = s.sansBinding := by
  unfold afterGrant
  split
  · split
    · exact judgeGroup_sansBinding s g
    · dsimp only
      split <;> simp
  · exact indicateNotWaiting_sansBinding s g

@[simp] theorem startBind_sansBinding (e : RequestEntry) (l : LaneNo) (rest : List LaneNo) :
    (startBind e l rest s).sansBinding = s.sansBinding := by simp [startBind]

/-- A bind-start claim is granted with the head lane of the group's list. -/
theorem takeClaim_granted {s : State} {e : RequestEntry} {marked : List GroupNo} {l : LaneNo} {rest : List LaneNo}
    (h : s.freeLanes.read e.group = l :: rest) : takeClaim e marked s = (marked, startBind e l rest s) := by
  simp [takeClaim, h]

/-- A bind-start claim on an empty list is refused: nothing changes, and the group is marked (R49, R50). -/
theorem takeClaim_refused {s : State} {e : RequestEntry} {marked : List GroupNo} (h : s.freeLanes.read e.group = []) :
    takeClaim e marked s = (e.group :: marked, s) := by simp [takeClaim, h]

@[simp] theorem takeClaim_sansBinding (e : RequestEntry) (marked : List GroupNo) :
    (takeClaim e marked s).2.sansBinding = s.sansBinding := by
  unfold takeClaim
  split <;> simp

theorem passLoop_sansBinding (n : Nat) (marked : List GroupNo) :
    (passLoop n marked s).sansBinding = s.sansBinding := by
  induction n generalizing s marked with
  | zero => rfl
  | succ n ih =>
    unfold passLoop
    split
    · rfl
    · split
      · rfl
      · split
        · rw [ih, removeEntry_sansBinding]
        · rw [ih, takeClaim_sansBinding]

theorem passUntil_sansBinding (n : Nat) (marked : List GroupNo) :
    (passUntil n marked s).2.sansBinding = s.sansBinding := by
  induction n generalizing s marked with
  | zero => rfl
  | succ n ih =>
    unfold passUntil
    split
    · rfl
    · split
      · rfl
      · split
        · rw [ih, removeEntry_sansBinding]
        · dsimp only [State.takeTurn]
          split
          · rfl
          · rw [ih, takeClaim_sansBinding, dropTurn_sansBinding]

/-- The rest of a pass changes bindings only. -/
@[simp] theorem passFrom_sansBinding (e : RequestEntry) (marked : List GroupNo) :
    (passFrom e marked s).sansBinding = s.sansBinding := by
  simp only [passFrom, passLoop_sansBinding, takeClaim_sansBinding]

/-- A pass that finds no free lane for any entry changes nothing. -/
theorem passLoop_noLanes {s : State} (n : Nat) (marked : List GroupNo) (h : ∀ g, s.freeLanes.read g = []) :
    passLoop n marked s = s := by
  have hc : s.choice marked = none := List.find?_eq_none.2 fun e _ => by simp [h]
  cases n <;> simp [passLoop, hc]

/-- The rest of a pass that finds every list emptied is one refused claim: nothing changes (R50). -/
theorem passFrom_noLanes {s : State} (e : RequestEntry) (marked : List GroupNo)
    (h : ∀ g, s.freeLanes.read g = []) : passFrom e marked s = s := by
  simp [passFrom, takeClaim_refused (h _), passLoop_noLanes _ _ h]

/-- Where the arbiter has nothing to choose, an event comes in the midst of no pass. -/
theorem duringPass_idle {s : State} {event : State → State} (h : s.passChooses = false) :
    duringPass event s = event s := by simp [duringPass, h]

/-- With no pass under way the event finds the state as it stands. -/
theorem duringPass_alone {s : State} {event : State → State} (h : s.passChooses = true) (ht : s.turn = false) :
    duringPass event s = event s.dropTurn := by simp [duringPass, h, ht]

/-- What every event and every change of bindings keeps, an event in the midst of a pass keeps. -/
theorem duringPass_keeps {s : State} {event : State → State} {P : State → Prop}
    (hb : ∀ t u : State, u.sansBinding = t.sansBinding → P t → P u) (he : ∀ t, P t → P (event t)) (h : P s) :
    P (duringPass event s) := by
  have hu := passUntil_sansBinding s.dropTurn (s.dropTurn.requests.length + 4) []
  have hd : P s.dropTurn := hb s _ rfl h
  unfold duringPass
  dsimp only [State.takeTurn]
  split
  · split
    · split
      · rename_i hp
        rw [hp] at hu
        exact hb _ _ (passFrom_sansBinding _ _ _) (he _ (hb _ _ hu hd))
      · rename_i hp
        rw [hp] at hu
        exact he _ (hb _ _ hu hd)
    · exact he _ hd
  · exact he _ h

/-- A pass changes bindings only. -/
@[simp] theorem pass_sansBinding : (pass s).sansBinding = s.sansBinding := passLoop_sansBinding s _ _

/-- A called pass changes bindings only, whenever it is made. -/
@[simp] theorem callPass_sansBinding : (callPass s).sansBinding = s.sansBinding := by
  by_cases h : s.turn = true <;> simp [callPass, h]

@[simp] theorem setReason_sansBinding (i : StreamNo) (r : Reason) : (setReason i r s).sansBinding = s.sansBinding := rfl

theorem settleKeptTime_sansBinding (kind : NotifyKind) (now : PaceCount) (r : StreamRec) :
    (settleKeptTime kind now r).sansBinding = r.sansBinding := by
  unfold settleKeptTime; split <;> rfl

/-- The arbiter's taking of a notification changes bindings only. -/
@[simp] theorem notify_sansBinding (kind : NotifyKind) (i : StreamNo) :
    (notify kind i s).sansBinding = s.sansBinding := by
  unfold notify
  dsimp only
  have h : (s.modStream i (settleKeptTime kind s.paceCount)).sansBinding = s.sansBinding :=
    sansBinding_modStream s i (settleKeptTime_sansBinding kind _)
  split
  · split <;> simp [h]
  · split <;> simp [h]

/-- A demand-change notification, at both its takers, changes bindings only. -/
@[simp] theorem demandChanged_sansBinding (i : StreamNo) : (demandChanged i s).sansBinding = s.sansBinding := by
  simp [demandChanged]

@[simp] theorem becomeDisabled_core (l : LaneNo) :
    (becomeDisabled l s).sansBinding = (s.modLane l fun r => { r with disablePending := false }).sansBinding :=
  sansBinding_modLane_congr (fun r r' h => by
    have : r.sansBinding.disablePending = r'.sansBinding.disablePending := congrArg _ h
    simp only [LaneRec.sansBinding] at h ⊢
    injection h
    simp only [*]) rfl l

/-- The pass on a join changes bindings only. -/
@[simp] theorem passOnJoin_sansBinding (joined : Bool) : (passOnJoin joined s).sansBinding = s.sansBinding := by
  cases joined <;> simp [passOnJoin]

/-- The arbiter's two events of a refusal change bindings only, in either order. -/
@[simp] theorem refusalReports_sansBinding (i : StreamNo) (joined : Bool) :
    (refusalReports i joined s).sansBinding = s.sansBinding := by
  cases joined <;> by_cases h : s.turn = true <;> simp [refusalReports, h]

/-- A lane that becomes FREE changes, beside bindings, its own group only. -/
theorem joinFreeList_sansBinding (l : LaneNo) :
    (joinFreeList l s).sansBinding = (s.modLane l fun r => { r with group := s.params.groupMap.read l }).sansBinding := by
  simp only [joinFreeList, setFree_sansBinding]
  exact sansBinding_modLane_congr (fun r r' h => by
    simp only [LaneRec.sansBinding] at h ⊢
    injection h
    simp only [*]) rfl l

/-! ### Fields that bindings leave -/

@[simp] theorem startRelease_pending (l : LaneNo) : (startRelease l s).pending = s.pending :=
  pending_of_sansBinding (startRelease_sansBinding s l)
@[simp] theorem startRelease_resetPin (l : LaneNo) : (startRelease l s).resetPin = s.resetPin :=
  resetPin_of_sansBinding (startRelease_sansBinding s l)
@[simp] theorem startRelease_paceCount (l : LaneNo) : (startRelease l s).paceCount = s.paceCount :=
  paceCount_of_sansBinding (startRelease_sansBinding s l)
@[simp] theorem startRelease_uncounted (l : LaneNo) : (startRelease l s).uncounted = s.uncounted :=
  uncounted_of_sansBinding (startRelease_sansBinding s l)
@[simp] theorem startRelease_unitLength (l : LaneNo) : (startRelease l s).unitLength = s.unitLength :=
  unitLength_of_sansBinding (startRelease_sansBinding s l)
@[simp] theorem startRelease_params (l : LaneNo) : (startRelease l s).params = s.params :=
  params_of_sansBinding (startRelease_sansBinding s l)
@[simp] theorem startRelease_stagedParams (l : LaneNo) : (startRelease l s).stagedParams = s.stagedParams :=
  stagedParams_of_sansBinding (startRelease_sansBinding s l)
@[simp] theorem startRelease_trunkUp (l : LaneNo) : (startRelease l s).trunkUp = s.trunkUp :=
  trunkUp_of_sansBinding (startRelease_sansBinding s l)
@[simp] theorem startRelease_trunkCommitPending (l : LaneNo) : (startRelease l s).trunkCommitPending = s.trunkCommitPending :=
  trunkCommitPending_of_sansBinding (startRelease_sansBinding s l)
@[simp] theorem startRelease_freeBuffers (l : LaneNo) : (startRelease l s).freeBuffers = s.freeBuffers :=
  freeBuffers_of_sansBinding (startRelease_sansBinding s l)
@[simp] theorem startRelease_record (l : LaneNo) : (startRelease l s).record = s.record :=
  record_of_sansBinding (startRelease_sansBinding s l)
@[simp] theorem startRelease_notices (l : LaneNo) : (startRelease l s).notices = s.notices :=
  notices_of_sansBinding (startRelease_sansBinding s l)
@[simp] theorem startRelease_reports (l : LaneNo) : (startRelease l s).reports = s.reports :=
  reports_of_sansBinding (startRelease_sansBinding s l)
@[simp] theorem startRelease_lastServed (l : LaneNo) : (startRelease l s).lastServed = s.lastServed :=
  lastServed_of_sansBinding (startRelease_sansBinding s l)
@[simp] theorem startRelease_inExecution (l : LaneNo) : (startRelease l s).inExecution = s.inExecution :=
  inExecution_of_sansBinding (startRelease_sansBinding s l)
@[simp] theorem startRelease_barred (l : LaneNo) : (startRelease l s).barred = s.barred :=
  barred_of_sansBinding (startRelease_sansBinding s l)
@[simp] theorem startRelease_owedVoid (l : LaneNo) : (startRelease l s).owedVoid = s.owedVoid :=
  owedVoid_of_sansBinding (startRelease_sansBinding s l)
@[simp] theorem startRelease_commitAnswer (l : LaneNo) : (startRelease l s).commitAnswer = s.commitAnswer :=
  commitAnswer_of_sansBinding (startRelease_sansBinding s l)
@[simp] theorem startRelease_ports (l : LaneNo) : (startRelease l s).ports = s.ports :=
  ports_of_sansBinding (startRelease_sansBinding s l)
@[simp] theorem judgeLane_pending (l : LaneNo) : (judgeLane l s).pending = s.pending :=
  pending_of_sansBinding (judgeLane_sansBinding s l)
@[simp] theorem judgeLane_resetPin (l : LaneNo) : (judgeLane l s).resetPin = s.resetPin :=
  resetPin_of_sansBinding (judgeLane_sansBinding s l)
@[simp] theorem judgeLane_paceCount (l : LaneNo) : (judgeLane l s).paceCount = s.paceCount :=
  paceCount_of_sansBinding (judgeLane_sansBinding s l)
@[simp] theorem judgeLane_uncounted (l : LaneNo) : (judgeLane l s).uncounted = s.uncounted :=
  uncounted_of_sansBinding (judgeLane_sansBinding s l)
@[simp] theorem judgeLane_unitLength (l : LaneNo) : (judgeLane l s).unitLength = s.unitLength :=
  unitLength_of_sansBinding (judgeLane_sansBinding s l)
@[simp] theorem judgeLane_params (l : LaneNo) : (judgeLane l s).params = s.params :=
  params_of_sansBinding (judgeLane_sansBinding s l)
@[simp] theorem judgeLane_stagedParams (l : LaneNo) : (judgeLane l s).stagedParams = s.stagedParams :=
  stagedParams_of_sansBinding (judgeLane_sansBinding s l)
@[simp] theorem judgeLane_trunkUp (l : LaneNo) : (judgeLane l s).trunkUp = s.trunkUp :=
  trunkUp_of_sansBinding (judgeLane_sansBinding s l)
@[simp] theorem judgeLane_trunkCommitPending (l : LaneNo) : (judgeLane l s).trunkCommitPending = s.trunkCommitPending :=
  trunkCommitPending_of_sansBinding (judgeLane_sansBinding s l)
@[simp] theorem judgeLane_freeBuffers (l : LaneNo) : (judgeLane l s).freeBuffers = s.freeBuffers :=
  freeBuffers_of_sansBinding (judgeLane_sansBinding s l)
@[simp] theorem judgeLane_record (l : LaneNo) : (judgeLane l s).record = s.record :=
  record_of_sansBinding (judgeLane_sansBinding s l)
@[simp] theorem judgeLane_notices (l : LaneNo) : (judgeLane l s).notices = s.notices :=
  notices_of_sansBinding (judgeLane_sansBinding s l)
@[simp] theorem judgeLane_reports (l : LaneNo) : (judgeLane l s).reports = s.reports :=
  reports_of_sansBinding (judgeLane_sansBinding s l)
@[simp] theorem judgeLane_lastServed (l : LaneNo) : (judgeLane l s).lastServed = s.lastServed :=
  lastServed_of_sansBinding (judgeLane_sansBinding s l)
@[simp] theorem judgeLane_inExecution (l : LaneNo) : (judgeLane l s).inExecution = s.inExecution :=
  inExecution_of_sansBinding (judgeLane_sansBinding s l)
@[simp] theorem judgeLane_barred (l : LaneNo) : (judgeLane l s).barred = s.barred :=
  barred_of_sansBinding (judgeLane_sansBinding s l)
@[simp] theorem judgeLane_owedVoid (l : LaneNo) : (judgeLane l s).owedVoid = s.owedVoid :=
  owedVoid_of_sansBinding (judgeLane_sansBinding s l)
@[simp] theorem judgeLane_commitAnswer (l : LaneNo) : (judgeLane l s).commitAnswer = s.commitAnswer :=
  commitAnswer_of_sansBinding (judgeLane_sansBinding s l)
@[simp] theorem judgeLane_ports (l : LaneNo) : (judgeLane l s).ports = s.ports :=
  ports_of_sansBinding (judgeLane_sansBinding s l)
@[simp] theorem judgeHeld_pending (i : StreamNo) : (judgeHeld i s).pending = s.pending :=
  pending_of_sansBinding (judgeHeld_sansBinding s i)
@[simp] theorem judgeHeld_resetPin (i : StreamNo) : (judgeHeld i s).resetPin = s.resetPin :=
  resetPin_of_sansBinding (judgeHeld_sansBinding s i)
@[simp] theorem judgeHeld_paceCount (i : StreamNo) : (judgeHeld i s).paceCount = s.paceCount :=
  paceCount_of_sansBinding (judgeHeld_sansBinding s i)
@[simp] theorem judgeHeld_uncounted (i : StreamNo) : (judgeHeld i s).uncounted = s.uncounted :=
  uncounted_of_sansBinding (judgeHeld_sansBinding s i)
@[simp] theorem judgeHeld_unitLength (i : StreamNo) : (judgeHeld i s).unitLength = s.unitLength :=
  unitLength_of_sansBinding (judgeHeld_sansBinding s i)
@[simp] theorem judgeHeld_params (i : StreamNo) : (judgeHeld i s).params = s.params :=
  params_of_sansBinding (judgeHeld_sansBinding s i)
@[simp] theorem judgeHeld_stagedParams (i : StreamNo) : (judgeHeld i s).stagedParams = s.stagedParams :=
  stagedParams_of_sansBinding (judgeHeld_sansBinding s i)
@[simp] theorem judgeHeld_trunkUp (i : StreamNo) : (judgeHeld i s).trunkUp = s.trunkUp :=
  trunkUp_of_sansBinding (judgeHeld_sansBinding s i)
@[simp] theorem judgeHeld_trunkCommitPending (i : StreamNo) : (judgeHeld i s).trunkCommitPending = s.trunkCommitPending :=
  trunkCommitPending_of_sansBinding (judgeHeld_sansBinding s i)
@[simp] theorem judgeHeld_freeBuffers (i : StreamNo) : (judgeHeld i s).freeBuffers = s.freeBuffers :=
  freeBuffers_of_sansBinding (judgeHeld_sansBinding s i)
@[simp] theorem judgeHeld_record (i : StreamNo) : (judgeHeld i s).record = s.record :=
  record_of_sansBinding (judgeHeld_sansBinding s i)
@[simp] theorem judgeHeld_notices (i : StreamNo) : (judgeHeld i s).notices = s.notices :=
  notices_of_sansBinding (judgeHeld_sansBinding s i)
@[simp] theorem judgeHeld_reports (i : StreamNo) : (judgeHeld i s).reports = s.reports :=
  reports_of_sansBinding (judgeHeld_sansBinding s i)
@[simp] theorem judgeHeld_lastServed (i : StreamNo) : (judgeHeld i s).lastServed = s.lastServed :=
  lastServed_of_sansBinding (judgeHeld_sansBinding s i)
@[simp] theorem judgeHeld_inExecution (i : StreamNo) : (judgeHeld i s).inExecution = s.inExecution :=
  inExecution_of_sansBinding (judgeHeld_sansBinding s i)
@[simp] theorem judgeHeld_barred (i : StreamNo) : (judgeHeld i s).barred = s.barred :=
  barred_of_sansBinding (judgeHeld_sansBinding s i)
@[simp] theorem judgeHeld_owedVoid (i : StreamNo) : (judgeHeld i s).owedVoid = s.owedVoid :=
  owedVoid_of_sansBinding (judgeHeld_sansBinding s i)
@[simp] theorem judgeHeld_commitAnswer (i : StreamNo) : (judgeHeld i s).commitAnswer = s.commitAnswer :=
  commitAnswer_of_sansBinding (judgeHeld_sansBinding s i)
@[simp] theorem judgeHeld_ports (i : StreamNo) : (judgeHeld i s).ports = s.ports :=
  ports_of_sansBinding (judgeHeld_sansBinding s i)
@[simp] theorem judgeGroup_pending (g : GroupNo) : (judgeGroup g s).pending = s.pending :=
  pending_of_sansBinding (judgeGroup_sansBinding s g)
@[simp] theorem judgeGroup_resetPin (g : GroupNo) : (judgeGroup g s).resetPin = s.resetPin :=
  resetPin_of_sansBinding (judgeGroup_sansBinding s g)
@[simp] theorem judgeGroup_paceCount (g : GroupNo) : (judgeGroup g s).paceCount = s.paceCount :=
  paceCount_of_sansBinding (judgeGroup_sansBinding s g)
@[simp] theorem judgeGroup_uncounted (g : GroupNo) : (judgeGroup g s).uncounted = s.uncounted :=
  uncounted_of_sansBinding (judgeGroup_sansBinding s g)
@[simp] theorem judgeGroup_unitLength (g : GroupNo) : (judgeGroup g s).unitLength = s.unitLength :=
  unitLength_of_sansBinding (judgeGroup_sansBinding s g)
@[simp] theorem judgeGroup_params (g : GroupNo) : (judgeGroup g s).params = s.params :=
  params_of_sansBinding (judgeGroup_sansBinding s g)
@[simp] theorem judgeGroup_stagedParams (g : GroupNo) : (judgeGroup g s).stagedParams = s.stagedParams :=
  stagedParams_of_sansBinding (judgeGroup_sansBinding s g)
@[simp] theorem judgeGroup_trunkUp (g : GroupNo) : (judgeGroup g s).trunkUp = s.trunkUp :=
  trunkUp_of_sansBinding (judgeGroup_sansBinding s g)
@[simp] theorem judgeGroup_trunkCommitPending (g : GroupNo) : (judgeGroup g s).trunkCommitPending = s.trunkCommitPending :=
  trunkCommitPending_of_sansBinding (judgeGroup_sansBinding s g)
@[simp] theorem judgeGroup_freeBuffers (g : GroupNo) : (judgeGroup g s).freeBuffers = s.freeBuffers :=
  freeBuffers_of_sansBinding (judgeGroup_sansBinding s g)
@[simp] theorem judgeGroup_record (g : GroupNo) : (judgeGroup g s).record = s.record :=
  record_of_sansBinding (judgeGroup_sansBinding s g)
@[simp] theorem judgeGroup_notices (g : GroupNo) : (judgeGroup g s).notices = s.notices :=
  notices_of_sansBinding (judgeGroup_sansBinding s g)
@[simp] theorem judgeGroup_reports (g : GroupNo) : (judgeGroup g s).reports = s.reports :=
  reports_of_sansBinding (judgeGroup_sansBinding s g)
@[simp] theorem judgeGroup_lastServed (g : GroupNo) : (judgeGroup g s).lastServed = s.lastServed :=
  lastServed_of_sansBinding (judgeGroup_sansBinding s g)
@[simp] theorem judgeGroup_inExecution (g : GroupNo) : (judgeGroup g s).inExecution = s.inExecution :=
  inExecution_of_sansBinding (judgeGroup_sansBinding s g)
@[simp] theorem judgeGroup_barred (g : GroupNo) : (judgeGroup g s).barred = s.barred :=
  barred_of_sansBinding (judgeGroup_sansBinding s g)
@[simp] theorem judgeGroup_owedVoid (g : GroupNo) : (judgeGroup g s).owedVoid = s.owedVoid :=
  owedVoid_of_sansBinding (judgeGroup_sansBinding s g)
@[simp] theorem judgeGroup_commitAnswer (g : GroupNo) : (judgeGroup g s).commitAnswer = s.commitAnswer :=
  commitAnswer_of_sansBinding (judgeGroup_sansBinding s g)
@[simp] theorem judgeGroup_ports (g : GroupNo) : (judgeGroup g s).ports = s.ports :=
  ports_of_sansBinding (judgeGroup_sansBinding s g)
@[simp] theorem removeEntry_pending (i : StreamNo) : (removeEntry i s).pending = s.pending :=
  pending_of_sansBinding (removeEntry_sansBinding s i)
@[simp] theorem removeEntry_resetPin (i : StreamNo) : (removeEntry i s).resetPin = s.resetPin :=
  resetPin_of_sansBinding (removeEntry_sansBinding s i)
@[simp] theorem removeEntry_paceCount (i : StreamNo) : (removeEntry i s).paceCount = s.paceCount :=
  paceCount_of_sansBinding (removeEntry_sansBinding s i)
@[simp] theorem removeEntry_uncounted (i : StreamNo) : (removeEntry i s).uncounted = s.uncounted :=
  uncounted_of_sansBinding (removeEntry_sansBinding s i)
@[simp] theorem removeEntry_unitLength (i : StreamNo) : (removeEntry i s).unitLength = s.unitLength :=
  unitLength_of_sansBinding (removeEntry_sansBinding s i)
@[simp] theorem removeEntry_params (i : StreamNo) : (removeEntry i s).params = s.params :=
  params_of_sansBinding (removeEntry_sansBinding s i)
@[simp] theorem removeEntry_stagedParams (i : StreamNo) : (removeEntry i s).stagedParams = s.stagedParams :=
  stagedParams_of_sansBinding (removeEntry_sansBinding s i)
@[simp] theorem removeEntry_trunkUp (i : StreamNo) : (removeEntry i s).trunkUp = s.trunkUp :=
  trunkUp_of_sansBinding (removeEntry_sansBinding s i)
@[simp] theorem removeEntry_trunkCommitPending (i : StreamNo) : (removeEntry i s).trunkCommitPending = s.trunkCommitPending :=
  trunkCommitPending_of_sansBinding (removeEntry_sansBinding s i)
@[simp] theorem removeEntry_freeBuffers (i : StreamNo) : (removeEntry i s).freeBuffers = s.freeBuffers :=
  freeBuffers_of_sansBinding (removeEntry_sansBinding s i)
@[simp] theorem removeEntry_record (i : StreamNo) : (removeEntry i s).record = s.record :=
  record_of_sansBinding (removeEntry_sansBinding s i)
@[simp] theorem removeEntry_notices (i : StreamNo) : (removeEntry i s).notices = s.notices :=
  notices_of_sansBinding (removeEntry_sansBinding s i)
@[simp] theorem removeEntry_reports (i : StreamNo) : (removeEntry i s).reports = s.reports :=
  reports_of_sansBinding (removeEntry_sansBinding s i)
@[simp] theorem removeEntry_lastServed (i : StreamNo) : (removeEntry i s).lastServed = s.lastServed :=
  lastServed_of_sansBinding (removeEntry_sansBinding s i)
@[simp] theorem removeEntry_inExecution (i : StreamNo) : (removeEntry i s).inExecution = s.inExecution :=
  inExecution_of_sansBinding (removeEntry_sansBinding s i)
@[simp] theorem removeEntry_barred (i : StreamNo) : (removeEntry i s).barred = s.barred :=
  barred_of_sansBinding (removeEntry_sansBinding s i)
@[simp] theorem removeEntry_owedVoid (i : StreamNo) : (removeEntry i s).owedVoid = s.owedVoid :=
  owedVoid_of_sansBinding (removeEntry_sansBinding s i)
@[simp] theorem removeEntry_commitAnswer (i : StreamNo) : (removeEntry i s).commitAnswer = s.commitAnswer :=
  commitAnswer_of_sansBinding (removeEntry_sansBinding s i)
@[simp] theorem removeEntry_ports (i : StreamNo) : (removeEntry i s).ports = s.ports :=
  ports_of_sansBinding (removeEntry_sansBinding s i)
@[simp] theorem joinList_pending (e : RequestEntry) : (joinList e s).pending = s.pending :=
  pending_of_sansBinding (joinList_sansBinding s e)
@[simp] theorem joinList_resetPin (e : RequestEntry) : (joinList e s).resetPin = s.resetPin :=
  resetPin_of_sansBinding (joinList_sansBinding s e)
@[simp] theorem joinList_paceCount (e : RequestEntry) : (joinList e s).paceCount = s.paceCount :=
  paceCount_of_sansBinding (joinList_sansBinding s e)
@[simp] theorem joinList_uncounted (e : RequestEntry) : (joinList e s).uncounted = s.uncounted :=
  uncounted_of_sansBinding (joinList_sansBinding s e)
@[simp] theorem joinList_unitLength (e : RequestEntry) : (joinList e s).unitLength = s.unitLength :=
  unitLength_of_sansBinding (joinList_sansBinding s e)
@[simp] theorem joinList_params (e : RequestEntry) : (joinList e s).params = s.params :=
  params_of_sansBinding (joinList_sansBinding s e)
@[simp] theorem joinList_stagedParams (e : RequestEntry) : (joinList e s).stagedParams = s.stagedParams :=
  stagedParams_of_sansBinding (joinList_sansBinding s e)
@[simp] theorem joinList_trunkUp (e : RequestEntry) : (joinList e s).trunkUp = s.trunkUp :=
  trunkUp_of_sansBinding (joinList_sansBinding s e)
@[simp] theorem joinList_trunkCommitPending (e : RequestEntry) : (joinList e s).trunkCommitPending = s.trunkCommitPending :=
  trunkCommitPending_of_sansBinding (joinList_sansBinding s e)
@[simp] theorem joinList_freeBuffers (e : RequestEntry) : (joinList e s).freeBuffers = s.freeBuffers :=
  freeBuffers_of_sansBinding (joinList_sansBinding s e)
@[simp] theorem joinList_record (e : RequestEntry) : (joinList e s).record = s.record :=
  record_of_sansBinding (joinList_sansBinding s e)
@[simp] theorem joinList_notices (e : RequestEntry) : (joinList e s).notices = s.notices :=
  notices_of_sansBinding (joinList_sansBinding s e)
@[simp] theorem joinList_reports (e : RequestEntry) : (joinList e s).reports = s.reports :=
  reports_of_sansBinding (joinList_sansBinding s e)
@[simp] theorem joinList_lastServed (e : RequestEntry) : (joinList e s).lastServed = s.lastServed :=
  lastServed_of_sansBinding (joinList_sansBinding s e)
@[simp] theorem joinList_inExecution (e : RequestEntry) : (joinList e s).inExecution = s.inExecution :=
  inExecution_of_sansBinding (joinList_sansBinding s e)
@[simp] theorem joinList_barred (e : RequestEntry) : (joinList e s).barred = s.barred :=
  barred_of_sansBinding (joinList_sansBinding s e)
@[simp] theorem joinList_owedVoid (e : RequestEntry) : (joinList e s).owedVoid = s.owedVoid :=
  owedVoid_of_sansBinding (joinList_sansBinding s e)
@[simp] theorem joinList_commitAnswer (e : RequestEntry) : (joinList e s).commitAnswer = s.commitAnswer :=
  commitAnswer_of_sansBinding (joinList_sansBinding s e)
@[simp] theorem joinList_ports (e : RequestEntry) : (joinList e s).ports = s.ports :=
  ports_of_sansBinding (joinList_sansBinding s e)
@[simp] theorem pass_pending : (pass s).pending = s.pending :=
  pending_of_sansBinding (pass_sansBinding s )
@[simp] theorem pass_resetPin : (pass s).resetPin = s.resetPin :=
  resetPin_of_sansBinding (pass_sansBinding s )
@[simp] theorem pass_paceCount : (pass s).paceCount = s.paceCount :=
  paceCount_of_sansBinding (pass_sansBinding s )
@[simp] theorem pass_uncounted : (pass s).uncounted = s.uncounted :=
  uncounted_of_sansBinding (pass_sansBinding s )
@[simp] theorem pass_unitLength : (pass s).unitLength = s.unitLength :=
  unitLength_of_sansBinding (pass_sansBinding s )
@[simp] theorem pass_params : (pass s).params = s.params :=
  params_of_sansBinding (pass_sansBinding s )
@[simp] theorem pass_stagedParams : (pass s).stagedParams = s.stagedParams :=
  stagedParams_of_sansBinding (pass_sansBinding s )
@[simp] theorem pass_trunkUp : (pass s).trunkUp = s.trunkUp :=
  trunkUp_of_sansBinding (pass_sansBinding s )
@[simp] theorem pass_trunkCommitPending : (pass s).trunkCommitPending = s.trunkCommitPending :=
  trunkCommitPending_of_sansBinding (pass_sansBinding s )
@[simp] theorem pass_freeBuffers : (pass s).freeBuffers = s.freeBuffers :=
  freeBuffers_of_sansBinding (pass_sansBinding s )
@[simp] theorem pass_record : (pass s).record = s.record :=
  record_of_sansBinding (pass_sansBinding s )
@[simp] theorem pass_notices : (pass s).notices = s.notices :=
  notices_of_sansBinding (pass_sansBinding s )
@[simp] theorem pass_reports : (pass s).reports = s.reports :=
  reports_of_sansBinding (pass_sansBinding s )
@[simp] theorem pass_lastServed : (pass s).lastServed = s.lastServed :=
  lastServed_of_sansBinding (pass_sansBinding s )
@[simp] theorem pass_inExecution : (pass s).inExecution = s.inExecution :=
  inExecution_of_sansBinding (pass_sansBinding s )
@[simp] theorem pass_barred : (pass s).barred = s.barred :=
  barred_of_sansBinding (pass_sansBinding s )
@[simp] theorem pass_owedVoid : (pass s).owedVoid = s.owedVoid :=
  owedVoid_of_sansBinding (pass_sansBinding s )
@[simp] theorem pass_commitAnswer : (pass s).commitAnswer = s.commitAnswer :=
  commitAnswer_of_sansBinding (pass_sansBinding s )
@[simp] theorem pass_ports : (pass s).ports = s.ports :=
  ports_of_sansBinding (pass_sansBinding s )
@[simp] theorem notify_pending (kind : NotifyKind) (i : StreamNo) : (notify kind i s).pending = s.pending :=
  pending_of_sansBinding (notify_sansBinding s kind i)
@[simp] theorem notify_resetPin (kind : NotifyKind) (i : StreamNo) : (notify kind i s).resetPin = s.resetPin :=
  resetPin_of_sansBinding (notify_sansBinding s kind i)
@[simp] theorem notify_paceCount (kind : NotifyKind) (i : StreamNo) : (notify kind i s).paceCount = s.paceCount :=
  paceCount_of_sansBinding (notify_sansBinding s kind i)
@[simp] theorem notify_uncounted (kind : NotifyKind) (i : StreamNo) : (notify kind i s).uncounted = s.uncounted :=
  uncounted_of_sansBinding (notify_sansBinding s kind i)
@[simp] theorem notify_unitLength (kind : NotifyKind) (i : StreamNo) : (notify kind i s).unitLength = s.unitLength :=
  unitLength_of_sansBinding (notify_sansBinding s kind i)
@[simp] theorem notify_params (kind : NotifyKind) (i : StreamNo) : (notify kind i s).params = s.params :=
  params_of_sansBinding (notify_sansBinding s kind i)
@[simp] theorem notify_stagedParams (kind : NotifyKind) (i : StreamNo) : (notify kind i s).stagedParams = s.stagedParams :=
  stagedParams_of_sansBinding (notify_sansBinding s kind i)
@[simp] theorem notify_trunkUp (kind : NotifyKind) (i : StreamNo) : (notify kind i s).trunkUp = s.trunkUp :=
  trunkUp_of_sansBinding (notify_sansBinding s kind i)
@[simp] theorem notify_trunkCommitPending (kind : NotifyKind) (i : StreamNo) : (notify kind i s).trunkCommitPending = s.trunkCommitPending :=
  trunkCommitPending_of_sansBinding (notify_sansBinding s kind i)
@[simp] theorem notify_freeBuffers (kind : NotifyKind) (i : StreamNo) : (notify kind i s).freeBuffers = s.freeBuffers :=
  freeBuffers_of_sansBinding (notify_sansBinding s kind i)
@[simp] theorem notify_record (kind : NotifyKind) (i : StreamNo) : (notify kind i s).record = s.record :=
  record_of_sansBinding (notify_sansBinding s kind i)
@[simp] theorem notify_notices (kind : NotifyKind) (i : StreamNo) : (notify kind i s).notices = s.notices :=
  notices_of_sansBinding (notify_sansBinding s kind i)
@[simp] theorem notify_reports (kind : NotifyKind) (i : StreamNo) : (notify kind i s).reports = s.reports :=
  reports_of_sansBinding (notify_sansBinding s kind i)
@[simp] theorem notify_lastServed (kind : NotifyKind) (i : StreamNo) : (notify kind i s).lastServed = s.lastServed :=
  lastServed_of_sansBinding (notify_sansBinding s kind i)
@[simp] theorem notify_inExecution (kind : NotifyKind) (i : StreamNo) : (notify kind i s).inExecution = s.inExecution :=
  inExecution_of_sansBinding (notify_sansBinding s kind i)
@[simp] theorem notify_barred (kind : NotifyKind) (i : StreamNo) : (notify kind i s).barred = s.barred :=
  barred_of_sansBinding (notify_sansBinding s kind i)
@[simp] theorem notify_owedVoid (kind : NotifyKind) (i : StreamNo) : (notify kind i s).owedVoid = s.owedVoid :=
  owedVoid_of_sansBinding (notify_sansBinding s kind i)
@[simp] theorem notify_commitAnswer (kind : NotifyKind) (i : StreamNo) : (notify kind i s).commitAnswer = s.commitAnswer :=
  commitAnswer_of_sansBinding (notify_sansBinding s kind i)
@[simp] theorem notify_ports (kind : NotifyKind) (i : StreamNo) : (notify kind i s).ports = s.ports :=
  ports_of_sansBinding (notify_sansBinding s kind i)
@[simp] theorem demandChanged_pending (i : StreamNo) : (demandChanged i s).pending = s.pending :=
  pending_of_sansBinding (demandChanged_sansBinding s i)
@[simp] theorem demandChanged_resetPin (i : StreamNo) : (demandChanged i s).resetPin = s.resetPin :=
  resetPin_of_sansBinding (demandChanged_sansBinding s i)
@[simp] theorem demandChanged_paceCount (i : StreamNo) : (demandChanged i s).paceCount = s.paceCount :=
  paceCount_of_sansBinding (demandChanged_sansBinding s i)
@[simp] theorem demandChanged_uncounted (i : StreamNo) : (demandChanged i s).uncounted = s.uncounted :=
  uncounted_of_sansBinding (demandChanged_sansBinding s i)
@[simp] theorem demandChanged_unitLength (i : StreamNo) : (demandChanged i s).unitLength = s.unitLength :=
  unitLength_of_sansBinding (demandChanged_sansBinding s i)
@[simp] theorem demandChanged_params (i : StreamNo) : (demandChanged i s).params = s.params :=
  params_of_sansBinding (demandChanged_sansBinding s i)
@[simp] theorem demandChanged_stagedParams (i : StreamNo) : (demandChanged i s).stagedParams = s.stagedParams :=
  stagedParams_of_sansBinding (demandChanged_sansBinding s i)
@[simp] theorem demandChanged_trunkUp (i : StreamNo) : (demandChanged i s).trunkUp = s.trunkUp :=
  trunkUp_of_sansBinding (demandChanged_sansBinding s i)
@[simp] theorem demandChanged_trunkCommitPending (i : StreamNo) : (demandChanged i s).trunkCommitPending = s.trunkCommitPending :=
  trunkCommitPending_of_sansBinding (demandChanged_sansBinding s i)
@[simp] theorem demandChanged_freeBuffers (i : StreamNo) : (demandChanged i s).freeBuffers = s.freeBuffers :=
  freeBuffers_of_sansBinding (demandChanged_sansBinding s i)
@[simp] theorem demandChanged_record (i : StreamNo) : (demandChanged i s).record = s.record :=
  record_of_sansBinding (demandChanged_sansBinding s i)
@[simp] theorem demandChanged_notices (i : StreamNo) : (demandChanged i s).notices = s.notices :=
  notices_of_sansBinding (demandChanged_sansBinding s i)
@[simp] theorem demandChanged_reports (i : StreamNo) : (demandChanged i s).reports = s.reports :=
  reports_of_sansBinding (demandChanged_sansBinding s i)
@[simp] theorem demandChanged_lastServed (i : StreamNo) : (demandChanged i s).lastServed = s.lastServed :=
  lastServed_of_sansBinding (demandChanged_sansBinding s i)
@[simp] theorem demandChanged_inExecution (i : StreamNo) : (demandChanged i s).inExecution = s.inExecution :=
  inExecution_of_sansBinding (demandChanged_sansBinding s i)
@[simp] theorem demandChanged_barred (i : StreamNo) : (demandChanged i s).barred = s.barred :=
  barred_of_sansBinding (demandChanged_sansBinding s i)
@[simp] theorem demandChanged_owedVoid (i : StreamNo) : (demandChanged i s).owedVoid = s.owedVoid :=
  owedVoid_of_sansBinding (demandChanged_sansBinding s i)
@[simp] theorem demandChanged_commitAnswer (i : StreamNo) : (demandChanged i s).commitAnswer = s.commitAnswer :=
  commitAnswer_of_sansBinding (demandChanged_sansBinding s i)
@[simp] theorem demandChanged_ports (i : StreamNo) : (demandChanged i s).ports = s.ports :=
  ports_of_sansBinding (demandChanged_sansBinding s i)

end Sys2Proof.Machine
end

