-- ==== Sys2Proof/Laws/Agent.lean ====
section
/-! SUPPORT. What the shared operations with turns can do: the agent's taking of a request (R145 to R147), a launch by its
claims (R88, R89), a called pass (R48). -/

namespace Sys2Proof.Machine

variable {s : State} {p : PortNo} {q : Request} {row : Request → Bool} {body : Body} {act : Action}

/-! ### The agent -/

/-- The agent takes a request only when none is in execution. -/
theorem inExecution_of_nextRequest {x : PortNo × Request} (h : s.nextRequest = some x) : s.inExecution = none := by
  unfold State.nextRequest at h
  split at h
  · cases h
  · cases hx : s.inExecution <;> simp_all

/-- The next request, of the command's row. -/
theorem serve_takes (h : s.nextRequest = some (p, q)) (hr : row q = true) :
    serve row body s = takeAndCheck p q body s := by
  simp [serve, inExecution_of_nextRequest h, h, hr]

/-- The next request, of another row. -/
theorem serve_other (h : s.nextRequest = some (p, q)) (hr : row q = false) : serve row body s = s := by
  simp [serve, inExecution_of_nextRequest h, h, hr]

/-- No request to take. -/
theorem serve_idle (hx : s.inExecution = none) (h : s.nextRequest = none) : serve row body s = s := by
  simp [serve, hx, h]

/-- The request in execution, of the command's row or of another. -/
theorem serve_inExecution {e : Execution} (h : s.inExecution = some e) :
    serve row body s = if row e.request then goOn e body s else s := by simp [serve, h]

/-- The response of a request in execution is placed. -/
theorem goOn_answer {e : Execution} {a : Reply} (h : e.answer = some a) :
    goOn e body s = respond e.port e.request a s := by simp [goOn, h]

@[simp] theorem takeRequest_turns : (takeRequest p q s).turns = s.turns := rfl
@[simp] theorem takeRequest_turn : (takeRequest p q s).turn = s.turn := rfl
@[simp] theorem takeRequest_lastServed : (takeRequest p q s).lastServed = p := rfl
@[simp] theorem takeRequest_inExecution : (takeRequest p q s).inExecution = some ⟨p, q, false, none⟩ := rfl
@[simp] theorem stream_takeRequest (i : StreamNo) : (takeRequest p q s).stream i = s.stream i := rfl
@[simp] theorem lane_takeRequest (l : LaneNo) : (takeRequest p q s).lane l = s.lane l := rfl

@[simp] theorem port_takeRequest_record (x : PortNo) : ((takeRequest p q s).port x).record = (s.port x).record :=
  port_modPort_keeps s (·.record) (f := fun r => { r with requests := r.requests.tail, reserved := true })
    (fun _ => rfl) p x

/-- A check of R146 that fails is answered at once. -/
theorem takeAndCheck_privilege {status : Status} (h : privilegeFailure (s.port p).record.level q = some status) :
    takeAndCheck p q body s = refuseRequest p q status (takeRequest p q s) := by
  simp [takeAndCheck, h]

theorem takeAndCheck_error {status : Status} (h : privilegeFailure (s.port p).record.level q = none)
    (hb : body p q = .error status) : takeAndCheck p q body s = refuseRequest p q status (takeRequest p q s) := by
  simp [takeAndCheck, h, hb]

/-- With nothing between its claims, a request that passes the checks is concluded in one step. -/
theorem takeAndCheck_ok (h : privilegeFailure (s.port p).record.level q = none) (hb : body p q = .ok act)
    (ht : s.turn = false) : takeAndCheck p q body s = conclude p q act (takeRequest p q s).dropTurn := by
  simp [takeAndCheck, h, hb, startExecution, ht]

/-- With other events between them, it stays in execution; a READ is read. -/
theorem takeAndCheck_gap (h : privilegeFailure (s.port p).record.level q = none) (hb : body p q = .ok act)
    (ht : s.turn = true) :
    takeAndCheck p q body s =
      if readsOnly q then claimOnly p act (takeRequest p q s).dropTurn else (takeRequest p q s).dropTurn := by
  simp [takeAndCheck, h, hb, startExecution, ht]

/-! ### Launches -/

/-- A slot with a launch in flight goes on with it on a lane that carries its stream, and else reads the lane afresh. -/
theorem laneSlot_launching {l : LaneNo} {i : StreamNo} (h : (s.lane l).launching = some i) :
    laneSlot l s = if s.carries l i then launchCredit l i s else readSlot l s := by simp [laneSlot, h]

/-- A slot with no launch in flight reads the lane. -/
theorem laneSlot_first {l : LaneNo} (h : (s.lane l).launching = none) : laneSlot l s = readSlot l s := by
  simp [laneSlot, h]

/-- A launch whose queue has become empty leaves FILL (R89). -/
theorem launchCell_fails {l : LaneNo} {i : StreamNo} (h : (s.stream i).queue = []) :
    launchCell l i s = sendFill l s := by simp [launchCell, takeHead, h]

/-- A credit claim at credit 0 is refused, with FILL in the slot (R89). -/
theorem launchCredit_refused {l : LaneNo} {i : StreamNo} (h : (s.stream i).credit = 0) :
    launchCredit l i s = sendFill l s := by simp [launchCredit, consumeCredit, h]

/-! ### Events among the claims of launches -/

/-- With no launch in flight of the streams it flushes, an event stands alone. -/
theorem duringLaunches_none {which : StreamNo → Bool} {event : State → State} (h : s.launches which = []) :
    duringLaunches which event s = event s := by simp [duringLaunches, chargeLaunches, h]

/-- With no launch in flight of the streams whose credit it takes, an event stands alone. -/
theorem beforeCredit_none {which : StreamNo → Bool} {event : State → State} (h : s.launches which = []) :
    beforeCredit which event s = event s := by simp [beforeCredit, h]

/-- A launch whose queue has been flushed leaves FILL, and so does one whose stream has no credit left (R89). -/
theorem endLaunch_fails {charged : List (LaneNo × StreamNo)} {f : LaneNo × StreamNo}
    (hq : (s.stream f.2).queue = []) (hc : (s.stream f.2).credit = 0) :
    endLaunch charged s f = sendFill f.1 s := by
  simp [endLaunch, launchCell_fails hq, hc]

/-- A launch whose credit claim was granted before the event goes on with its take-head claim (R88). -/
theorem endLaunch_charged {charged : List (LaneNo × StreamNo)} {f : LaneNo × StreamNo} (h : f ∈ charged) :
    endLaunch charged s f = launchCell f.1 f.2 s := by simp [endLaunch, h]

/-- A launch that had not claimed its credit is left as the event has left it, where credit remains. -/
theorem endLaunch_uncharged {charged : List (LaneNo × StreamNo)} {f : LaneNo × StreamNo} (h : f ∉ charged)
    (hc : (s.stream f.2).credit ≠ 0) : endLaunch charged s f = s := by simp [endLaunch, h, hc]

/-- With no launch in flight and no pass that could be under way, the loss of the trunk stands alone. -/
theorem loseTrunk_alone (hl : (s.launches fun _ => true) = []) (hp : s.passChooses = false) :
    loseTrunk s = trunkDown s := by simp [loseTrunk, duringLaunches_none hl, duringPass_idle hp]

/-! ### Arrivals -/

/-- A cell finds no arrival in flight on its port. -/
theorem trafficCell_first {c : TrafficCell} (h : (s.port p).arriving = none) :
    trafficCell p c s = onEdgeCell p (admitArrival p c) s := by simp [trafficCell, h]

/-- The cell of an arrival in flight ends it. -/
theorem trafficCell_again {a : Arrival} (h : (s.port p).arriving = some a) :
    trafficCell p a.cell s = offerArrival p a s := by simp [trafficCell, h]

/-! ### A counting that waits -/

theorem countFirst_counted (h : s.uncounted = false) : countFirst s = s := by simp [countFirst, h]

/-- With no counting waiting, a command out of reset has its effect on the state as it stands. -/
theorem running_counted {f : State → State} (hp : s.resetPin = false) (h : s.uncounted = false) :
    running f s = .next (f s) := by simp [running, atStroke, hp, countFirst_counted h]

/-! ### Called passes -/

theorem callPass_now (h : s.turn = false) : callPass s = pass s.dropTurn := by simp [callPass, h]

theorem callPass_later (h : s.turn = true) : callPass s = s.dropTurn := by simp [callPass, h]

end Sys2Proof.Machine
end

