-- ==== Sys2Proof/Laws/Cells.lean ====
section
/-! SUPPORT. What the octets of a receive pair are (R160): the search and the aligned cells do not depend on the fuel. -/

namespace Sys2Proof

variable {gain : Instr} {command : Cell → Instr}

/-- A boundary lies so far from the end that its six cells fit. -/
theorem length_of_firstBoundary {octets : List Byte} {k : Nat} (h : firstBoundary octets = some k) :
    k + 64 * Config.cellsToAlign ≤ octets.length := by
  have hb := List.find?_some h
  simp only [boundaryAt, Bool.and_eq_true, decide_eq_true_eq] at hb
  exact hb.1

/-- No octets are no commands. -/
@[simp] theorem receive_nil (n : Nat) (run : Option Nat) : receive gain command n run [] = [] := by
  cases n <;> cases run <;> simp [receive, firstBoundary]

/-- Any fuel of at least the number of octets gives the same commands. -/
theorem receive_fuel {n m : Nat} {octets : List Byte} (run : Option Nat) (hn : octets.length ≤ n)
    (hm : octets.length ≤ m) : receive gain command n run octets = receive gain command m run octets := by
  induction n generalizing m octets run with
  | zero =>
    obtain rfl : octets = [] := List.length_eq_zero_iff.mp (Nat.le_zero.mp hn)
    simp
  | succ n ih =>
    cases m with
    | zero =>
      obtain rfl : octets = [] := List.length_eq_zero_iff.mp (Nat.le_zero.mp hm)
      simp
    | succ m =>
      cases run with
      | none =>
        simp only [receive]
        split
        · next k hk =>
          have := length_of_firstBoundary hk
          have hc : Config.cellsToAlign = 6 := rfl
          rw [ih (some 0) (m := m) (by simp only [List.length_drop]; omega) (by simp only [List.length_drop]; omega)]
        · rfl
      | some failures =>
        simp only [receive]
        split
        · rfl
        · rw [ih _ (m := m) (by simp only [List.length_drop]; omega) (by simp only [List.length_drop]; omega)]

end Sys2Proof
end

