-- ==== Sys2Proof/Laws/Notices.lean ====
section
/-! SUPPORT. What a raise does: the entry it counts or creates, the entries it leaves, the reports it queues, and the
frame of it all. -/

namespace Sys2Proof.Machine

variable (s : State)

theorem StreamCause.bit_inj {a b : StreamCause} : a.bit = b.bit ↔ a = b := by cases a <;> cases b <;> decide
theorem LaneCause.bit_inj {a b : LaneCause} : a.bit = b.bit ↔ a = b := by cases a <;> cases b <;> decide
theorem PortCause.bit_inj {a b : PortCause} : a.bit = b.bit ↔ a = b := by cases a <;> cases b <;> decide
theorem DeviceCause.bit_inj {a b : DeviceCause} : a.bit = b.bit ↔ a = b := by cases a <;> cases b <;> decide

/-! ### Entries -/

theorem entry_setEntry (pt pt' : CausePoint) (e : Option NoticeEntry) :
    (s.setEntry pt e).entry pt' = if pt = pt' then e else s.entry pt' := by
  cases pt with
  | device c =>
    cases pt' <;> simp [State.setEntry, State.entry, State.port, State.lane, State.stream, Table.read_write,
      DeviceCause.bit_inj]
  | port p c =>
    cases pt' with
    | port p' c' =>
      by_cases hp : p = p'
      · subst hp; simp [State.setEntry, State.entry, Table.read_write, PortCause.bit_inj]
      · simp [State.setEntry, State.entry, hp]
    | _ => simp [State.setEntry, State.entry]
  | lane l c =>
    cases pt' with
    | lane l' c' =>
      by_cases hl : l = l'
      · subst hl; simp [State.setEntry, State.entry, Table.read_write, LaneCause.bit_inj]
      · simp [State.setEntry, State.entry, hl]
    | _ => simp [State.setEntry, State.entry]
  | stream i c =>
    cases pt' with
    | stream i' c' =>
      by_cases hi : i = i'
      · subst hi; simp [State.setEntry, State.entry, Table.read_write, StreamCause.bit_inj]
      · simp [State.setEntry, State.entry, hi]
    | _ => simp [State.setEntry, State.entry]

@[simp] theorem entry_setEntry_same (pt : CausePoint) (e : Option NoticeEntry) : (s.setEntry pt e).entry pt = e := by
  simp [entry_setEntry]

theorem entry_setEntry_ne {pt pt' : CausePoint} (h : pt ≠ pt') (e : Option NoticeEntry) :
    (s.setEntry pt e).entry pt' = s.entry pt' := by simp [entry_setEntry, h]

theorem setEntry_sansNotices (pt : CausePoint) (e : Option NoticeEntry) :
    (s.setEntry pt e).sansNotices = s.sansNotices := by
  cases pt with
  | device c => rfl
  | port p c => exact sansNotices_modPort s p fun _ => rfl
  | lane l c => exact sansNotices_modLane s l fun _ => rfl
  | stream i c => exact sansNotices_modStream s i fun _ => rfl

@[simp] theorem setEntry_reports (pt : CausePoint) (e : Option NoticeEntry) :
    (s.setEntry pt e).reports = s.reports := by cases pt <;> rfl

@[simp] theorem setEntry_params (pt : CausePoint) (e : Option NoticeEntry) :
    (s.setEntry pt e).params = s.params := by cases pt <;> rfl

@[simp] theorem setEntry_paceCount (pt : CausePoint) (e : Option NoticeEntry) :
    (s.setEntry pt e).paceCount = s.paceCount := by cases pt <;> rfl
@[simp] theorem setEntry_uncounted (pt : CausePoint) (e : Option NoticeEntry) :
    (s.setEntry pt e).uncounted = s.uncounted := by cases pt <;> rfl

/-- The entries do not depend on the report queue. -/
@[simp] theorem entry_reports (rs : List Report) (pt : CausePoint) : { s with reports := rs }.entry pt = s.entry pt := by
  cases pt <;> rfl

@[simp] theorem causeEnabled_setEntry (pt pt' : CausePoint) (e : Option NoticeEntry) :
    (s.setEntry pt e).causeEnabled pt' = s.causeEnabled pt' := by
  cases pt' with
  | stream i c =>
    exact (congrArg (fun r : StreamRec => r.config.reportMask.getLsbD c.bit.val)
      (stream_of_sansNotices (setEntry_sansNotices s pt e) i) :)
  | _ => simp [State.causeEnabled]

/-! ### The parts of a raise -/

theorem countAgain_sansNotices (pt : CausePoint) (e : NoticeEntry) :
    (countAgain pt e s).sansNotices = s.sansNotices := setEntry_sansNotices s pt _

theorem createEntry_sansNotices (pt : CausePoint) : (createEntry pt s).sansNotices = s.sansNotices :=
  setEntry_sansNotices s pt _

theorem queueReport_sansNotices (pt : CausePoint) : (queueReport pt s).sansNotices = s.sansNotices := rfl

theorem raiseReportLost_sansNotices : (raiseReportLost s).sansNotices = s.sansNotices := by
  unfold raiseReportLost
  split
  · exact countAgain_sansNotices s _ _
  · dsimp only
    split
    · rw [queueReport_sansNotices, createEntry_sansNotices]
    · exact createEntry_sansNotices s _

theorem raiseOrdinary_sansNotices (pt : CausePoint) : (raiseOrdinary pt s).sansNotices = s.sansNotices := by
  unfold raiseOrdinary
  split
  · exact countAgain_sansNotices s _ _
  · dsimp only
    split
    · split
      · rw [queueReport_sansNotices, createEntry_sansNotices]
      · rw [raiseReportLost_sansNotices, createEntry_sansNotices]
    · exact createEntry_sansNotices s _

/-- A raise changes notice sets and the report queue only. -/
@[simp] theorem raise_sansNotices (pt : CausePoint) : (raise pt s).sansNotices = s.sansNotices := by
  unfold raise
  split
  · exact raiseReportLost_sansNotices s
  · exact raiseOrdinary_sansNotices s pt

theorem removeNotice_sansNotices (pt : CausePoint) : (removeNotice pt s).sansNotices = s.sansNotices :=
  setEntry_sansNotices s pt _

/-! ### What a raise does to the entries -/

theorem entry_countAgain (pt pt' : CausePoint) (e : NoticeEntry) :
    (countAgain pt e s).entry pt' = if pt = pt' then some (raisedEntry s.paceCount (some e)) else s.entry pt' := by
  simp only [countAgain, entry_reports, entry_setEntry]
  rfl

theorem entry_createEntry (pt pt' : CausePoint) :
    (createEntry pt s).entry pt' = if pt = pt' then some (raisedEntry s.paceCount none) else s.entry pt' := by
  simp only [createEntry, entry_setEntry]
  rfl

@[simp] theorem entry_queueReport (pt pt' : CausePoint) : (queueReport pt s).entry pt' = s.entry pt' := by
  simp [queueReport]

theorem entry_raiseReportLost (pt : CausePoint) :
    (raiseReportLost s).entry pt =
      if reportLostPoint = pt then some (raisedEntry s.paceCount (s.entry pt)) else s.entry pt := by
  unfold raiseReportLost
  split
  · rename_i e he
    rw [entry_countAgain]
    split
    · subst_vars; rw [he]
    · rfl
  · rename_i he
    have hc := entry_createEntry s reportLostPoint pt
    have : (if reportLostPoint = pt then some (raisedEntry s.paceCount none) else s.entry pt) =
        if reportLostPoint = pt then some (raisedEntry s.paceCount (s.entry pt)) else s.entry pt := by
      split
      · subst_vars; rw [he]
      · rfl
    dsimp only
    split
    · rw [entry_queueReport, hc, this]
    · rw [hc, this]

/-- A raise counts or creates the entry of its cause (R132) and leaves every other entry but that of REPORT_LOST. -/
theorem entry_raise (pt pt' : CausePoint) (h : pt' ≠ reportLostPoint) :
    (raise pt s).entry pt' = if pt = pt' then some (raisedEntry s.paceCount (s.entry pt')) else s.entry pt' := by
  unfold raise
  split
  · subst_vars
    rw [entry_raiseReportLost]
  · unfold raiseOrdinary
    split
    · rename_i e he
      rw [entry_countAgain]
      split
      · subst_vars; rw [he]
      · rfl
    · rename_i he
      have hc := entry_createEntry s pt pt'
      have this : (if pt = pt' then some (raisedEntry s.paceCount none) else s.entry pt') =
          if pt = pt' then some (raisedEntry s.paceCount (s.entry pt')) else s.entry pt' := by
        split
        · subst_vars; rw [he]
        · rfl
      dsimp only
      split
      · split
        · rw [entry_queueReport, hc, this]
        · rw [entry_raiseReportLost, if_neg (Ne.symm h), hc, this]
      · rw [hc, this]

/-- A raise counts or creates the entry of its own cause. -/
theorem entry_raise_same (pt : CausePoint) :
    (raise pt s).entry pt = some (raisedEntry s.paceCount (s.entry pt)) := by
  by_cases h : pt = reportLostPoint
  · subst h
    rw [raise, if_pos rfl, entry_raiseReportLost, if_pos rfl]
  · rw [entry_raise s pt pt h, if_pos rfl]

/-! ### Fields that a raise keeps -/

@[simp] theorem raise_pending (pt : CausePoint) : (raise pt s).pending = s.pending :=
  pending_of_sansNotices (raise_sansNotices s pt)
@[simp] theorem raise_turns (pt : CausePoint) : (raise pt s).turns = s.turns :=
  turns_of_sansNotices (raise_sansNotices s pt)
@[simp] theorem raise_resetPin (pt : CausePoint) : (raise pt s).resetPin = s.resetPin :=
  resetPin_of_sansNotices (raise_sansNotices s pt)
@[simp] theorem raise_paceCount (pt : CausePoint) : (raise pt s).paceCount = s.paceCount :=
  paceCount_of_sansNotices (raise_sansNotices s pt)
@[simp] theorem raise_uncounted (pt : CausePoint) : (raise pt s).uncounted = s.uncounted :=
  uncounted_of_sansNotices (raise_sansNotices s pt)
@[simp] theorem raise_unitLength (pt : CausePoint) : (raise pt s).unitLength = s.unitLength :=
  unitLength_of_sansNotices (raise_sansNotices s pt)
@[simp] theorem raise_params (pt : CausePoint) : (raise pt s).params = s.params :=
  params_of_sansNotices (raise_sansNotices s pt)
@[simp] theorem raise_stagedParams (pt : CausePoint) : (raise pt s).stagedParams = s.stagedParams :=
  stagedParams_of_sansNotices (raise_sansNotices s pt)
@[simp] theorem raise_trunkUp (pt : CausePoint) : (raise pt s).trunkUp = s.trunkUp :=
  trunkUp_of_sansNotices (raise_sansNotices s pt)
@[simp] theorem raise_trunkCommitPending (pt : CausePoint) : (raise pt s).trunkCommitPending = s.trunkCommitPending :=
  trunkCommitPending_of_sansNotices (raise_sansNotices s pt)
@[simp] theorem raise_freeBuffers (pt : CausePoint) : (raise pt s).freeBuffers = s.freeBuffers :=
  freeBuffers_of_sansNotices (raise_sansNotices s pt)
@[simp] theorem raise_requests (pt : CausePoint) : (raise pt s).requests = s.requests :=
  requests_of_sansNotices (raise_sansNotices s pt)
@[simp] theorem raise_waiting (pt : CausePoint) : (raise pt s).waiting = s.waiting :=
  waiting_of_sansNotices (raise_sansNotices s pt)
@[simp] theorem raise_freeLanes (pt : CausePoint) : (raise pt s).freeLanes = s.freeLanes :=
  freeLanes_of_sansNotices (raise_sansNotices s pt)
@[simp] theorem raise_budget (pt : CausePoint) : (raise pt s).budget = s.budget :=
  budget_of_sansNotices (raise_sansNotices s pt)
@[simp] theorem raise_spacing (pt : CausePoint) : (raise pt s).spacing = s.spacing :=
  spacing_of_sansNotices (raise_sansNotices s pt)
@[simp] theorem raise_record (pt : CausePoint) : (raise pt s).record = s.record :=
  record_of_sansNotices (raise_sansNotices s pt)
@[simp] theorem raise_lastServed (pt : CausePoint) : (raise pt s).lastServed = s.lastServed :=
  lastServed_of_sansNotices (raise_sansNotices s pt)
@[simp] theorem raise_inExecution (pt : CausePoint) : (raise pt s).inExecution = s.inExecution :=
  inExecution_of_sansNotices (raise_sansNotices s pt)
@[simp] theorem raise_barred (pt : CausePoint) : (raise pt s).barred = s.barred :=
  barred_of_sansNotices (raise_sansNotices s pt)
@[simp] theorem raise_owedVoid (pt : CausePoint) : (raise pt s).owedVoid = s.owedVoid :=
  owedVoid_of_sansNotices (raise_sansNotices s pt)
@[simp] theorem raise_commitAnswer (pt : CausePoint) : (raise pt s).commitAnswer = s.commitAnswer :=
  commitAnswer_of_sansNotices (raise_sansNotices s pt)

end Sys2Proof.Machine
end

