-- ==== Sys2Proof/Tests/Slice0.lean ====
section
/-! SUPPORT. Tests: the checks of WellFormed refuse ill-formed commands, cells written out octet by octet, one step of
each command on a small state, and for each statement states that meet its hypotheses. -/

namespace Sys2Proof.Tests

open Sys2Proof Sys2Proof.Machine

set_option Elab.async false

/-! ### Small states -/

/-- A stream configuration: edge port E0, group G0, queue limit 2, reload 3, lead point 1, cap 2, hold time 4. -/
def image : StreamImage where
  sourcePort := 0
  group := 0
  queueLimit := 2
  reload := 3
  leadPoint := some 1
  creditCap := 2
  initialCredit := 1
  holdTime := 4
  sequenceCheck := true
  runAtOpen := true
  reportMask := 0x3F

/-- A traffic cell of stream 1. -/
def cell (sequence : Byte) : TrafficCell := ⟨1, sequence, 0, octetTable 56 [0xAA]⟩

/-- The trunk UP, every lane FREE in its group's list, edge port E0 UP. -/
def ready : State :=
  ({ State.reset with
    trunkUp := true
    lanes := State.reset.lanes.mapAll fun (r : LaneRec) => { r with aligned := true, state := .free }
    freeLanes := ⟨⟨[[0, 1, 2, 3], [4, 5, 6, 7], [8, 9, 10, 11], [12, 13, 14, 15]]⟩, rfl⟩ }).modPort 0
      fun r => { r with aligned := true }

/-- Stream 1 with this configuration and one credit, in a life state, with a queue. -/
def streamIn (life : Life) (queue : List TrafficCell) (s : State) : State :=
  { s with freeBuffers := s.freeBuffers - queue.length }.modStream 1 fun r =>
    { r with
      config := image
      generation := 1
      life := life
      credit := 1
      count := 3
      timer := .running
      queue := queue
      expected := some 1 }

/-- Stream 1 OPEN with an empty queue; with one queued cell. -/
def opened : State := streamIn .opened [] ready
def queued : State := streamIn .opened [cell 0] ready

/-- Lane 0 in a lane state with an outstanding request, held by stream 1, out of its free-lane list. -/
def holding (state : LaneState) (outstanding : Option Handshake) (s : State) : State :=
  ((s.modLane 0 fun r =>
      { r with state := state, holder := some 1, tag := 1, outstanding := outstanding }).modStream 1
      fun r => { r with heldLane := some 0 }).setFree 0 [1, 2, 3]

/-- Stream 1 holds lane 0, BOUND, BINDING or UNBINDING. -/
def bound (s : State) : State := holding .bound none s
def binding (s : State) : State := holding .binding (some .bind) s
def unbinding (s : State) : State := holding .unbinding (some .release) s

/-- A lane in a state that needs no holder. -/
def laneIn (l : LaneNo) (state : LaneState) (outstanding : Option Handshake) (s : State) : State :=
  s.modLane l fun r => { r with state := state, outstanding := outstanding }

/-- An entry for stream 1 in group 0. -/
def listed (s : State) : State := { s with requests := [⟨1, 0, .demand, 0⟩], waiting := s.waiting.write 0 true }

/-- A request and its waiting at the head of edge port E0's queue. -/
def request (code : Byte) (octets : List Byte) : Request := ⟨code, 7, octetTable 56 octets⟩
def asking (code : Byte) (octets : List Byte) (s : State) : State :=
  s.modPort 0 fun r => { r with requests := [request code octets] }

/-- With this request waiting, the agent takes it next, at edge port E0 and at level FULL, in one step, and `h` holds
of the state and the request. -/
abbrev Asked (code : Byte) (octets : List Byte) (s : State) (h : State → Request → Prop) : Prop :=
  let t := asking code octets s
  t.resetPin = false ∧ t.uncounted = false ∧ t.nextRequest = some (0, request code octets) ∧ t.turn = false
    ∧ (t.port 0).record.level = .full ∧ h t (request code octets)

/-- The state after a command; every command answers a next state. -/
def after (c : Instr) (s : State) : State :=
  match exec c s with
  | .next t => t
  | .fault _ => s
  | .refused _ => s

/-- The last response of edge port E0: its status and its first octets from octet 2. -/
def answered (n : Nat) (s : State) : Option (Status × List Byte) :=
  (s.port 0).responses.getLast?.map fun a => (a.status, (a.payload.toList.drop 2).take n)

/-! ### WellFormed refuses ill-formed commands -/

/-- EDGE_BAD_KIND_CELL of a kind that an edge port takes. -/
theorem test_refuses_taken_edge_kind : (Instr.edgeBadKindCell 0 0x2).wellFormed = false := by decide

/-- TRUNK_OTHER_KIND_CELL of a kind that the trunk takes. -/
theorem test_refuses_taken_trunk_kind : (Instr.trunkOtherKindCell 0 0x6).wellFormed = false := by decide

/-- BIND_ACK_UNKNOWN_CODE of the code ACCEPT. -/
theorem test_refuses_known_bind_code : (Instr.bindAckUnknownCode 0 1 0x01).wellFormed = false := by decide

/-! ### Cells written out octet by octet (R165 to R168) -/

/-- A header of six zero octets has the check 0x0E10 (R165). -/
theorem test_header_check : headerCheck [0, 0, 0, 0, 0, 0] = 0x0E10 := by decide +kernel

/-- FILL on lane 0, as sent: an all-zero header and its check. -/
theorem test_fill_cell : ((fillCell 0).toList.take 9) = [0, 0, 0, 0, 0, 0, 0x0E, 0x10, 0] := by decide +kernel

/-- An all-zero cell with its check is FILL, on an edge port and on a lane; with another check it fails. -/
theorem test_fill_arrives :
    commandOfEdgeCell 2 (octetTable 64 [0, 0, 0, 0, 0, 0, 0x0E, 0x10]) = .edgeFillCell 2
      ∧ commandOfTrunkCell 3 (octetTable 64 [0, 0, 0, 0, 0, 0, 0x0E, 0x10]) = .trunkFillCell 3
      ∧ commandOfEdgeCell 2 (octetTable 64 [0, 0, 0, 0, 0, 0, 0x0E, 0x11]) = .edgeBadCheckCell 2
      ∧ commandOfTrunkCell 3 (octetTable 64 [0, 0, 0, 0, 0, 0, 0x0E, 0x11]) = .trunkBadCheckCell 3 := by
  decide +kernel

/-- The octets of a traffic header of stream 300, sequence 7, flags 5: kind and flags in octet 0, stream bit 8 in octet
1, the low stream octet in octet 2. -/
theorem test_traffic_header :
    (Header.mk 0x1 0x5 0 300 7 0 0).octets = [0x15, 0x01, 0x2C, 0x07, 0x00, 0x00]
      ∧ (Header.mk 0xC 0x0 9 0 0 4 0x02).octets = [0xC0, 0x90, 0x00, 0x00, 0x04, 0x02] := by decide

/-- Those octets with their check are a traffic cell on an edge port and a BIND-ACK REFUSE on a lane. -/
theorem test_cells_arrive :
    (let h := Header.mk 0x1 0x5 0 300 7 0 0
     commandOfEdgeCell 1 (formCell h (octetTable 56 [9])) = .trafficCellArrival 1 ⟨300, 7, 0x5, octetTable 56 [9]⟩)
      ∧ commandOfTrunkCell 9 (formCell (Header.mk 0xC 0 9 0 0 4 0x02) (octetTable 56 []))
          = .bindAckRefuse 9 4 := by decide +kernel

/-- Six FILL cells after three other octets: the boundary is found at octet 3, and the sixth gains alignment (R160,
R162). Five are not enough. -/
theorem test_boundary_found :
    (let fill : List Byte := [0, 0, 0, 0, 0, 0, 0x0E, 0x10] ++ List.replicate 56 0
     commandsOfEdgeOctets 2 ([1, 2, 3] ++ (List.replicate 6 fill).flatten)
         = List.replicate 6 (.edgeFillCell 2) ++ [.edgeLinkUp 2]
       ∧ commandsOfTrunkOctets 5 ([1, 2, 3] ++ (List.replicate 5 fill).flatten) = []) := by decide +kernel

/-- After seven failures in a row the receiver hunts again: six more FILL cells align it anew (R160, R162; log 14). -/
theorem test_boundary_regained :
    (let fill : List Byte := [0, 0, 0, 0, 0, 0, 0x0E, 0x10] ++ List.replicate 56 0
     let bad : List Byte := [0, 0, 0, 0, 0, 0, 0x0E, 0x11] ++ List.replicate 56 0
     let octets := (List.replicate 6 fill).flatten ++ (List.replicate 7 bad).flatten ++ (List.replicate 6 fill).flatten
     let link := List.replicate 6 (.edgeFillCell 2) ++ [.edgeLinkUp 2]
     let lane := List.replicate 6 (.trunkFillCell 5) ++ [.laneAligned 5]
     commandsOfEdgeOctets 2 octets = link ++ List.replicate 7 (.edgeBadCheckCell 2) ++ link
       ∧ commandsOfTrunkOctets 5 octets = lane ++ List.replicate 7 (.trunkBadCheckCell 5) ++ lane) := by decide +kernel

/-- No row of the opcode table gives bits. -/
theorem test_no_row_gives_bits : decodeTableWord 32 0 = none := rfl

/-! ### One step of each command -/

/-- Reset by the pin: the sender's queue is kept, everything else is at reset. -/
theorem test_power_on_reset :
    (after .powerOnReset opened).stream 1 = StreamRec.reset ∧ (after .powerOnReset opened).resetPin = false := by
  decide +kernel

theorem test_reset_pin_asserted :
    (after .stroke (after .resetPinAsserted opened)).paceCount = 0
      ∧ (after .stroke (after .powerOnReset opened)).paceCount = 1 := by decide +kernel

/-- A stroke decreases a running count; at 0 it reloads and gives a credit (R24, R25). -/
theorem test_stroke :
    ((after .stroke opened).stream 1).count = 2
      ∧ (let r := (after .stroke (opened.modStream 1 fun r => { r with count := 0 })).stream 1
         r.count = 3 ∧ r.credit = 2) := by decide +kernel

/-- A stroke at the cap with cells queued raises CREDIT_SATURATED, stamped with the new pace count (R25). -/
theorem test_stroke_saturates :
    (after .stroke (queued.modStream 1 fun r => { r with count := 0, credit := 2 })).entry
      (.stream 1 .creditSaturated) = some ⟨1, 1⟩ := by decide +kernel

/-- The hold deadline is reached at the stroke that would bring demand by the lead point. A stroke whose counting waits
lets the expiry come first, which releases the lane; the next STROKE counts and advances nothing (R22, R95 second row).
-/
theorem test_stroke_after_expiry :
    (let s := (bound (queued.modStream 1 fun r => { r with count := 2, credit := 0 })).modLane 0 fun r =>
       { r with holdDeadline := some 1 }
     ((after (.holdDeadlineExpiry 0) (after .stroke s)).lane 0).state = .bound
       ∧ (let t := after .stroke { s with turns := [true] }
          t.paceCount = 1 ∧ (t.stream 1).count = 2
            ∧ ((after (.holdDeadlineExpiry 0) t).lane 0).state = .unbinding
            ∧ ((after .stroke (after (.holdDeadlineExpiry 0) t)).stream 1).count = 1
            ∧ (after .stroke (after (.holdDeadlineExpiry 0) t)).paceCount = 1)) := by decide +kernel

/-- A counting that waits is made before a READ is read, so that it does not omit a stroke that the pace count already
shows (R37). -/
theorem test_read_counts_first :
    (let s := after .stroke { opened with turns := [true] }
     (s.stream 1).count = 3 ∧ s.paceCount = 1
       ∧ answered 4 (after .readStream (asking 0x04 [0, 1, 1] s)) = some (.done, [1, 0, 0, 2])) := by decide +kernel

/-- A recovery whose answer deadline is reached ends QUARANTINED with the tag moved on (R63). -/
theorem test_answer_deadline_expiry :
    (let r := (after (.answerDeadlineExpiry 2) ((laneIn 2 .recovering (some .laneReset) ready).modLane 2 fun r =>
        { r with answerDeadline := some 0 })).lane 2
     r.state = .quarantined ∧ r.tag = 1 ∧ r.outstanding = none ∧ r.answerTimeouts = 1) := by decide +kernel

/-- The bind answer timeout of a stream with an image waiting, settle interval 0: the image is applied, and the stream
enters at its kept request time, ahead of one that began to wait after its bind (R42, R53, last row). At a refusal it
enters at the present, behind it. -/
theorem test_kept_time_with_image :
    (let s := (binding (queued.modStream 1 fun r =>
        { r with commitPending := true, staged := some image, keptTime := some 3 })).modLane 0 fun r =>
          { r with answerDeadline := some 60 }
     let s := { s with
       paceCount := 60
       budget := [59, 59, 59, 60]
       params := { s.params with settleInterval := 0 }
       requests := [⟨2, 10, .demand, 0⟩]
       waiting := s.waiting.write 0 true }
     let t := after (.answerDeadlineExpiry 0) s
     (t.stream 1).generation = 2 ∧ (t.stream 1).keptTime = none
       ∧ t.requests = [⟨1, 3, .demand, 0⟩, ⟨2, 10, .demand, 0⟩]
       ∧ (after (.bindAckRefuse 0 1) s).requests = [⟨2, 10, .demand, 0⟩, ⟨1, 60, .demand, 0⟩]) := by decide +kernel

/-- A hold deadline reached releases the lane (R93). -/
theorem test_hold_deadline_expiry :
    (let r := (after (.holdDeadlineExpiry 0) ((bound opened).modLane 0 fun r => { r with holdDeadline := some 0 })).lane 0
     r.state = .unbinding ∧ r.waitingCell = some ⟨.release, 1, 2⟩) := by decide +kernel

/-- A settle deadline reached lets the stream bind: FREE lane 0 starts (R33, R125). -/
theorem test_settle_deadline_expiry :
    (let t := after (.settleDeadlineExpiry 1) (queued.modStream 1 fun r => { r with settle := some 0 })
     (t.stream 1).settle = none ∧ (t.stream 1).heldLane = some 0 ∧ (t.lane 0).state = .binding) := by decide +kernel

/-- An open commit record of edge port E0, due at pace count 0, with its place reserved. -/
def openRecord (streams : List StreamNo) (device : DevicePart) (s : State) : State :=
  { s.modPort 0 fun r => { r with reserved := true } with
    record := some ⟨0, 7, 1, streams, device, 0, 2, 1⟩
    barred := some 0 }

/-- A commit with one stream pending at its deadline: COMMIT-LATE, one part pending (R127). -/
theorem test_commit_deadline_expiry :
    (let t := after .commitDeadlineExpiry (openRecord [1] .none (bound opened))
     t.record = none ∧ t.barred = none ∧ answered 2 t = some (.commitLate, [0, 1])
       ∧ t.entry (.device .commitLate) = some ⟨1, 0⟩) := by decide +kernel

theorem test_budget_entry_age_out :
    (after .budgetEntryAgeOut { ready with budget := [0, 150], paceCount := 200 }).budget = [150]
      ∧ (after .budgetEntryAgeOut { ready with budget := [0, 150], paceCount := 199 }).budget = [0, 150] := by
  decide +kernel

theorem test_spacing_expiry :
    (after .spacingExpiry { ready with spacing := some 5, paceCount := 5 }).spacing = none
      ∧ (after .spacingExpiry { ready with spacing := some 5, paceCount := 4 }).spacing = some 5 := by decide +kernel

/-- A pass starts the entry's bind on the head of its group's free-lane list (R49, R50). -/
theorem test_arbiter_pass :
    (let t := after .arbiterPass { queued with requests := [⟨1, 0, .demand, 0⟩] }
     (t.lane 0).holder = some 1 ∧ t.requests = [] ∧ t.budget = [0] ∧ t.freeLanes.read 0 = [1, 2, 3]) := by
  decide +kernel

/-- A launch: one credit, one cell, one buffer (R88). -/
theorem test_lane_slot_launches :
    (let t := after (.laneSlot 0) (bound queued)
     (t.stream 1).credit = 0 ∧ (t.stream 1).queue = [] ∧ t.freeBuffers = 2048 ∧ (t.stream 1).launched = 1
       ∧ (t.lane 0).sent.map (fun c => c.toList.take 6) = some [0x10, 0x00, 0x01, 0x00, 0x00, 0x00]) := by decide +kernel

/-- A slot of lane 0 has read the launch conditions of stream 1; the claims of its launch are still to come. -/
def begun (s : State) : State := after (.laneSlot 0) { bound s with turns := [true] }

/-- Octet 0 of the cell last sent on lane 0: kind and flags. -/
def kindSent (s : State) : Option Byte := (s.lane 0).sent.map fun c => octetAt c 0

/-- The two failures of a launch (R89): a preset with clear credit before the credit claim leaves FILL and takes no cell;
a close with discard between the two claims leaves FILL and the credit spent; a RESTART leaves FILL. -/
theorem test_launch_failures :
    (let s := begun queued
     let t := after .timerControlPreset (asking 0x0E [0, 1, 2, 1] s)
     (s.lane 0).launching = some 1 ∧ (s.lane 0).sent = none ∧ (s.stream 1).credit = 1
       ∧ (t.lane 0).sent = some (fillCell 0) ∧ (t.stream 1).credit = 0 ∧ (t.stream 1).queue = [cell 0])
    ∧ (let t := after .closeStreamDiscard (asking 0x0C [0, 1, 1] { begun queued with turns := [false, true] })
       (t.lane 0).sent = some (fillCell 0) ∧ (t.stream 1).credit = 0 ∧ (t.stream 1).launched = 0
         ∧ (t.lane 0).state = .unbinding)
    ∧ (let t := after .restart (asking 0x11 [] (begun queued))
       (t.lane 0).sent = some (fillCell 0) ∧ (t.stream 1).launched = 0 ∧ (t.lane 0).state = .recovering) := by
  decide +kernel

/-- A launch in flight goes on where the lane still carries its stream, also after PAUSE and RESUME. On a lane that is
paused, released or lost, and after a RESTART, the slot sends FILL or the lane's control cell, and no traffic cell
(R89, R90, R96). -/
theorem test_launch_lane_lost :
    (let s := begun queued
     kindSent (after (.laneSlot 0) s) = some 0x10
       ∧ kindSent (after (.laneSlot 0) (after (.resume 0 1) (after (.pause 0 1) s))) = some 0x10
       ∧ kindSent (after (.laneSlot 0) (after (.pause 0 1) s)) = some 0x00
       ∧ kindSent (after (.laneSlot 0) (after .laneControlRetire (asking 0x10 [0, 0, 2] s))) = some 0x90
       ∧ kindSent (after (.laneSlot 0) (after (.laneAlignmentLost 9) s)) = some 0x00
       ∧ kindSent (after (.laneSlot 0) (after .restart (asking 0x11 [] s))) = some 0xA0) := by decide +kernel

/-- A release and a bind to another stream before the slot goes on: its waiting BIND leaves, and nothing launches for
the stream that held the lane (R61, R90). -/
theorem test_launch_lane_rebound :
    (let s := after (.releaseAck 0 2) (after .laneControlRetire (asking 0x10 [0, 0, 2] (begun queued)))
     let t := grantBind ⟨2, 0, .demand, 0⟩ 0 [] s
     (t.lane 0).launching = none ∧ kindSent (after (.laneSlot 0) t) = some 0x80
       ∧ ((after (.laneSlot 0) t).stream 1).launched = 0) := by decide +kernel

/-- The trunk goes DOWN among the claims of the launch of a PLAIN drain's last cell (R18, sixth row). With the credit
claim granted before, the loss finds the queue not yet empty, and the queue-empty claim then closes the stream; the cell
is counted and has left. Otherwise the stream stays DRAINING. Every later slot sends FILL (R96). -/
theorem test_drain_across_trunk_loss :
    (let s := begun (streamIn (.draining .plain) [cell 0] ready)
     let t := after (.laneAlignmentLost 9) { s with turns := [true] }
     (t.stream 1).life = .closed ∧ (t.stream 1).launched = 1 ∧ t.freeBuffers = 2048 ∧ (t.lane 0).state = .down
       ∧ t.entry (.stream 1 .laneLost) = some ⟨1, 0⟩ ∧ kindSent t = some 0x10
       ∧ kindSent (after (.laneSlot 0) t) = some 0x00)
    ∧ (let t := after (.laneAlignmentLost 9) (begun (streamIn (.draining .plain) [cell 0] ready))
       (t.stream 1).life = .draining .plain ∧ (t.stream 1).queue = [cell 0] ∧ (t.stream 1).launched = 0
         ∧ kindSent (after (.laneSlot 0) t) = some 0x00) := by decide +kernel

/-- A waiting control cell goes out and starts the answer deadline (R61, R86). -/
theorem test_lane_slot_control :
    (let t := after (.laneSlot 0) ((binding opened).modLane 0 fun r => { r with waitingCell := some ⟨.bind, 1, 1⟩ })
     (t.lane 0).waitingCell = none ∧ (t.lane 0).answerDeadline = some 50
       ∧ (t.lane 0).sent.map (fun c => c.toList.take 6) = some [0x80, 0x00, 0x01, 0x00, 0x01, 0x00]) := by
  decide +kernel

theorem test_drain_completion :
    ((after (.drainCompletion 1) (streamIn (.draining .plain) [] ready)).stream 1).life = .closed
      ∧ ((after (.drainCompletion 1) (streamIn (.draining .plain) [cell 0] ready)).stream 1).life
          = .draining .plain := by decide +kernel

/-- The head response goes before the head report (R144). -/
theorem test_edge_slot :
    (let s := { ready.modPort 0 fun r => { r with responses := [⟨9, .done, octetTable 56 []⟩] } with
        reports := [⟨.device .poolEmpty, 3, 2, true⟩] }
     ((after (.edgeSlot 0) s).port 0).sent.map (fun c => c.toList.take 6) = some [0x30, 0, 0, 0, 9, 0]
       ∧ ((after (.edgeSlot 0) (after (.edgeSlot 0) s)).port 0).sent.map
          (fun c => (c.toList.take 6, (c.toList.drop 8).take 9))
            = some ([0x40, 0, 0, 0, 0, 0x40], [0, 0, 0, 0x40, 2, 0, 0, 0, 3])) := by decide +kernel

/-- The sixth passing cell in a row lets a HUNTING port align; a failing one ends the run (R160). -/
theorem test_edge_link_up :
    (let s := ready.modPort 3 fun r => { r with passes := 5 }
     ((after (.edgeLinkUp 3) s).port 3).aligned = false
       ∧ ((after (.edgeLinkUp 3) (after (.edgeFillCell 3) s)).port 3).aligned = true
       ∧ ((after (.edgeBadCheckCell 3) s).port 3).passes = 0) := by decide +kernel

theorem test_edge_link_down :
    (let t := after (.edgeLinkDown 0) (asking 0x01 [0, 0, 0] opened)
     (t.port 0).aligned = false ∧ (t.port 0).requests = [] ∧ (t.stream 1).expected = none
       ∧ t.entry (.port 0 .linkDown) = some ⟨1, 0⟩) := by decide +kernel

/-- Lane 7 after six passing cells in a row, HUNTING, with these other lanes ALIGNED. -/
def hunting (others : GroupNo → Bool) : State :=
  ({ State.reset with
    lanes := State.reset.lanes.mapAll fun (r : LaneRec) => { r with aligned := others r.group } }).modLane 7
    fun r => { r with aligned := false, passes := 6 }

/-- The last lane to align takes the trunk UP and starts a recovery on every DOWN lane (R80). -/
theorem test_lane_aligned :
    (let t := after (.laneAligned 7) (hunting fun g => g ≠ 2)
     t.trunkUp = false ∧ (t.lane 7).aligned = true ∧ (t.lane 7).passes = 0)
      ∧ (let t := after (.laneAligned 7) (hunting fun _ => true)
         t.trunkUp = true ∧ (t.lane 3).state = .recovering ∧ (t.lane 3).tag = 1) := by decide +kernel

theorem test_lane_alignment_lost :
    (let t := after (.laneAlignmentLost 9) (bound opened)
     t.trunkUp = false ∧ (t.lane 0).state = .down ∧ (t.lane 0).holder = none ∧ (t.lane 0).tag = 1
       ∧ (t.stream 1).heldLane = none ∧ t.entry (.stream 1 .laneLost) = some ⟨1, 0⟩
       ∧ t.entry (.device .trunkDown) = some ⟨1, 0⟩ ∧ t.freeLanes.read 2 = []) := by decide +kernel

/-- Streams 1 and 2, OPEN with a cell each, wait for a lane of group 0, with these lanes free there and spacing 0. -/
def twoWaiting (free : List LaneNo) (turns : List Bool) : State :=
  let s := (listed queued).setFree 0 free
  { s.modStream 2 fun _ => { s.stream 1 with queue := [⟨2, 0, 0, octetTable 56 []⟩] } with
    requests := [⟨1, 0, .demand, 0⟩, ⟨2, 0, .demand, 0⟩]
    params := { s.params with bindSpacing := 0 }
    turns := turns }

/-- The trunk goes DOWN in the midst of a pass, after one start and before the second claim, which is refused: one start
is recorded, its stream loses the lane with LANE_LOST, and the other entry keeps its place (R50, third row). -/
theorem test_claim_refused_at_trunk_down :
    (let t := after (.laneAlignmentLost 9) (twoWaiting [0, 1] [true, false, true])
     t.trunkUp = false ∧ t.budget = [0] ∧ (t.lane 0).tag = 1 ∧ (t.lane 1).tag = 0
       ∧ t.entry (.stream 1 .laneLost) = some ⟨1, 0⟩ ∧ t.entry (.stream 2 .laneLost) = none
       ∧ t.requests = [⟨1, 0, .demand, 0⟩, ⟨2, 0, .demand, 0⟩] ∧ t.turns = []) := by decide +kernel

/-- A disable of the head lane before the claim (R50, first row): the claim takes the new head, or is refused on the
empty list, its entry keeping its place; after the claim, the disable finds the lane BINDING. -/
theorem test_claim_and_disable :
    (let s := asking 0x10 [0, 0, 1] (twoWaiting [0] [false, true, true])
     let t := after .laneControlDisable s
     (t.lane 0).state = .disabled ∧ t.budget = [] ∧ t.requests = s.requests)
    ∧ (let t := after .laneControlDisable (asking 0x10 [0, 0, 1] (twoWaiting [0, 1] [false, true, true]))
       (t.lane 0).state = .disabled ∧ (t.lane 1).holder = some 1 ∧ t.budget = [0] ∧ t.requests = [⟨2, 0, .demand, 0⟩])
    ∧ (let t := after .laneControlDisable (asking 0x10 [0, 0, 1] (twoWaiting [0] [false, true, false]))
       (t.lane 0).state = .binding ∧ (t.lane 0).disablePending = true ∧ t.budget = [0]) := by decide +kernel

/-- A cell two ahead of the expected one is admitted as a gap; the stream then has demand and a lane starts (R101,
R103). -/
theorem test_traffic_cell_arrival :
    (let t := after (.trafficCellArrival 0 (cell 2)) opened
     (t.stream 1).queue = [cell 2] ∧ (t.stream 1).expected = some 3 ∧ (t.stream 1).sequenceGaps = 1
       ∧ t.entry (.stream 1 .seqGap) = some ⟨1, 0⟩ ∧ t.freeBuffers = 2047 ∧ (t.lane 0).state = .binding) := by
  decide +kernel

/-- A close comes between the two claims of an arrival: the append claim is answered closed, with MISROUTED and the
expected sequence advanced (R102, R111). Without one the cell is appended, and received once. -/
theorem test_traffic_cell_closed :
    (let s := after (.trafficCellArrival 0 (cell 1)) { opened with turns := [true] }
     let t := after (.trafficCellArrival 0 (cell 1)) (after .closeStreamDiscard (asking 0x0C [0, 1, 1] s))
     let u := after (.trafficCellArrival 0 (cell 1)) s
     (s.stream 1).queue = [] ∧ (t.stream 1).life = .closed ∧ (t.stream 1).queue = [] ∧ (t.stream 1).expected = some 2
       ∧ (t.port 0).misrouted = 1 ∧ (t.port 0).lastMisrouted = some 1
       ∧ (u.stream 1).queue = [cell 1] ∧ (u.port 0).received = 1 ∧ (u.port 0).arriving = none) := by decide +kernel

/-- The append claim names the queue limit of its sending, whatever image is applied before it is taken (R102, R105). -/
theorem test_traffic_cell_limit :
    (let s := after (.trafficCellArrival 0 (cell 1)) { streamIn .opened [cell 0] ready with turns := [true] }
     let t := s.modStream 1 fun r => { r with config := { image with queueLimit := 1 } }
     ((after (.trafficCellArrival 0 (cell 1)) t).stream 1).queue = [cell 0, cell 1]) := by decide +kernel

/-- The cell before the expected one is a duplicate (R101). -/
theorem test_traffic_cell_duplicate :
    (let t := after (.trafficCellArrival 0 (cell 0)) opened
     (t.stream 1).queue = [] ∧ (t.stream 1).duplicateDrops = 1 ∧ (t.stream 1).expected = some 1) := by decide +kernel

/-- The fifth request is answered BUSY (R143). -/
theorem test_request_cell_arrival :
    (let q := request 0x01 [0, 0, 0]
     let s := ready.modPort 0 fun r => { r with requests := [q, q, q] }
     let t := after (.requestCellArrival 0 q) s
     (t.port 0).requests.length = 4 ∧ answered 0 (after (.requestCellArrival 0 q) t) = some (.busy, [])) := by
  decide +kernel

theorem test_edge_fill_cell : ((after (.edgeFillCell 0) ready).port 0).received = 1 := by decide +kernel

theorem test_edge_bad_kind_cell :
    ((after (.edgeBadKindCell 0 0x9) ready).port 0).badKinds = 1
      ∧ (after (.edgeBadKindCell 0 0x9) ready).entry (.port 0 .badKind) = some ⟨1, 0⟩ := by decide +kernel

/-- The seventh failure in a row takes the link DOWN (R160). -/
theorem test_edge_bad_check_cell :
    (let s := ready.modPort 0 fun r => { r with failures := 5 }
     ((after (.edgeBadCheckCell 0) s).port 0).aligned = true
       ∧ ((after (.edgeBadCheckCell 0) (after (.edgeBadCheckCell 0) s)).port 0).aligned = false) := by decide +kernel

theorem test_bind_ack_accept :
    (let t := after (.bindAckAccept 0 1) (binding queued)
     (t.lane 0).state = .bound ∧ (t.lane 0).outstanding = none ∧ (t.lane 0).bindsAccepted = 1) := by decide +kernel

/-- A refusal below the limit: the lane is FREE and the stream, which still wants one, binds lane 1 (R14, R66). -/
theorem test_bind_ack_refuse :
    (let t := after (.bindAckRefuse 0 1) (binding queued)
     (t.stream 1).refusals = 1 ∧ (t.lane 0).bindsRefused = 1 ∧ (t.lane 0).state = .free
       ∧ (t.stream 1).heldLane = some 1) := by decide +kernel

theorem test_bind_ack_unknown_code :
    (after (.bindAckUnknownCode 0 1 0x07) (binding queued)).entry (.lane 0 .strayControl) = some ⟨1, 0⟩ := by
  decide +kernel

theorem test_release_ack :
    (let t := after (.releaseAck 0 1) (unbinding opened)
     (t.lane 0).state = .free ∧ (t.stream 1).heldLane = none ∧ t.freeLanes.read 0 = [1, 2, 3, 0]) := by decide +kernel

/-- Lane 0 in a lane state of stream 1, which has a cell, and lane 1 BOUND to stream 2 in hold grace, in a group
without a FREE lane. -/
def graced (state : LaneState) : State :=
  (((holding state state.awaits queued).setFree 0 []).modLane 1 fun r =>
      { r with state := .bound, holder := some 2, tag := 1, holdDeadline := some 9 }).modStream 2
    fun r => { r with config := image, generation := 1, life := .opened, heldLane := some 1 }

/-- The lane that a REFUSE or a RELEASE-ACK hands back is in its list before the arbiter tells of the waiting group: no
other lane's hold grace is cut short (R66, R69, R94). -/
theorem test_hand_back_keeps_grace :
    (∀ turn : Bool, (let t := after (.bindAckRefuse 0 1) { graced .binding with turns := [turn] }
       (t.lane 1).state = .bound ∧ (t.lane 1).holdDeadline = some 9 ∧ (t.lane 0).holder = some 1))
    ∧ (let t := after (.releaseAck 0 1) (graced .unbinding)
       (t.lane 1).state = .bound ∧ (t.lane 1).holdDeadline = some 9 ∧ (t.lane 0).holder = some 1) := by decide +kernel

theorem test_reset_ack :
    (let t := after (.resetAck 5 0) (laneIn 5 .recovering (some .laneReset) (ready.setFree 1 [4]))
     (t.lane 5).state = .free ∧ t.freeLanes.read 1 = [4, 5]) := by decide +kernel

/-- PAUSE with the lane's tag pauses; with another it is stale (R64, R74). -/
theorem test_pause :
    ((after (.pause 0 1) (bound queued)).lane 0).paused = true
      ∧ ((after (.pause 0 2) (bound queued)).lane 0).staleAnswers = 1 := by decide +kernel

theorem test_resume :
    ((after (.resume 0 1) (after (.pause 0 1) (bound queued))).lane 0).paused = false := by decide +kernel

theorem test_trunk_other_kind_cell :
    (after (.trunkOtherKindCell 4 0x1) ready).entry (.lane 4 .strayControl) = some ⟨1, 0⟩ := by decide +kernel

theorem test_trunk_fill_cell : ((after (.trunkFillCell 4) ready).lane 4).staleAnswers = 0 := by decide +kernel

theorem test_trunk_bad_check_cell :
    (let s := ready.modLane 4 fun r => { r with failures := 5 }
     (after (.trunkBadCheckCell 4) s).trunkUp = true
       ∧ (after (.trunkBadCheckCell 4) (after (.trunkBadCheckCell 4) s)).trunkUp = false) := by decide +kernel

theorem test_disable_pending_applied :
    ((after (.disablePendingApplied 6)
      ((laneIn 6 .quarantined none ready).modLane 6 fun r => { r with disablePending := true })).lane 6).state
        = .disabled := by decide +kernel

/-- A commit-pending image is applied: generation, settle deadline, credit cut to the new cap (R121, R125). -/
theorem test_stream_image_application :
    (let t := after (.streamImageApplication 1) (opened.modStream 1 fun r =>
        { r with commitPending := true, credit := 2, staged := some { image with creditCap := 1, reload := 9 } })
     (t.stream 1).generation = 2 ∧ (t.stream 1).settle = some 8 ∧ (t.stream 1).credit = 1
       ∧ (t.stream 1).count = 9 ∧ (t.stream 1).commitPending = false ∧ (t.stream 1).staged = none) := by decide +kernel

/-- An application that completes the open record of stream 1: the record closes with DONE and its applied count raised
by one (R122, R126); with another part pending it stays open, and one that does not hold the stream counts nothing. -/
theorem test_application_completes :
    (let s (streams : List StreamNo) (device : DevicePart) :=
       openRecord streams device (opened.modStream 1 fun r => { r with commitPending := true, staged := some image })
     let t := after (.streamImageApplication 1) (s [1] .none)
     t.record = none ∧ t.barred = none ∧ answered 4 t = some (.done, [0, 3, 0, 1])
       ∧ (after (.streamImageApplication 1) (s [1] .pending)).record = some ⟨0, 7, 1, [], .pending, 0, 3, 1⟩
       ∧ (after (.streamImageApplication 1) (s [2] .none)).record = some ⟨0, 7, 1, [2], .none, 0, 2, 1⟩) := by
  decide +kernel

theorem test_device_application :
    (let t := after .deviceApplication
        { ready with
          trunkCommitPending := true
          stagedParams := some { DeviceParams.reset with budgetWindow := 60, bindSpacing := 0 }
          paceCount := 100
          budget := [10, 50] }
     t.params.budgetWindow = 60 ∧ t.trunkCommitPending = false ∧ t.budget = [50] ∧ t.spacing = none) := by decide +kernel

theorem test_commit_response :
    (let t := after .commitResponse
        { ready.modPort 0 fun r => { r with reserved := true } with
          commitAnswer := some ⟨7, .done, octetTable 56 [0x0A, 1, 0, 2]⟩
          barred := some 0 }
     t.barred = none ∧ (t.port 0).reserved = false ∧ answered 2 t = some (.done, [0, 2])) := by decide +kernel

theorem test_read_device :
    answered 8 (after .readDevice (asking 0x01 [0, 0, 0] queued))
      = some (.done, [0x53, 0x06, 0x16, 1, 0x07, 0xFF, 1, 0]) := by decide +kernel

theorem test_read_port :
    answered 9 (after .readPort (asking 0x02 [0, 0, 0] ready)) = some (.done, [1, 2, 0, 0, 0, 1, 0, 1, 0]) := by
  decide +kernel

theorem test_read_lane :
    answered 6 (after .readLane (asking 0x03 [0, 0, 0] (binding opened))) = some (.done, [3, 1, 0, 1, 1, 1]) := by
  decide +kernel

theorem test_read_stream :
    answered 12 (after .readStream (asking 0x04 [0, 1, 1] (bound queued)))
      = some (.done, [1, 0, 0, 3, 1, 0, 1, 1, 1, 1, 0, 0]) := by decide +kernel

theorem test_read_notices :
    answered 7 (after .readNotices (asking 0x05 [2, 0, 4] (after (.trunkOtherKindCell 4 0x1) ready)))
      = some (.done, [1, 0x22, 1, 0, 0, 0, 0]) := by decide +kernel

theorem test_stage_device :
    ((after .stageDevice (asking 0x06 ([0, 0, 0] ++ DeviceParams.reset.octets) ready)).stagedParams
      = some DeviceParams.reset) := by decide +kernel

theorem test_stage_port :
    ((after .stagePort (asking 0x07 [0, 2, 0, 1, 1] ready)).port 2).staged = some ⟨true, .read⟩ := by decide +kernel

theorem test_stage_stream :
    ((after .stageStream (asking 0x08 ([0, 1, 0] ++ image.octets 0) ready)).stream 1).staged = some image := by
  decide +kernel

theorem test_discard :
    ((after .discard (asking 0x09 [0, 1, 0] (opened.modStream 1 fun r => { r with staged := some image }))).stream
      1).staged = none := by decide +kernel

/-- A COMMIT of stream 1: at once without a lane (R120); pending with one, the port barred (R148). -/
theorem test_commit :
    (let staged (s : State) := asking 0x0A [0, 0, 1, 0, 1, 0, 1] (s.modStream 1 fun r => { r with staged := some image })
     answered 4 (after .commit (staged opened)) = some (.done, [0, 1, 0, 0])
       ∧ ((after .commit (staged (bound queued))).stream 1).commitPending = true
       ∧ (after .commit (staged (bound queued))).barred = some 0
       ∧ ((after .commit (staged (bound queued))).lane 0).state = .unbinding) := by decide +kernel

/-- An image that moves stream 1 to group 1, with settle interval 0: its old entry is gone before any pass, and it
binds a lane of group 1 (R38, R121). -/
theorem test_commit_regroups :
    (let s := asking 0x0A [0, 0, 1, 1, 1, 0, 1]
       { listed (queued.modStream 1 fun r => { r with staged := some { image with group := 1 } }) with
         stagedParams := some { DeviceParams.reset with settleInterval := 0 }
         params := { DeviceParams.reset with settleInterval := 0 } }
     let t := after .commit s
     (t.stream 1).heldLane = some 4 ∧ t.requests = [] ∧ (t.lane 0).state = .free) := by decide +kernel

theorem test_open_stream :
    (let r := (after .openStream (asking 0x0B [0, 1] (ready.modStream 1 fun r =>
        { r with config := image, generation := 1 }))).stream 1
     r.life = .opened ∧ r.count = 3 ∧ r.credit = 1 ∧ r.timer = .running) := by decide +kernel

theorem test_close_stream :
    ((after .closeStream (asking 0x0C [0, 1, 0] queued)).stream 1).life = .draining .plain
      ∧ ((after .closeStream (asking 0x0C [0, 1, 0] opened)).stream 1).life = .closed := by decide +kernel

theorem test_close_stream_discard :
    (let t := after .closeStreamDiscard (asking 0x0C [0, 1, 1] (bound queued))
     (t.stream 1).life = .draining .discard ∧ (t.stream 1).queue = [] ∧ (t.lane 0).state = .unbinding
       ∧ t.freeBuffers = 2048) := by decide +kernel

theorem test_clear_hold :
    ((after .clearHold (asking 0x0D [0, 1] (streamIn .held [] ready))).stream 1).life = .opened := by decide +kernel

/-- CLEAR-HOLD, then CLOSE-STREAM with discard before the pass that the new entry calls for: the stream holds no lane
and is CLOSED (R18, R48). -/
theorem test_clear_hold_then_close :
    (let s := after .clearHold (asking 0x0D [0, 1] { streamIn .held [cell 0] ready with turns := [false, true] })
     s.hasEntry 1 = true ∧ (s.stream 1).heldLane = none
       ∧ ((after .closeStreamDiscard (asking 0x0C [0, 1, 1] s)).stream 1).life = .closed) := by decide +kernel

theorem test_timer_control_run :
    ((after .timerControlRun (asking 0x0E [0, 1, 0] (opened.modStream 1 fun r => { r with timer := .stopped }))).stream
      1).timer = .running := by decide +kernel

theorem test_timer_control_stop :
    ((after .timerControlStop (asking 0x0E [0, 1, 1] opened)).stream 1).timer = .stopPending := by decide +kernel

theorem test_timer_control_preset :
    (let r := (after .timerControlPreset (asking 0x0E [0, 1, 2, 1]
        (opened.modStream 1 fun r => { r with count := 0 }))).stream 1
     r.count = 3 ∧ r.credit = 0) := by decide +kernel

/-- A mask of bit 2 removes STRAY_CONTROL; one of bit 4 is above the lane level's causes (R138). -/
theorem test_ack_notice :
    (let s := after (.trunkOtherKindCell 4 0x1) ready
     (after .ackNotice (asking 0x0F [2, 0, 4, 0x04] s)).entry (.lane 4 .strayControl) = none
       ∧ answered 0 (after .ackNotice (asking 0x0F [2, 0, 4, 0x10] s)) = some (.badValue, [])) := by decide +kernel

theorem test_lane_control_enable :
    ((after .laneControlEnable (asking 0x10 [0, 5, 0] (laneIn 5 .disabled none ready))).lane 5).state
      = .recovering := by decide +kernel

theorem test_lane_control_disable :
    ((after .laneControlDisable (asking 0x10 [0, 5, 1] ready)).lane 5).state = .disabled
      ∧ (after .laneControlDisable (asking 0x10 [0, 5, 1] ready)).freeLanes.read 1 = [4, 6, 7] := by decide +kernel

theorem test_lane_control_retire :
    ((after .laneControlRetire (asking 0x10 [0, 0, 2] (bound queued))).lane 0).state = .unbinding := by decide +kernel

theorem test_lane_control_recover :
    ((after .laneControlRecover (asking 0x10 [0, 5, 3] (laneIn 5 .quarantined none ready))).lane 5).state
      = .recovering := by decide +kernel

theorem test_restart :
    (let t := after .restart (asking 0x11 [] (bound queued))
     (t.stream 1).queue = [] ∧ (t.stream 1).life = .opened ∧ (t.stream 1).credit = 0 ∧ t.freeBuffers = 2048
       ∧ (t.lane 0).state = .recovering ∧ answered 0 t = some (.done, [])) := by decide +kernel

/-- The link goes DOWN between the taking of a RESTART and its claims: the restart runs, its response is void and
discarded, and its place is released (R156, R157, R158). -/
theorem test_restart_void :
    (let s := after .restart { asking 0x11 [] (bound queued) with turns := [true] }
     let t := after .restart (after .restart (after (.edgeLinkDown 0) s))
     s.inExecution.isSome = true ∧ (s.stream 1).queue = [cell 0] ∧ (t.stream 1).queue = []
       ∧ (t.port 0).responses = [] ∧ (t.port 0).reserved = false ∧ t.inExecution = none) := by decide +kernel

theorem test_unknown_command_code :
    answered 0 (after .unknownCommandCode (asking 0x12 [] ready)) = some (.badCommand, []) := by decide +kernel

/-- The first port after the last served that is eligible is taken first: E2 before E0 after E1 (R145). -/
theorem test_round_robin :
    ({ asking 0x01 [] ready with lastServed := 1 }.modPort 2 fun r => { r with requests := [request 0x02 []] }).nextRequest
      = some (2, request 0x02 []) := by decide +kernel

/-! ### States that meet the hypotheses of the statements -/

theorem witness_StepRunsFrontCommand : ∃ s : State, s.pending = [] := ⟨State.reset, rfl⟩

theorem witness_ResetPinHoldsTheBlock :
    ∃ (c : Instr) (s : State), c ≠ .powerOnReset ∧ c ≠ .resetPinAsserted ∧ s.resetPin = true :=
  ⟨.stroke, { State.reset with resetPin := true }, by decide⟩

/-- Stream 0 is STOPPED, stream 1 RUNNING at count 3, stream 2 STOP_PENDING at count 0; stream 1 at count 0 with its
credit at the cap and a cell queued saturates, and its credit input changes at credit 0; a command that is neither an
expiry nor a reset. -/
theorem witness_StrokeCountsEveryRunningStream :
    (let s := queued.modStream 2 fun r => { r with timer := .stopPending }
     s.resetPin = false ∧ s.uncounted = false ∧ (s.stream 0).timer = .stopped ∧ (s.stream 1).timer = .running ∧ (s.stream 1).count ≠ 0
       ∧ (s.stream 2).timer = .stopPending ∧ (s.stream 2).count = 0)
    ∧ (let s := queued.modStream 1 fun r => { r with count := 0, credit := 2 }
       s.resetPin = false ∧ s.uncounted = false ∧ (s.stream 1).timer ≠ .stopped ∧ (s.stream 1).count = 0
         ∧ (s.stream 1).config.creditCap ≤ (s.stream 1).credit ∧ (s.stream 1).queue ≠ [])
    ∧ (queued.uncounted = false ∧ queued.turn = false)
    ∧ (let s := queued.modStream 1 fun r => { r with count := 0, credit := 0 }
       s.resetPin = false ∧ ((s.stream 1).struck).credit = 1)
    ∧ { queued with turns := [true] }.turn = true ∧ { queued with uncounted := true }.uncounted = true
    ∧ (∀ c : Instr, c = .arbiterPass → c ≠ .stroke ∧ c ≠ .powerOnReset ∧ c ≠ .resetPinAsserted ∧ c ≠ .commitDeadlineExpiry
        ∧ c ≠ .budgetEntryAgeOut ∧ c ≠ .spacingExpiry ∧ ∀ l i, c ≠ .answerDeadlineExpiry l ∧ c ≠ .holdDeadlineExpiry l
          ∧ c ≠ .settleDeadlineExpiry i) := by
  refine ⟨by decide +kernel, by decide +kernel, by decide +kernel, by decide +kernel, by decide +kernel,
    by decide +kernel, ?_⟩
  rintro c rfl
  simp

/-- The CLOSED stream 511 and the OPEN stream 1, each with each of the three selectors. -/
theorem witness_TimerControlActs :
    ∀ k : Fin 3,
      Asked 0x0E [1, 255, BitVec.ofNat 8 k.val] opened (fun s q =>
        targetOf q = 511 ∧ selectorOf q = k.val ∧ (s.stream 511).life = .closed)
      ∧ Asked 0x0E [0, 1, BitVec.ofNat 8 k.val] opened (fun s q =>
        targetOf q = 1 ∧ selectorOf q = k.val ∧ (s.stream 1).life ≠ .closed) := by decide +kernel

/-- 30 and 31 ordinary reports waiting. -/
def reporting (n : Nat) : State := { ready with reports := List.replicate n ⟨.device .poolEmpty, 0, 1, false⟩ }

theorem witness_RaiseCountsOrCreates :
    ready.entry (.port 5 .badKind) = none ∧ (raise (.port 5 .badKind) ready).entry (.port 5 .badKind) = some ⟨1, 0⟩
    ∧ CausePoint.device .poolEmpty ≠ .port 5 .badKind ∧ CausePoint.device .poolEmpty ≠ .device .reportLost := by
  decide +kernel

theorem witness_RaiseQueuesReports :
    (let s := { ready with params := { ready.params with reportPort := none } }
     s.entry (.port 5 .badKind) = none ∧ s.params.reportPort = none)
    ∧ (let s := { ready with params := { ready.params with portMask := 0 } }
       s.entry (.port 5 .badKind) = none ∧ s.causeEnabled (.port 5 .badKind) = false)
    ∧ ((reporting 30).causeEnabled (.port 5 .badKind) = true ∧ (reporting 30).params.reportPort ≠ none
       ∧ ((reporting 30).reports.filter fun r => r.point ≠ .device .reportLost).length < 31)
    ∧ ((reporting 31).causeEnabled (.port 5 .badKind) = true ∧ (reporting 31).params.reportPort ≠ none
       ∧ 31 ≤ ((reporting 31).reports.filter fun r => r.point ≠ .device .reportLost).length
       ∧ (reporting 31).entry (.device .reportLost) = none)
    ∧ (let s := raiseReportLost (reporting 31)
       s.causeEnabled (.port 5 .badKind) = true ∧ s.params.reportPort ≠ none ∧ s.entry (.port 5 .badKind) = none
         ∧ 31 ≤ (s.reports.filter fun r => r.point ≠ .device .reportLost).length
         ∧ s.entry (.device .reportLost) = some ⟨1, 0⟩) := by decide +kernel

/-- The greatest mask of a level and the one after it: four causes of a lane, six of a stream. -/
theorem witness_AckNoticeRemovesNamedEntries :
    Asked 0x0F [2, 0, 15, 0x0F] ready (fun _ q =>
        noticeTargetOf q = some (.lane 15) ∧ (octetAt q.payload 3).toNat < 2 ^ (NoticeTarget.lane 15).points.length)
    ∧ Asked 0x0F [2, 0, 15, 0x10] ready (fun _ q =>
        noticeTargetOf q = some (.lane 15) ∧ 2 ^ (NoticeTarget.lane 15).points.length ≤ (octetAt q.payload 3).toNat)
    ∧ Asked 0x0F [3, 1, 255, 0x3F] ready (fun _ q =>
        noticeTargetOf q = some (.stream 511)
          ∧ (octetAt q.payload 3).toNat < 2 ^ (NoticeTarget.stream 511).points.length) := by decide +kernel

/-- A waiting BIND; then FILL's cases: the trunk DOWN, a lane not BOUND, a paused one, a holder without cells. -/
theorem witness_LaneSlotSendsControlOrFill :
    (let s := (binding opened).modLane 0 fun r => { r with waitingCell := some ⟨.bind, 1, 1⟩ }
     s.resetPin = false ∧ s.uncounted = false ∧ s.trunkUp = true ∧ (s.lane 0).launching = none ∧ (s.lane 0).waitingCell = some ⟨.bind, 1, 1⟩)
    ∧ (State.reset.resetPin = false ∧ State.reset.uncounted = false ∧ State.reset.trunkUp = false)
    ∧ ((ready.lane 0).waitingCell = none ∧ (ready.lane 0).state ≠ .bound)
    ∧ (let s := (bound queued).modLane 0 fun r => { r with paused := true }
       (s.lane 0).waitingCell = none ∧ (s.lane 0).paused = true)
    ∧ ((bound opened).lane 0).waitingCell = none
    ∧ ∀ i, ((bound opened).lane 0).holder = some i →
        ((bound opened).stream i).credit = 0 ∨ ((bound opened).stream i).queue = [] := by decide +kernel

/-- A launch of stream 1 in flight on lane 0. -/
def launching (s : State) : State := s.modLane 0 fun r => { r with launching := some 1 }

/-- No launch in flight, with and without a turn; one in flight at credit 2, 1 and 0, and on a lane that carries the
stream no longer, paused or not its own; two cells, one, and none for the take-head claim; a launch for the list of those
in flight, charged or not. -/
theorem witness_LaneSlotLaunches :
    (let s := bound queued
     s.resetPin = false ∧ s.uncounted = false ∧ (s.lane 0).launching = none ∧ s.trunkUp = true ∧ (s.lane 0).state = .bound
       ∧ (s.lane 0).paused = false ∧ (s.lane 0).waitingCell = none ∧ (s.lane 0).holder = some 1
       ∧ 1 ≤ (s.stream 1).credit ∧ (s.stream 1).queue ≠ [] ∧ s.turn = false ∧ { s with turns := [true] }.turn = true)
    ∧ (∀ n : Fin 3, (let s := (launching (bound queued)).modStream 1 fun r => { r with credit := n.val }
       s.resetPin = false ∧ s.uncounted = false ∧ (s.lane 0).launching = some 1 ∧ s.trunkUp = true
         ∧ (s.lane 0).state = .bound ∧ (s.lane 0).paused = false ∧ (s.lane 0).waitingCell = none
         ∧ (s.lane 0).holder = some 1 ∧ (s.stream 1).credit = n.val ∧ s.launches (· == 1) = [(0, 1)]))
    ∧ (let s := (launching (bound queued)).modLane 0 fun r => { r with paused := true }
       (s.lane 0).launching = some 1 ∧ (s.lane 0).paused = true)
    ∧ ((launching queued).lane 0).launching = some 1 ∧ ((launching queued).lane 0).holder ≠ some 1
    ∧ (∀ rest ∈ [[], [cell 1]], ((bound (streamIn .opened (cell 0 :: rest) ready)).stream 1).queue = cell 0 :: rest)
    ∧ ((bound opened).stream 1).queue = [] := by decide +kernel

theorem witness_EdgeSlotSends :
    (ready.resetPin = false ∧ ready.uncounted = false ∧ (ready.port 1).aligned = false)
    ∧ ((ready.port 0).aligned = true ∧ (ready.port 0).responses = [] ∧ ready.reports = [])
    ∧ (let s := ready.modPort 0 fun r => { r with responses := [⟨9, .done, octetTable 56 []⟩] }
       (s.port 0).aligned = true ∧ (s.port 0).responses = ⟨9, .done, octetTable 56 []⟩ :: [])
    ∧ ((reporting 1).params.reportPort = some 0
       ∧ (reporting 1).reports = ⟨.device .poolEmpty, 0, 1, false⟩ :: []) := by decide +kernel

theorem witness_EdgeLinkChanges :
    ready.resetPin = false ∧ ready.uncounted = false ∧ (ready.port 1).aligned = false ∧ (ready.port 0).aligned = true
      ∧ ∀ n ∈ [5, 6], (let s := ready.modPort 1 fun r => { r with passes := n }
          (s.port 1).aligned = false ∧ (s.port 1).passes = n) := by decide +kernel

/-- No acceptance; a CLOSED stream; a DRAINING one; another source port; a duplicate; the queue limit; the pool. -/
theorem witness_TrafficCellDropped :
    (let s := opened.modPort 0 fun r => { r with record := { r.record with acceptance := false } }
     s.resetPin = false ∧ s.uncounted = false ∧ (s.port 0).aligned = true
         ∧ (s.port 0).arriving = none ∧ (s.port 0).record.acceptance = false)
    ∧ ((ready.port 0).aligned = true ∧ (ready.port 0).arriving = none ∧ (ready.stream 511).life = .closed)
    ∧ ((streamIn (.draining .plain) [] ready).stream 1).life = .draining .plain
    ∧ (let s := opened.modPort 3 fun r => { r with aligned := true }
       (s.port 3).aligned = true ∧ (s.stream 1).config.sourcePort ≠ 3)
    ∧ ((opened.port 0).record.acceptance = true ∧ (opened.stream 1).life = .opened ∧ opened.turn = false
       ∧ (opened.stream 1).config.sourcePort = 0 ∧ (opened.stream 1).config.sequenceCheck = true
       ∧ (opened.stream 1).expected = some ((cell 0).sequence + 1))
    ∧ (let s := streamIn .held [cell 0, cell 1] ready
       (s.stream 1).life = .held ∧ (s.stream 1).expected ≠ some ((cell 2).sequence + 1)
         ∧ (s.stream 1).config.queueLimit ≤ (s.stream 1).queue.length)
    ∧ { opened with freeBuffers := 0 }.freeBuffers = 0 := by decide +kernel

/-- An arrival of cell 1 of stream 1 in flight on edge port E0. -/
def arriving (gap : Bool) (s : State) : State := s.modPort 0 fun r => { r with arriving := some ⟨cell 1, 2, gap⟩ }

/-- In order, as a gap, and the last free buffer; the queue one below its limit; with and without a turn. In flight: the
stream CLOSED, DRAINING, at its queue limit, OPEN with room and without a buffer; another cell. -/
theorem witness_AdmittedCellQueued :
    (let s := { streamIn .opened [cell 0] ready with freeBuffers := 1 }
     s.resetPin = false ∧ s.uncounted = false ∧ (s.port 0).aligned = true ∧ (s.port 0).record.acceptance = true
       ∧ (s.stream 1).life = .opened ∧ (s.stream 1).config.sourcePort = 0
       ∧ (∀ n : Fin 2, (s.stream 1).expected ≠ some ((cell (BitVec.ofNat 8 (n.val + 1))).sequence + 1))
       ∧ (s.stream 1).expected = some (cell 1).sequence ∧ (s.stream 1).expected ≠ some (cell 2).sequence
       ∧ (s.stream 1).queue.length < (s.stream 1).config.queueLimit ∧ 0 < s.freeBuffers
       ∧ (s.port 0).arriving = none ∧ s.turn = false ∧ { s with turns := [true] }.turn = true)
    ∧ (∀ s ∈ [arriving true ready, arriving false (streamIn (.draining .plain) [] ready),
          arriving true (streamIn .held [cell 0, cell 0] ready), arriving true { opened with freeBuffers := 0 },
          arriving true (streamIn .opened [cell 0] ready), arriving false opened],
        s.resetPin = false ∧ s.uncounted = false ∧ ((s.port 0).arriving.map fun a => a.cell) = some (cell 1))
    ∧ ((ready.stream 1).life = .closed ∧ cell 1 ≠ cell 2)
    ∧ (let r := (streamIn .held [cell 0, cell 0] ready).stream 1
       r.life = .held ∧ 2 ≤ r.queue.length) := by decide +kernel

/-- Three requests and four; with four, seven responses and eight. -/
theorem witness_RequestArrivalByQueues :
    (let s (n k : Nat) := ready.modPort 0 fun r =>
      { r with
        requests := List.replicate n (request 1 [])
        responses := List.replicate k ⟨9, .done, octetTable 56 []⟩ }
     (s 3 0).resetPin = false ∧ (s 3 0).uncounted = false ∧ ((s 3 0).port 0).aligned = true ∧ ((s 3 0).port 0).requests.length < 4
       ∧ 4 ≤ ((s 4 7).port 0).requests.length
       ∧ ((s 4 7).port 0).responses.length + (if ((s 4 7).port 0).reserved then 1 else 0) < 8
       ∧ 8 ≤ ((s 4 8).port 0).responses.length + (if ((s 4 8).port 0).reserved then 1 else 0)) := by decide +kernel

theorem witness_OtherEdgeCells :
    ready.resetPin = false ∧ ready.uncounted = false ∧ (ready.port 0).aligned = true ∧ (ready.port 1).aligned = false
      ∧ (ready.port 1).arriving = none ∧ (ready.port 0).failures + 1 < 7
      ∧ ¬ ((ready.modPort 0 fun r => { r with failures := 6 }).port 0).failures + 1 < 7 := by decide +kernel

/-- Five passes and six; another lane HUNTING too, and none. -/
theorem witness_LaneAlignedBringsTrunkUp :
    (let s := (hunting fun _ => true).modLane 7 fun r => { r with passes := 5 }
     s.resetPin = false ∧ s.uncounted = false ∧ (s.lane 7).aligned = false ∧ (s.lane 7).passes < 6)
    ∧ (let s := hunting fun g => g ≠ 2
       (s.lane 7).aligned = false ∧ 6 ≤ (s.lane 7).passes ∧ ∃ k, k ≠ 7 ∧ (s.lane k).aligned = false)
    ∧ (let s := hunting fun _ => true
       (s.lane 7).aligned = false ∧ 6 ≤ (s.lane 7).passes ∧ (∀ k, k ≠ 7 → (s.lane k).aligned = true)
         ∧ s.trunkUp = false) := by decide +kernel

/-- Every lane of `ready` is FREE with nothing in progress; no stream holds one; the lists hold the rest. -/
theorem ready_lane : ∀ l, (ready.lane l).state = .free ∧ (ready.lane l).holder = none
    ∧ (ready.lane l).outstanding = none ∧ (ready.lane l).answerDeadline = none ∧ (ready.lane l).holdDeadline = none
    ∧ (ready.lane l).paused = false ∧ (ready.lane l).disablePending = false
    ∧ (ready.lane l).waitingCell = none ∧ (ready.lane l).launching = none := by decide +kernel

theorem ready_held (i : StreamNo) : (ready.stream i).heldLane = none := by
  simp [ready, State.reset, State.stream, State.modPort, State.setPort, StreamRec.reset]

theorem ready_lists : (∀ g, ((ready.freeLanes.write 0 [1, 2, 3]).read g).Nodup)
    ∧ ∀ g l, l ∈ (ready.freeLanes.write 0 [1, 2, 3]).read g ↔ l ≠ 0 ∧ (ready.lane l).group = g := by decide +kernel

/-- Lane 0 held by stream 1, with or without a disable pending. -/
def held (state : LaneState) (pending : Bool) (life : Life) (queue : List TrafficCell) : State :=
  (holding state state.awaits (streamIn life queue ready)).modLane 0 fun r => { r with disablePending := pending }

/-- There the lanes, the streams and the free-lane lists agree. -/
theorem laneInv_held (state : LaneState) (pending : Bool) (life : Life) (queue : List TrafficCell)
    (hh : state.hasHolder = true) (hp : pending = true → state.inHandshake = true) :
    LaneInv (held state pending life queue) := by
  have hq (n : Nat) (l : LaneNo) : ({ ready with freeBuffers := n } : State).lane l = ready.lane l := rfl
  have hs (n : Nat) (i : StreamNo) : ({ ready with freeBuffers := n } : State).stream i = ready.stream i := rfl
  have hf : state ≠ .free := by rintro rfl; simp [LaneState.hasHolder] at hh
  refine ⟨fun l => ?_, fun l i => ?_, fun g l => ?_, fun g => ?_⟩
  · by_cases hl : 0 = l
    · subst hl
      simp [held, holding, streamIn, LaneRec.consistent, hq, ready_lane, hh]
      exact hp
    · simp [held, holding, streamIn, LaneRec.consistent, hq, ready_lane, hl, LaneState.awaits, LaneState.hasHolder]
  · simp only [held, holding, streamIn]
    by_cases hl : 0 = l <;> by_cases hi : 1 = i <;> simp [hl, hi, hq, hs, ready_lane, ready_held]
  · have h := ready_lists.2 g l
    simp only [held, holding, streamIn]
    by_cases hl : 0 = l
    · subst hl; simpa [lane_modLane, hf] using h
    · simpa [lane_modLane, hl, hq, ready_lane, Ne.symm hl] using h
  · simpa [held, holding, streamIn] using ready_lists.1 g

/-- A change of a stream that keeps its held lane keeps the agreement. -/
theorem laneInv_modStream {s : State} {j : StreamNo} {f : StreamRec → StreamRec}
    (hf : ∀ r, (f r).heldLane = r.heldLane) (h : LaneInv s) : LaneInv (s.modStream j f) := by
  obtain ⟨h1, h2, h3, h4⟩ := h
  refine ⟨h1, fun l i => ?_, h3, h4⟩
  by_cases hj : j = i
  · subst hj; simpa [hf] using h2 l j
  · simpa [hj] using h2 l i

theorem laneInv_asking {s : State} (code : Byte) (octets : List Byte) (h : LaneInv s) : LaneInv (asking code octets s) := h

/-- An image waiting on stream 1. -/
def pendingImage (s : State) : State := s.modStream 1 fun r => { r with commitPending := true, staged := some image }

/-- The trunk DOWN; and UP, with a holder whose drain is complete, one that drains on, and one that waits for an image, a
device set waiting. -/
theorem witness_AlignmentLossTakesTrunkDown :
    (let s := State.reset.modLane 15 fun r => { r with aligned := true }
     s.resetPin = false ∧ s.uncounted = false ∧ (s.lane 15).aligned = true ∧ s.trunkUp = false)
    ∧ (∀ life ∈ [Life.draining .discard, .draining .plain, .opened], ∀ queue ∈ [[], [cell 0]],
        (let s := pendingImage (held .bound false life queue)
         s.resetPin = false ∧ s.uncounted = false ∧ (s.lane 15).aligned = true ∧ s.trunkUp = true
           ∧ (s.lane 0).holder = some 1 ∧ (s.lane 0).state = .bound ∧ (s.stream 1).life = life
           ∧ (s.stream 1).queue = queue ∧ (s.stream 1).commitPending = true ∧ (s.stream 1).staged = some image))
    ∧ (∀ life queue, LaneInv (pendingImage (held .bound false life queue)))
    ∧ (let s := launching (bound (streamIn (.draining .plain) [cell 0] ready))
       s.resetPin = false ∧ s.uncounted = false ∧ (s.lane 15).aligned = true ∧ s.trunkUp = true
         ∧ s.launches (fun _ => true) = [(0, 1)] ∧ 1 ≤ (s.stream 1).credit ∧ (s.stream 1).life = .draining .plain
         ∧ (s.stream 1).queue = [cell 0] ∧ s.turn = false ∧ { s with turns := [true] }.turn = true)
    ∧ (let s : State := { ready with trunkCommitPending := true, stagedParams := some DeviceParams.reset }
       s.trunkUp = true ∧ s.trunkCommitPending = true ∧ s.stagedParams = some DeviceParams.reset) :=
  ⟨by decide +kernel, by decide +kernel, fun _ _ => laneInv_modStream (fun _ => rfl) (laneInv_held _ _ _ _ rfl nofun),
    by decide +kernel, by decide +kernel⟩

/-- On a BOUND lane with tag 1: another tag, and the lane's tag with nothing outstanding; on a BINDING lane the lane's
tag on a lane that is not BOUND. -/
theorem witness_StaleAndStrayCells :
    (let s := bound queued
     s.resetPin = false ∧ s.uncounted = false ∧ s.trunkUp = true ∧ (s.lane 0).aligned = true ∧ 0 ≠ (s.lane 0).tag ∧ 1 = (s.lane 0).tag
       ∧ (s.lane 0).outstanding ≠ some .bind ∧ (s.lane 0).outstanding ≠ some .release
       ∧ (s.lane 0).outstanding ≠ some .laneReset)
    ∧ (let s := binding queued
       (s.lane 0).aligned = true ∧ 1 = (s.lane 0).tag ∧ (s.lane 0).state ≠ .bound) := by decide +kernel

theorem witness_PauseAndOtherTrunkCells :
    (let s := bound queued
     s.resetPin = false ∧ s.uncounted = false ∧ s.trunkUp = true ∧ (s.lane 0).aligned = true ∧ (s.lane 0).state = .bound
       ∧ 1 = (s.lane 0).tag ∧ (s.lane 0).failures + 1 < 7)
    ∧ (let s := State.reset.modLane 15 fun r => { r with aligned := true, failures := 6 }
       s.resetPin = false ∧ s.uncounted = false ∧ (s.lane 15).aligned = true ∧ s.trunkUp = false ∧ ¬ (s.lane 15).failures + 1 < 7)
    ∧ (State.reset.lane 15).aligned = false := by
  decide +kernel

theorem witness_BindAccepted :
    (let s := binding queued
     s.resetPin = false ∧ s.uncounted = false ∧ s.trunkUp = true ∧ (s.lane 0).aligned = true ∧ 1 = (s.lane 0).tag
       ∧ (s.lane 0).outstanding = some .bind ∧ (s.lane 0).holder = some 1) := by decide +kernel

/-- BINDING lanes whose holder is OPEN below the limit of 3 and at it, draining PLAIN at it, draining DISCARD; with and
without a disable pending; with and without a turn, which the claims of a refusal below the limit leave as it is. -/
theorem witness_BindRefused :
    (∀ life queue pending, LaneInv (held .binding pending life queue))
    ∧ (let s := held .binding true .opened [cell 0]
       s.resetPin = false ∧ s.uncounted = false ∧ s.trunkUp = true ∧ (s.lane 0).aligned = true ∧ 1 = (s.lane 0).tag
         ∧ (s.lane 0).outstanding = some .bind ∧ (s.lane 0).holder = some 1 ∧ (s.lane 0).disablePending = true
         ∧ (s.stream 1).life = .opened ∧ ¬ s.params.refusalLimit ≤ (s.stream 1).refusals + 1)
    ∧ (let s := (held .binding false .opened [cell 0]).modStream 1 fun r => { r with refusals := 2 }
       (s.lane 0).outstanding = some .bind ∧ (s.lane 0).disablePending = false
         ∧ s.params.refusalLimit ≤ (s.stream 1).refusals + 1)
    ∧ (∀ queue ∈ [[], [cell 0]], (let s := held .binding false (.draining .plain) queue
        (s.stream 1).life = .draining .plain ∧ (s.stream 1).queue = queue
          ∧ ¬ s.params.refusalLimit ≤ (s.stream 1).refusals + 1))
    ∧ ((held .binding false (.draining .discard) []).stream 1).life = .draining .discard
    ∧ ((held .binding false .opened []).turn = false ∧ { held .binding false .opened [] with turns := [true] }.turn = true) :=
  ⟨fun _ _ _ => laneInv_held _ _ _ _ rfl (fun _ => rfl), by decide +kernel, by decide +kernel, by decide +kernel,
    by decide +kernel, by decide +kernel⟩

theorem witness_ReleaseAndRecoveryComplete :
    (let s := held .unbinding true .opened [cell 0]
     s.resetPin = false ∧ s.uncounted = false ∧ s.trunkUp = true ∧ (s.lane 0).aligned = true ∧ 1 = (s.lane 0).tag
       ∧ (s.lane 0).outstanding = some .release ∧ (s.lane 0).holder = some 1 ∧ (s.lane 0).disablePending = true)
    ∧ (let s := laneIn 15 .recovering (some .laneReset) ready
       s.resetPin = false ∧ s.uncounted = false ∧ s.trunkUp = true ∧ (s.lane 15).aligned = true ∧ 0 = (s.lane 15).tag
         ∧ (s.lane 15).outstanding = some .laneReset ∧ (s.lane 15).disablePending = false) := by decide +kernel

/-- Stream 1 waiting for its image, without a lane. -/
def waitingImage (generation : Nat) : State :=
  queued.modStream 1 fun r => { r with commitPending := true, staged := some image, generation := generation }

/-- Nothing to do; a plain drain done and one with discard; an image waiting. -/
theorem witness_LossClaimsInOrder :
    ((queued.stream 1).heldLane = none ∧ (queued.stream 1).drainComplete = false
      ∧ (queued.stream 1).commitPending = false)
    ∧ (let s := streamIn (.draining .plain) [] ready
       (s.stream 1).heldLane = none ∧ (s.stream 1).life = .draining .plain ∧ (s.stream 1).queue = []
         ∧ (s.stream 1).commitPending = false)
    ∧ (let s := streamIn (.draining .discard) [] ready
       (s.stream 1).heldLane = none ∧ (s.stream 1).life = .draining .discard)
    ∧ (let s := waitingImage 1
       s.resetPin = false ∧ s.uncounted = false ∧ (s.stream 1).heldLane = none ∧ (s.stream 1).life = .opened
         ∧ (s.stream 1).commitPending = true ∧ (s.stream 1).staged = some image ∧ s.record = none)
    ∧ ((openRecord [1] .none (waitingImage 1)).record = some ⟨0, 7, 1, [1], .none, 0, 2, 1⟩
       ∧ ((openRecord [1] .none (waitingImage 1)).stream 1).staged = some image) := by decide +kernel

/-- Deadlines 0 and 1 at pace count 0: reached, and in the future; a disable pending that can be applied in each case,
and one that cannot. -/
theorem witness_AnswerTimeoutAndPendingDisable :
    inFuture 0 0 = false ∧ inFuture 0 1 = true
    ∧ (let s := (laneIn 2 .recovering (some .laneReset) ready).modLane 2 fun r => { r with answerDeadline := some 0 }
       s.resetPin = false ∧ s.uncounted = false ∧ s.paceCount = 0 ∧ (s.lane 2).answerDeadline = some 0 ∧ (s.lane 2).state = .recovering)
    ∧ (let s := (binding queued).modLane 0 fun r => { r with answerDeadline := some 0 }
       (s.lane 0).answerDeadline = some 0 ∧ (s.lane 0).state = .binding ∧ (s.lane 0).holder = some 1)
    ∧ (let s := (unbinding queued).modLane 0 fun r => { r with answerDeadline := some 0 }
       (s.lane 0).answerDeadline = some 0 ∧ (s.lane 0).state = .unbinding ∧ (s.lane 0).holder = some 1)
    ∧ ((binding queued).modLane 0 fun r => { r with answerDeadline := some 1 }).lane 0 =
        { (binding queued).lane 0 with answerDeadline := some 1 }
    ∧ (let s (st : LaneState) := (laneIn 15 st none ready).modLane 15 fun r => { r with disablePending := true }
       (s .quarantined).resetPin = false ∧ (s .quarantined).uncounted = false ∧ ((s .quarantined).lane 15).disablePending = true
         ∧ ((s .quarantined).lane 15).outstanding = none ∧ ((s .free).lane 15).state = .free)
    ∧ (let s := (bound queued).modLane 0 fun r => { r with disablePending := true }
       (s.lane 0).disablePending = true ∧ (s.lane 0).outstanding = none ∧ (s.lane 0).state = .bound
         ∧ (s.lane 0).holder = some 1)
    ∧ (ready.lane 0).disablePending = false ∧ ((held .binding true .opened []).lane 0).outstanding ≠ none := by
  decide +kernel

theorem witness_DeadlinesModulo : ∃ d k : Nat, 1 ≤ d ∧ d ≤ 2 ^ 31 - 1 ∧ k ≤ d := ⟨2 ^ 31 - 1, 2 ^ 31 - 1, by decide⟩

/-- Deadlines 0 and 1 at pace count 0: reached, and in the future; and none. -/
theorem witness_HoldAndSettleExpire :
    (let s := (bound queued).modLane 0 fun r => { r with holdDeadline := some 0 }
     s.resetPin = false ∧ s.uncounted = false ∧ inFuture s.paceCount 0 = false ∧ (s.lane 0).holdDeadline = some 0
       ∧ (s.lane 0).state = .bound ∧ (s.lane 0).holder = some 1)
    ∧ (let s := queued.modStream 1 fun r => { r with settle := some 0 }
       s.resetPin = false ∧ s.uncounted = false ∧ inFuture s.paceCount 0 = false ∧ (s.stream 1).settle = some 0)
    ∧ (let s := ((bound queued).modLane 0 fun r => { r with holdDeadline := some 1 }).modStream 1 fun r =>
         { r with settle := some 1 }
       s.resetPin = false ∧ (∀ d, (s.lane 0).holdDeadline = some d → inFuture s.paceCount d = true)
         ∧ (∀ d, (s.stream 1).settle = some d → inFuture s.paceCount d = true))
    ∧ (ready.lane 0).holdDeadline = none ∧ (ready.stream 1).settle = none := by
  refine ⟨by decide +kernel, by decide +kernel, ⟨by decide +kernel, fun d h => ?_, fun d h => ?_⟩, by decide +kernel,
    by decide +kernel⟩
  all_goals obtain rfl : (1 : PaceCount) = d := by simpa using h
  all_goals decide +kernel

/-- A BOUND lane of stream 1 with these changes of its holder and its own hold deadline. -/
def judged (f : StreamRec → StreamRec) (hold : Option PaceCount) : State :=
  ((bound opened).modStream 1 f).modLane 0 fun r => { r with holdDeadline := hold }

/-- The tests at once; demand; no grace; the cut-short; grace begun; grace that runs on. -/
theorem witness_JudgementOfBoundLane :
    ((judged id none).lane 0).state = .bound ∧ ((judged id none).lane 0).holder = some 1
    ∧ ((judged (fun r => { r with commitPending := true }) none).stream 1).commitPending = true
    ∧ (let s := judged (fun r => { r with queue := [cell 0] }) (some 9)
       (s.lane 0).disablePending = false ∧ (s.stream 1).life = .opened ∧ (s.stream 1).commitPending = false
         ∧ (s.stream 1).queue ≠ [] ∧ 1 ≤ (s.stream 1).credit)
    ∧ (let s := judged (fun r => { r with config := { r.config with holdTime := 0 } }) none
       (s.stream 1).queue = [] ∧ (s.lane 0).holdDeadline = none ∧ (s.stream 1).config.holdTime = 0)
    ∧ (let s := { (judged id (some 9)).setFree 0 [] with waiting := Table.const 4 true }
       (s.lane 0).holdDeadline ≠ none ∧ s.waiting.read (s.lane 0).group = true
         ∧ s.freeLanes.read (s.lane 0).group = [])
    ∧ (let s := judged id none
       (s.lane 0).holdDeadline = none ∧ (s.stream 1).config.holdTime ≠ 0
         ∧ s.waiting.read (s.lane 0).group = false)
    ∧ ((judged id (some 9)).lane 0).holdDeadline ≠ none := by decide +kernel

/-- Every lane state at lane 15, and BOUND at lane 0, asked for each of the four selectors. -/
theorem witness_LaneControlByState :
    (∀ k : Fin 4,
      (∀ st ∈ [LaneState.down, .recovering, .free, .binding, .unbinding, .quarantined, .disabled],
        Asked 0x10 [0, 15, BitVec.ofNat 8 k.val] (laneIn 15 st none ready) (fun s q =>
          targetOf q = 15 ∧ selectorOf q = k.val ∧ (s.lane 15).state = st ∧ s.trunkUp = true))
      ∧ Asked 0x10 [0, 0, BitVec.ofNat 8 k.val] (bound queued) (fun s q =>
          targetOf q = 0 ∧ selectorOf q = k.val ∧ (s.lane 0).state = .bound))
    ∧ (ready.lane 15).state = .free ∧ ((binding queued).lane 0).state = .binding
    ∧ Asked 0x10 [0, 15, 0] { laneIn 15 .disabled none ready with trunkUp := false } (fun s q =>
        targetOf q = 15 ∧ (s.lane 15).state = .disabled ∧ s.trunkUp = false) := by
  decide +kernel

/-- The ends of a pass, and its two rounds; the budget open at one entry below K and closed at K. -/
theorem witness_ArbiterPassRounds :
    (ready.resetPin = false ∧ ready.uncounted = false ∧ { ready with trunkCommitPending := true }.trunkCommitPending = true)
    ∧ (let s := { listed queued with budget := [0, 0, 0, 0] }
       s.params.budgetCount ≤ s.budget.length)
    ∧ (∀ e ∈ ready.requests, ready.freeLanes.read e.group = [])
    ∧ (let s := { listed queued with budget := [0, 1, 2], paceCount := 4 }
       s.trunkCommitPending = false ∧ s.budget.length < s.params.budgetCount ∧ s.budget.getLast? = some 2
         ∧ ¬ (s.paceCount - 2).toNat < s.params.bindSpacing ∧ s.requests = [] ++ ⟨1, 0, .demand, 0⟩ :: []
         ∧ s.freeLanes.read 0 = 0 :: [1, 2, 3] ∧ (s.stream 1).wantsLane s.paceCount = true
         ∧ 1 ≤ s.params.bindSpacing)
    ∧ (((listed opened).stream 1).wantsLane (listed opened).paceCount = false
       ∧ (listed opened).freeLanes.read 0 = 0 :: [1, 2, 3])
    ∧ (∀ x ∈ (listed queued).requests.filter fun x => x.stream ≠ 1, x.group ≠ 0)
    ∧ ¬ (∀ x ∈ (⟨2, 0, .lead, 0⟩ :: (listed queued).requests).filter fun x => x.stream ≠ 1, x.group ≠ 0)
    ∧ (queued.turn = false ∧ { queued with turns := [true] }.turn = true)
    ∧ (let s := twoWaiting [] []
       s.requests = ⟨1, 0, .demand, 0⟩ :: ⟨2, 0, .demand, 0⟩ :: [] ∧ s.freeLanes.read 0 = []
         ∧ ∀ e ∈ s.requests, s.freeLanes.read e.group = [])
    ∧ (let s := { twoWaiting [1] [true] with requests := [⟨1, 0, .demand, 3⟩, ⟨2, 0, .demand, 0⟩] }
       s.requests = [⟨1, 0, .demand, 3⟩] ++ ⟨2, 0, .demand, 0⟩ :: [] ∧ (0 : GroupNo) ∉ ([3] : List GroupNo)
         ∧ (3 : GroupNo) ∈ ([3] : List GroupNo) ∧ s.freeLanes.read 0 = 1 :: []
         ∧ (s.stream 2).wantsLane s.paceCount = true ∧ s.turn = true) := by decide +kernel

theorem witness_NotificationJudgesStream :
    (queued.hasEntry 1 = false ∧ (queued.stream 1).life = .opened ∧ (queued.stream 1).heldLane = none
      ∧ (queued.stream 1).settle = none ∧ (queued.stream 1).queue ≠ [] ∧ 1 ≤ (queued.stream 1).credit)
    ∧ ((listed queued).hasEntry 1 = true ∧ ((listed queued).stream 1).queue ≠ [])
    ∧ (opened.hasEntry 1 = false ∧ (listed opened).hasEntry 1 = true ∧ (opened.stream 1).queue = [])
    ∧ ((queued.stream 1).heldLane = none ∧ NotifyKind.bindTimeout ≠ .demandChange)
    ∧ ((bound queued).stream 1).heldLane ≠ none := by decide +kernel

/-- The kept request time becomes the entry's at a bind answer timeout, and at no other report of a loss; a bind begun
since is not concerned by the report (R42, R43). -/
theorem test_notify_kept_time :
    (let s := { queued.modStream 1 (fun r => { r with keptTime := some 2 }) with paceCount := 9, trunkCommitPending := true }
     (notify .bindTimeout 1 s).requests = [⟨1, 2, .demand, 0⟩]
       ∧ ((notify .bindTimeout 1 s).stream 1).keptTime = none
       ∧ (notify .releaseTimeout 1 s).requests = [⟨1, 9, .demand, 0⟩])
    ∧ (let s := (binding queued).modStream 1 fun r => { r with keptTime := some 2 }
       ((notify .releaseCompleted 1 s).stream 1).keptTime = some 2) := by decide +kernel

/-- A list in order: an older entry, then two of one age by stream number. -/
theorem witness_EntryJoinsInOrder :
    ((∃ x ∈ (listed queued).requests, x.group = 0) ∧ (∀ x ∈ (listed queued).requests, x.group ≠ 1)
      ∧ (listed queued).hasEntry 1 = true ∧ (listed queued).hasEntry 0 = false
      ∧ (listed queued).requests.find? (fun x => x.stream = 1) = some ⟨1, 0, .demand, 0⟩)
    ∧ (let age (x : RequestEntry) : Nat := min (2 ^ 31 - 1) ((9 : PaceCount) - x.time).toNat
     let ahead (x y : RequestEntry) : Prop := age y < age x ∨ (age x = age y ∧ x.stream ≤ y.stream)
     ([⟨7, 2, .lead, 0⟩, ⟨3, 5, .demand, 0⟩, ⟨4, 5, .demand, 1⟩] : List RequestEntry).Pairwise ahead) := by
  decide +kernel

theorem witness_BudgetAndSpacingExpire :
    (let s := { ready with budget := [0, 150], paceCount := 200 }
     s.resetPin = false ∧ s.uncounted = false ∧ s.budget = 0 :: [150] ∧ s.params.budgetWindow ≤ (s.paceCount - 0).toNat)
    ∧ (let s := { ready with budget := [0, 150], paceCount := 199 }
       s.budget = 0 :: [150] ∧ (s.paceCount - 0).toNat < s.params.budgetWindow)
    ∧ (let s := { ready with spacing := some 5, paceCount := 5 }
       s.spacing = some 5 ∧ inFuture s.paceCount 5 = false ∧ inFuture 4 5 = true) := by decide +kernel

theorem witness_OpenStreamOpens :
    Asked 0x0B [0, 1] (ready.modStream 1 fun r => { r with config := image, generation := 1 }) (fun s q =>
        targetOf q = 1 ∧ (s.stream 1).life = .closed ∧ 1 ≤ (s.stream 1).generation)
    ∧ (let r := ready.stream 1
       ¬ (1 ≤ r.credit ↔ 1 ≤ image.initialCredit))
    ∧ Asked 0x0B [0, 1] opened (fun s q => targetOf q = 1 ∧ (s.stream 1).life ≠ .closed)
    ∧ Asked 0x0B [1, 255] ready (fun s q =>
        targetOf q = 511 ∧ (s.stream 511).life = .closed ∧ (s.stream 511).generation = 0) := by decide +kernel

/-- Each life state, with and without cells and a lane. -/
theorem witness_PlainCloseAndClearHold :
    Asked 0x0C [1, 255, 0] ready (fun s q => targetOf q = 511 ∧ selectorOf q = 0 ∧ (s.stream 511).life = .closed)
    ∧ Asked 0x0C [0, 1, 0] (streamIn (.draining .plain) [cell 0] ready) (fun s q =>
        targetOf q = 1 ∧ (s.stream 1).life = .draining .plain)
    ∧ Asked 0x0C [0, 1, 0] queued (fun s _ => (s.stream 1).life = .opened ∧ (s.stream 1).queue ≠ [])
    ∧ Asked 0x0C [0, 1, 0] (bound opened) (fun s _ => (s.stream 1).life = .opened ∧ (s.stream 1).queue = []
        ∧ (s.stream 1).heldLane = some 0 ∧ (s.lane 0).holder = some 1 ∧ (s.lane 0).state = .bound)
    ∧ Asked 0x0C [0, 1, 0] opened (fun s _ =>
        (s.stream 1).life = .opened ∧ (s.stream 1).queue = [] ∧ (s.stream 1).heldLane = none)
    ∧ Asked 0x0C [0, 1, 0] (streamIn .held [cell 0] ready) (fun s _ => (s.stream 1).life = .held
        ∧ (s.stream 1).heldLane = none)
    ∧ Asked 0x0D [0, 1] (streamIn .held [cell 0] ready) (fun s q => targetOf q = 1 ∧ (s.stream 1).life = .held)
    ∧ Asked 0x0D [0, 1] queued (fun s q => targetOf q = 1 ∧ (s.stream 1).life ≠ .held) := by
  refine ⟨?_, ?_, ?_, ?_, ?_, ?_, ?_, ?_⟩ <;> decide +kernel

theorem witness_DiscardCloseFlushes :
    Asked 0x0C [1, 255, 1] ready (fun s q => targetOf q = 511 ∧ selectorOf q = 1 ∧ (s.stream 511).life = .closed)
    ∧ Asked 0x0C [0, 1, 1] (bound (streamIn (.draining .discard) [] ready)) (fun s q =>
        targetOf q = 1 ∧ selectorOf q = 1 ∧ (s.stream 1).life = .draining .discard)
    ∧ Asked 0x0C [0, 1, 1] (streamIn .held [cell 0] ready) (fun s _ => (s.stream 1).life = .held
        ∧ (s.stream 1).heldLane = none)
    ∧ Asked 0x0C [0, 1, 1] (streamIn (.draining .plain) [cell 0] ready) (fun s _ =>
        (s.stream 1).life = .draining .plain ∧ (s.stream 1).heldLane = none)
    ∧ ∀ state ∈ [LaneState.bound, .binding, .unbinding], Asked 0x0C [0, 1, 1] (holding state state.awaits queued) (fun s _ =>
        (s.stream 1).life = .opened ∧ (s.stream 1).heldLane = some 0 ∧ (s.lane 0).holder = some 1
          ∧ (s.lane 0).state = state) := by decide +kernel

theorem witness_DrainCompletionCloses :
    (let s := streamIn (.draining .plain) [] ready
     s.resetPin = false ∧ s.uncounted = false ∧ (s.stream 1).heldLane = none ∧ (s.stream 1).life = .draining .plain
       ∧ (s.stream 1).queue = [])
    ∧ ((streamIn (.draining .discard) [] ready).stream 1).life = .draining .discard
    ∧ (let s := bound (streamIn (.draining .plain) [] ready)
       s.resetPin = false ∧ s.uncounted = false ∧ (s.stream 1).heldLane ≠ none) := by decide +kernel

/-- Stream and device images at the ends of their ranges, and one step past an end. -/
theorem witness_ImagesChecked :
    (streamImageAt (octetTable 56 [5, 3, 1, 15, 15, 1, 0, 1, 0, 1, 0x0F, 0xFF, 0x3F]) 0).isSome = true
    ∧ streamImageAt (octetTable 56 [6, 3, 1, 15, 15, 1, 0, 1, 0, 1, 0x0F, 0xFF, 0x3F]) 0 = none
    ∧ (deviceImageAt (octetTable 56 ([0x03, 0xE8, 8, 0, 1, 0, 1, 0x0F, 0xFF, 7, 0, 0, 1, 0xFF, 0, 0, 0, 0, 0, 0, 0])) 0
        ).isSome = true
    ∧ (deviceImageAt (octetTable 56 ([0x03, 0xE8, 8, 0, 1, 0, 1, 0x0F, 0xFF, 7, 0, 0, 1, 5, 0, 0, 0, 0, 0, 0, 0])) 0
        ).isSome = true
    ∧ deviceImageAt (octetTable 56 ([0x03, 0xE9, 8, 0, 1, 0, 1, 0x0F, 0xFF, 7, 0, 0, 1, 0xFF, 0, 0, 0, 0, 0, 0, 0])) 0
        = none := by decide +kernel

theorem witness_StagingStoresWholeImages :
    Asked 0x08 ([1, 255, 0] ++ image.octets 0) ready (fun _ q =>
        targetOf q = 511 ∧ streamImageAt q.payload 3 = some image)
    ∧ Asked 0x08 [0, 0, 0] ready (fun _ q => targetOf q = 0 ∧ streamImageAt q.payload 3 = none)
    ∧ Asked 0x06 ([0, 0, 0] ++ DeviceParams.reset.octets) ready (fun _ q =>
        deviceImageAt q.payload 3 = some DeviceParams.reset)
    ∧ Asked 0x06 [0, 0, 0] ready (fun _ q => deviceImageAt q.payload 3 = none)
    ∧ (∀ v : Fin 3, Asked 0x07 [0, 5, 0, 1, BitVec.ofNat 8 v.val] ready (fun _ q =>
        targetOf q = 5 ∧ (octetAt q.payload 3).toNat ≤ 1 ∧ (octetAt q.payload 4).toNat = v.val))
    ∧ Asked 0x07 [0, 5, 0, 2, 0] ready (fun _ q => targetOf q = 5 ∧ 1 < (octetAt q.payload 3).toNat)
    ∧ Asked 0x07 [0, 5, 0, 1, 3] ready (fun _ q => targetOf q = 5 ∧ 2 < (octetAt q.payload 4).toNat) := by
  refine ⟨?_, ?_, ?_, ?_, ?_, ?_, ?_⟩ <;> decide +kernel

theorem witness_StreamImageApplied :
    (∀ g : Fin 2,
      (let s := waitingImage (65534 + g.val)
       s.resetPin = false ∧ s.uncounted = false ∧ (s.stream 1).heldLane = none ∧ (s.stream 1).commitPending = true
         ∧ (s.stream 1).staged = some image ∧ s.record = none))
    ∧ (∀ streams ∈ ([[1, 511], [1]] : List (List StreamNo)),
        (openRecord streams .none (waitingImage 1)).record = some ⟨0, 7, 1, streams, .none, 0, 2, 1⟩ ∧ 1 ∈ streams)
    ∧ ((openRecord [511] .none (waitingImage 1)).record = some ⟨0, 7, 1, [511], .none, 0, 2, 1⟩
       ∧ 1 ∉ ([511] : List StreamNo))
    ∧ (bound queued).resetPin = false ∧ (bound queued).uncounted = false ∧ ((bound queued).stream 1).heldLane ≠ none
    ∧ (queued.stream 1).commitPending = false := by decide +kernel

/-- A device parameter set waiting, with no lane in handshake and with one. -/
def waitingSet (s : State) : State := { s with trunkCommitPending := true, stagedParams := some DeviceParams.reset }

theorem witness_DeviceSetApplied :
    (let s := waitingSet ready
     s.resetPin = false ∧ s.uncounted = false ∧ s.trunkCommitPending = true ∧ s.stagedParams = some DeviceParams.reset
       ∧ ∀ l, (s.lane l).state ≠ .binding ∧ (s.lane l).state ≠ .unbinding ∧ (s.lane l).state ≠ .recovering)
    ∧ ((waitingSet (binding queued)).lane 0).state = .binding
    ∧ ready.trunkCommitPending = false ∧ ready.stagedParams = none := by decide +kernel

theorem witness_CompletedCommitAnswered :
    (let s := openRecord [] .applied ready
     s.record = some ⟨0, 7, 1, [], .applied, 0, 2, 1⟩ ∧ s.barred = some 0 ∧ DevicePart.applied ≠ .pending)
    ∧ (openRecord [1] .none ready).record = some ⟨0, 7, 1, [1], .none, 0, 2, 1⟩
    ∧ (openRecord [] .pending ready).record = some ⟨0, 7, 1, [], .pending, 0, 2, 1⟩
    ∧ (let s := { openRecord [] .none ready with commitAnswer := some ⟨7, .done, octetTable 56 []⟩ }
       s.resetPin = false ∧ s.uncounted = false ∧ s.commitAnswer = some ⟨7, .done, octetTable 56 []⟩ ∧ s.barred = some 0)
    ∧ ready.commitAnswer = none := by decide +kernel

theorem witness_CommitDeadlineExpires :
    (let s := openRecord [1] .pending ready
     s.resetPin = false ∧ s.uncounted = false ∧ s.record = some ⟨0, 7, 1, [1], .pending, 0, 2, 1⟩ ∧ s.barred = some 0
       ∧ inFuture s.paceCount 0 = false)
    ∧ inFuture { openRecord [1] .pending ready with paceCount := 0xFFFFFFFF }.paceCount 0 = true
    ∧ ready.record = none := by decide +kernel

/-- A COMMIT in flight from edge port E5, so that E0 is not barred. -/
def committing (s : State) : State := { openRecord [1] .none s with barred := some 5 }

/-- The octets of a COMMIT that lists `n` streams, each number 1. -/
def listing (n : Nat) : List Byte :=
  [0, 0, 1, 0, BitVec.ofNat 8 n] ++ (List.replicate n ([0, 1] : List Byte)).flatten

/-- The status that refuses a COMMIT's scope. -/
def refusedScope (q : Request) : Option Status :=
  match commitScopeOf q with
  | .ok _ => none
  | .error status => some status

theorem commitScopeOf_eq_ok {q : Request} {scope : CommitScope} :
    commitScopeOf q = .ok scope ↔ (commitScopeOf q).toOption = some scope := by
  cases h : commitScopeOf q <;> simp [Except.toOption]

theorem commitScopeOf_eq_error {q : Request} {status : Status} :
    commitScopeOf q = .error status ↔ refusedScope q = some status := by
  cases h : commitScopeOf q <;> simp [refusedScope, h]

/-- A record open; no port left at FULL; nothing to do; each refusal and each scope, with lists of 0, 1, 16 and 17 and a
stream number of 512. -/
theorem witness_CommitChecked :
    Asked 0x0A [0, 0, 0] (committing ready) (fun s q =>
        s.record.isSome = true ∧ (commitScopeOf q).toOption = some ⟨false, false, .absent⟩)
    ∧ Asked 0x0A [0, 0, 0, 2] (ready.modPort 0 fun r => { r with staged := some ⟨true, .read⟩ }) (fun s q =>
        s.record = none ∧ (commitScopeOf q).toOption = some ⟨false, true, .absent⟩
          ∧ ∀ x, ((s.port x).staged.getD (s.port x).record).level ≠ .full)
    ∧ Asked 0x0A [0, 0, 0, 0] ready (fun s q =>
        s.record = none ∧ selectorOf q = 0 ∧ octetAt q.payload 3 = 0)
    ∧ Asked 0x0A [0, 0, 3] ready (fun _ q => selectorOf q = 3 ∧ refusedScope q = some .badValue)
    ∧ Asked 0x0A [0, 0, 2] ready (fun _ q => selectorOf q = 2 ∧ (commitScopeOf q).toOption = some ⟨false, false, .allStaged⟩)
    ∧ (∀ n ∈ [0, 17], Asked 0x0A (listing n) ready (fun _ q =>
        selectorOf q = 1 ∧ (octetAt q.payload 4).toNat = n ∧ refusedScope q = some .badValue))
    ∧ (∀ n ∈ [1, 16], Asked 0x0A (listing n) ready (fun _ q =>
        selectorOf q = 1 ∧ (octetAt q.payload 4).toNat = n
          ∧ ∀ k < n, word16At q.payload (5 + 2 * k) ≤ 511))
    ∧ Asked 0x0A [0, 0, 1, 0, 2, 0, 1, 2, 0] ready (fun _ q =>
        selectorOf q = 1 ∧ (octetAt q.payload 4).toNat = 2 ∧ 511 < word16At q.payload 7
          ∧ refusedScope q = some .badTarget) := by
  refine ⟨?_, ?_, ?_, ?_, ?_, ?_, ?_, ?_⟩ <;> decide +kernel

/-- Stream 1 with a staged image, free and holding a lane, listed and not; the ports and the device flag; lanes quiet
and in handshake; and holding a BOUND lane, where lanes and streams agree. -/
theorem witness_CommitTaken :
    Asked 0x0A [0, 0, 1, 3, 1, 0, 1] { opened.modStream 1 (fun r => { r with staged := some image }) with
        stagedParams := some DeviceParams.reset } (fun s q =>
        (commitScopeOf q).toOption = some ⟨true, true, .list [1]⟩ ∧ s.record = none
          ∧ ((s.port 0).staged.getD (s.port 0).record).level = .full ∧ (s.stream 1).staged = some image
          ∧ (s.stream 1).heldLane = none ∧ (s.stream 511).staged = none ∧ s.stagedParams = some DeviceParams.reset
          ∧ ∀ l, (s.lane l).state ≠ .binding ∧ (s.lane l).state ≠ .unbinding ∧ (s.lane l).state ≠ .recovering)
    ∧ Asked 0x0A [0, 0, 2, 1] { (binding queued).modStream 1 (fun r => { r with staged := some image }) with
        stagedParams := some DeviceParams.reset } (fun s q =>
        (commitScopeOf q).toOption = some ⟨true, false, .allStaged⟩ ∧ s.record = none ∧ (s.stream 1).staged = some image
          ∧ (s.stream 1).heldLane ≠ none ∧ s.stagedParams = some DeviceParams.reset
          ∧ (s.lane 0).state = .binding)
    ∧ Asked 0x0A [0, 0, 0, 0] ready (fun s q =>
        (commitScopeOf q).toOption = some ⟨false, false, .absent⟩ ∧ s.record = none ∧ s.stagedParams = none)
    ∧ (let s := (held .bound false .opened [cell 0]).modStream 1 fun r => { r with staged := some image }
       Asked 0x0A [0, 0, 1, 0, 1, 0, 1] s (fun s q =>
         (commitScopeOf q).toOption = some ⟨false, false, .list [1]⟩ ∧ s.record = none ∧ (s.stream 1).staged = some image
           ∧ (s.stream 1).heldLane = some 0 ∧ (s.lane 0).state = .bound)
         ∧ LaneInv (asking 0x0A [0, 0, 1, 0, 1, 0, 1] s)) :=
  ⟨by decide +kernel, by decide +kernel, by decide +kernel, by decide +kernel,
    laneInv_asking _ _ (laneInv_modStream (fun _ => rfl) (laneInv_held .bound false .opened [cell 0] rfl nofun))⟩

theorem witness_DiscardByScope :
    Asked 0x09 [0, 1, 0] (committing (waitingImage 1)) (fun s q =>
        selectorOf q = 0 ∧ targetOf q = 1 ∧ (s.stream 1).commitPending = true)
    ∧ Asked 0x09 [1, 255, 0] ready (fun s q =>
        selectorOf q = 0 ∧ targetOf q = 511 ∧ (s.stream 511).commitPending = false)
    ∧ Asked 0x09 [0, 0, 1] ready (fun s q => selectorOf q = 1 ∧ s.trunkCommitPending = false)
    ∧ Asked 0x09 [0, 0, 1] (waitingSet ready) (fun s q => selectorOf q = 1 ∧ s.trunkCommitPending = true)
    ∧ Asked 0x09 [0, 5, 2] ready (fun _ q => selectorOf q = 2 ∧ targetOf q = 5)
    ∧ Asked 0x09 [0, 0, 3] ready (fun _ q => selectorOf q = 3) := by decide +kernel

/-- E0 next after E5 (k is 0); E0 last, after five ports without a request (k is 5); a request in execution; a request
that is of another row. -/
theorem witness_AgentTakesAndAnswers :
    (∀ last ∈ [(5, 0), (0, 5)],
      (let s := { asking 0x01 [] ready with lastServed := Fin.ofNat 6 last.1 }
       s.inExecution = none ∧ last.2 < 6 ∧ (0 : PortNo).val = (s.lastServed.val + 1 + last.2) % 6
         ∧ (s.port 0).requests ≠ []
         ∧ (s.port 0).responses.length + (if (s.port 0).reserved then 1 else 0) < 8 ∧ s.barred ≠ some 0
         ∧ (∀ j < last.2, ∀ x : PortNo, x.val = (s.lastServed.val + 1 + j) % 6 → (s.port x).requests = [])
         ∧ (s.port 0).requests = request 0x01 [] :: []))
    ∧ (ready.resetPin = false ∧ ready.uncounted = false ∧ ∀ x, ready.eligible x = false)
    ∧ (let s := { ready with inExecution := some ⟨0, request 0x01 [], true, some (bare .done)⟩ }
       s.resetPin = false ∧ s.uncounted = false ∧ s.inExecution = some ⟨0, request 0x01 [], true, some (bare .done)⟩
         ∧ Instr.readDevice.takes (request 0x01 []) = true ∧ Instr.readPort.takes (request 0x01 []) = false)
    ∧ (∀ k ∈ ([(0x01, .readDevice), (0x11, .restart)] : List (Byte × Instr)),
        (let s := { asking k.1 [] ready with turns := [true] }
         s.resetPin = false ∧ s.uncounted = false ∧ s.turn = true ∧ s.nextRequest = some (0, request k.1 [])
           ∧ k.2.takes (request k.1 []) = true ∧ (s.port 0).record.level = .full ∧ ¬ (request k.1 []).badTarget
           ∧ ¬ (request k.1 []).badSelector ∧ (request k.1 []).code ≠ 0x0A))
    ∧ (let q := request 0x0A (listing 16)
       q.code = 0x0A ∧ (commitScopeOf q).toOption.isSome = true ∧ ¬ q.badTarget ∧ ¬ q.badSelector)
    ∧ Asked 0x0C [0, 1, 1] ready (fun _ q => Instr.closeStream.isManagement = true
        ∧ Instr.closeStream.takes q = false) := by
  refine ⟨?_, ?_, ?_, ?_, ?_, ?_⟩ <;> decide +kernel

/-- Levels NONE and READ; an unknown code. -/
theorem witness_RequestsChecked_privilege :
    (∀ level ∈ ([.none, .read] : List Level),
      (let s := (asking 0x06 [] ready).modPort 0 fun r => { r with record := ⟨true, level⟩ }
       s.resetPin = false ∧ s.uncounted = false ∧ s.nextRequest = some (0, request 0x06 [])
         ∧ Instr.stageDevice.takes (request 0x06 []) = true ∧ (s.port 0).record.level = level))
    ∧ (∀ code ∈ ([0x00, 0x12, 0xFF] : List Byte), Asked code [] ready (fun _ q =>
        Instr.unknownCommandCode.takes q = true)) := by decide +kernel

/-- The same request at edge port E0 at level READ. -/
def askingAtRead (code : Byte) (octets : List Byte) : State :=
  (asking code octets ready).modPort 0 fun r => { r with record := ⟨true, .read⟩ }

/-- At level READ: a lane and a notice target out of range, and a selector that no READ-STREAM has. -/
theorem witness_RequestsChecked_read :
    (∀ k ∈ ([(0x03, [0, 16, 0]), (0x05, [1, 0, 6]), (0x04, [1, 255, 4])] : List (Byte × List Byte)),
      (askingAtRead k.1 k.2).resetPin = false ∧ (askingAtRead k.1 k.2).uncounted = false ∧ (askingAtRead k.1 k.2).nextRequest = some (0, request k.1 k.2)
        ∧ ((askingAtRead k.1 k.2).port 0).record.level = .read ∧ k.1.toNat ≤ 5)
    ∧ (request 0x03 [0, 16, 0]).badTarget ∧ (request 0x05 [1, 0, 6]).badTarget
    ∧ ¬ (request 0x04 [1, 255, 4]).badTarget ∧ (request 0x04 [1, 255, 4]).badSelector
    ∧ Instr.readLane.takes (request 0x03 [0, 16, 0]) = true
    ∧ Instr.readNotices.takes (request 0x05 [1, 0, 6]) = true
    ∧ Instr.readStream.takes (request 0x04 [1, 255, 4]) = true := by
  refine ⟨?_, ?_, ?_, ?_, ?_, ?_, ?_, ?_⟩ <;> decide +kernel

/-- Targets and selectors one past their ranges. -/
theorem witness_RequestsChecked :
    Asked 0x04 [2, 0] ready (fun _ q => Instr.readStream.takes q = true ∧ 511 < targetOf q)
    ∧ Asked 0x10 [0, 16, 0] ready (fun _ q => Instr.laneControlEnable.takes q = true ∧ 15 < targetOf q)
    ∧ Asked 0x07 [0, 6, 0] ready (fun _ q => Instr.stagePort.takes q = true ∧ 5 < targetOf q)
    ∧ Asked 0x05 [4, 0, 0] ready (fun _ q => Instr.readNotices.takes q = true ∧ noticeTargetOf q = none)
    ∧ Asked 0x09 [0, 6, 2] ready (fun _ q => Instr.discard.takes q = true ∧ 5 < targetOf q ∧ selectorOf q = 2)
    ∧ Asked 0x09 [2, 0, 0] ready (fun _ q => Instr.discard.takes q = true ∧ 511 < targetOf q ∧ selectorOf q = 0)
    ∧ Asked 0x0E [1, 255, 3] ready (fun _ q =>
        Instr.timerControlStop.takes q = true ∧ targetOf q = 511 ∧ 2 < selectorOf q)
    ∧ Asked 0x02 [0, 5, 3] ready (fun _ q => Instr.readPort.takes q = true ∧ targetOf q = 5 ∧ 2 < selectorOf q)
    ∧ Asked 0x03 [0, 15, 2] ready (fun _ q =>
        Instr.readLane.takes q = true ∧ targetOf q = 15 ∧ 1 < selectorOf q) := by
  refine ⟨?_, ?_, ?_, ?_, ?_, ?_, ?_, ?_, ?_⟩ <;> decide +kernel

theorem witness_ReadsReturnTheirParts :
    (∀ k : Fin 3, Asked 0x01 [0, 0, BitVec.ofNat 8 k.val] ready (fun _ q => selectorOf q = k.val))
    ∧ (∀ k : Fin 3, Asked 0x02 [0, 5, BitVec.ofNat 8 k.val] ready (fun _ q => targetOf q = 5 ∧ selectorOf q = k.val))
    ∧ (∀ k : Fin 2, Asked 0x03 [0, 15, BitVec.ofNat 8 k.val] ready (fun _ q => targetOf q = 15 ∧ selectorOf q = k.val))
    ∧ (∀ k : Fin 4, Asked 0x04 [1, 255, BitVec.ofNat 8 k.val] ready (fun _ q => targetOf q = 511 ∧ selectorOf q = k.val))
    ∧ Asked 0x05 [3, 1, 255] ready (fun _ q => noticeTargetOf q = some (.stream 511))
    ∧ Asked 0x05 [0, 9, 9] ready (fun _ q => noticeTargetOf q = some .device) := by decide +kernel

theorem witness_ReadLayouts :
    ready.freeBuffers ≤ 2048
    ∧ ((queued.stream 1).count ≤ 65535 ∧ (queued.stream 1).credit ≤ 15 ∧ (queued.stream 1).queue.length ≤ 255
      ∧ (queued.stream 1).refusals ≤ 7 ∧ queued.hasEntry 1 = false)
    ∧ (listed queued).requests.find? (fun e => e.stream = 1) = some ⟨1, 0, .demand, 0⟩
    ∧ ((ready.port 0).requests.length ≤ 255
      ∧ (ready.port 0).responses.length + (if (ready.port 0).reserved then 1 else 0) ≤ 255)
    ∧ (let m := image
       m.queueLimit ≤ 255 ∧ m.creditCap ≤ 15 ∧ m.initialCredit ≤ 15 ∧ m.reload ≤ 65535 ∧ m.holdTime ≤ 65535
         ∧ m.leadPoint = some 1 ∧ (queued.stream 1).config = m ∧ (queued.stream 1).generation ≤ 65535)
    ∧ (let d := DeviceParams.reset
       d.paceMultiplier ≤ 65535 ∧ d.budgetCount ≤ 255 ∧ d.budgetWindow ≤ 65535 ∧ d.bindSpacing ≤ 65535
         ∧ d.answerTimeout ≤ 65535 ∧ d.refusalLimit ≤ 255 ∧ d.settleInterval ≤ 255 ∧ d.commitTimeout ≤ 65535)
    ∧ (let s := after (.trunkOtherKindCell 4 0x1) ready
       (NoticeTarget.lane 4).points.filter (fun pt => (s.entry pt).isSome) = [.lane 4 .strayControl]
         ∧ s.entry (.lane 4 .strayControl) = some ⟨1, 0⟩)
    ∧ (Report.mk (.lane 15 .strayControl) 5 255 true).occurrences ≤ 255 := by decide +kernel

/-- The payload of a report, written out (R171). -/
theorem test_report_payload :
    (Report.mk (.stream 300 .held) 0x01020304 7 true).payload.toList.take 9
      = [3, 1, 0x2C, 0x14, 7, 1, 2, 3, 4] := by decide +kernel

/-- An open record of edge port E5 in which stream 1 waits for its image. -/
def recorded : State :=
  { (waitingImage 1).modPort 5 fun r => { r with reserved := true } with
    record := some ⟨5, 7, 1, [1], .none, 0, 2, 1⟩
    barred := some 5 }

theorem stream_waitingImage {i : StreamNo} (h : 1 ≠ i) : (waitingImage 1).stream i = StreamRec.reset := by
  have hr : ready.streams.read i = StreamRec.reset := Table.read_const _ _
  simpa [waitingImage, queued, streamIn, h, State.stream] using hr

/-- There a port is barred exactly while the record is open, and what is commit pending has an image. -/
theorem commitInv_recorded : CommitInv recorded := by
  refine ⟨rfl, rfl, nofun, fun i => ?_, fun c h => ?_⟩
  · by_cases h : 1 = i
    · subst h; decide +kernel
    · rw [show recorded.stream i = (waitingImage 1).stream i from rfl, stream_waitingImage h]; decide
  · simp only [recorded, Option.some.injEq] at h
    subst h
    decide +kernel

theorem commitInv_ready : CommitInv ready := by
  refine ⟨rfl, rfl, nofun, fun i h => ?_, nofun⟩
  rw [show ready.stream i = StreamRec.reset from Table.read_const _ _] at h
  contradiction

/-- A request of edge port E0 has no part in it. -/
theorem commitInv_asking {s : State} (code : Byte) (octets : List Byte) (h : CommitInv s) :
    CommitInv (asking code octets s) := h

/-- No record, a waiting device set, and the record of another port, owed and void. -/
theorem witness_RestartClears :
    Asked 0x11 [] ready (fun s _ => s.trunkCommitPending = false)
    ∧ Asked 0x11 [] (waitingSet ready) (fun s _ =>
        s.trunkCommitPending = true ∧ s.stagedParams = some DeviceParams.reset)
    ∧ Asked 0x11 [] recorded (fun s _ => s.record = some ⟨5, 7, 1, [1], .none, 0, 2, 1⟩ ∧ s.owedVoid = false
        ∧ (s.stream 1).commitPending = true ∧ (s.stream 1).staged = some image)
    ∧ CommitInv (asking 0x11 [] ready) ∧ CommitInv (asking 0x11 [] recorded)
    ∧ CommitInv (asking 0x11 [] { recorded with owedVoid := true }) :=
  ⟨by decide +kernel, by decide +kernel, by decide +kernel, commitInv_asking _ _ commitInv_ready,
    commitInv_asking _ _ commitInv_recorded,
    commitInv_asking _ _ (have ⟨h1, h2, _, h4⟩ := commitInv_recorded; ⟨h1, h2, nofun, h4⟩)⟩

/-- A cell that passes and one that does not, headers of each kind being formed by `formCell`; a boundary; seven cells
of which the seventh failure is the last. -/
theorem witness_CellsFormedAndSorted :
    (formCell (Header.mk 0xC 0 15 511 255 255 0x03) (octetTable 56 [])).passes = true
    ∧ Cell.passes (octetTable 64 []) = false
    ∧ (Header.mk 0xC 0 15 511 255 255 0x03).lane < 16
    ∧ (let octets : List Byte := (List.replicate 6 ([0, 0, 0, 0, 0, 0, 0x0E, 0x10] ++ List.replicate 56 0)).flatten
       0 + 384 ≤ octets.length ∧ ∀ n < 6,
         headerCheck ((octets.drop (0 + 64 * n)).take 6) =
           octets.getD (0 + 64 * n + 6) 0 ++ octets.getD (0 + 64 * n + 7) 0)
    ∧ (let cells : List Cell := List.replicate 7 (octetTable 64 [])
       6 ≤ 6 ∧ 6 < cells.length ∧ ∀ j ≤ 6, (cells[6 - j]?).map Cell.passes = some false) := by decide +kernel

theorem witness_ImageRoundTrip :
    ([0, 0, 0] : List Byte).length = 3 ∧ 1 ≤ image.queueLimit ∧ image.queueLimit ≤ 255 ∧ 1 ≤ image.reload
    ∧ image.reload ≤ 65535 ∧ (image.leadPoint = some 1 ∧ 1 ≤ image.reload) ∧ 1 ≤ image.creditCap
    ∧ image.creditCap ≤ 15 ∧ image.initialCredit ≤ image.creditCap ∧ image.holdTime ≤ 4095
    ∧ (let d := DeviceParams.reset
       1 ≤ d.paceMultiplier ∧ d.paceMultiplier ≤ 1000 ∧ 1 ≤ d.budgetCount ∧ d.budgetCount ≤ 8 ∧ 1 ≤ d.budgetWindow
         ∧ d.budgetWindow ≤ 65535 ∧ d.bindSpacing ≤ 4095 ∧ d.bindSpacing ≤ d.budgetWindow ∧ 1 ≤ d.answerTimeout
         ∧ d.answerTimeout ≤ 4095 ∧ 1 ≤ d.refusalLimit ∧ d.refusalLimit ≤ 7 ∧ d.settleInterval ≤ 255
         ∧ 1 ≤ d.commitTimeout ∧ d.commitTimeout ≤ 65535) := by decide +kernel

/-! The invariants hold away from reset: with a command waiting, so that a step runs it. -/

/-- `held .bound` with a stroke waiting. -/
def stepping : State := { held .bound false .opened [cell 0] with pending := [.stroke] }

theorem stepping_steps : ∃ t, step stepping = .next t := ⟨_, rfl⟩

theorem witness_StepKeepsPool : ∃ s t, step s = .next t ∧ PoolInv s :=
  ⟨stepping, _, stepping_steps.choose_spec, by unfold PoolInv; decide +kernel⟩

theorem stream_stepping {i : StreamNo} (h : 1 ≠ i) : stepping.stream i = StreamRec.reset := by
  have hs : stepping.stream i = (held .bound false .opened [cell 0]).stream i := rfl
  have hr : ready.streams.read i = StreamRec.reset := Table.read_const _ _
  rw [hs]
  simpa [held, holding, streamIn, h, State.stream] using hr

theorem witness_StepKeepsStreams : ∃ s t, step s = .next t ∧ PacingInv s ∧ LifeInv s := by
  refine ⟨stepping, _, stepping_steps.choose_spec, fun i => ?_, fun i => ?_⟩
  · by_cases h : 1 = i
    · subst h
      exact ⟨by decide +kernel, by decide +kernel, by decide +kernel, nofun⟩
    · rw [stream_stepping h]
      exact ⟨by decide, by decide, by decide, nofun⟩
  · by_cases h : 1 = i
    · subst h
      decide +kernel
    · rw [stream_stepping h]
      exact ⟨fun _ => ⟨rfl, rfl, rfl, rfl, rfl⟩, nofun, nofun, nofun⟩

theorem witness_StepKeepsQueueBounds : ∃ s t, step s = .next t ∧ QueueInv s ∧ CommitInv s ∧ ReportInv s := by
  refine ⟨stepping, _, stepping_steps.choose_spec, by unfold QueueInv; decide +kernel,
    ⟨rfl, rfl, nofun, fun i h => ?_, nofun⟩, by unfold ReportInv; decide +kernel⟩
  by_cases hi : 1 = i
  · subst hi; exact absurd h (by decide +kernel)
  · rw [stream_stepping hi] at h; contradiction

theorem witness_StepKeepsArbiterLists : ∃ s t, step s = .next t ∧ BudgetInv s ∧ ListInv s :=
  ⟨stepping, _, stepping_steps.choose_spec, ⟨by decide +kernel, nofun, by decide +kernel⟩,
    by unfold ListInv; decide +kernel⟩

theorem witness_StepKeepsLanes : ∃ s t, step s = .next t ∧ LaneInv s ∧ TrunkInv s :=
  ⟨stepping, _, stepping_steps.choose_spec, laneInv_held .bound false .opened [cell 0] rfl nofun,
    by decide +kernel, by decide +kernel⟩

end Sys2Proof.Tests
end

/-! The pacing statements: deadlines and their expiries, the taking of a notification, the READ commands, TIMER-CONTROL,
and the counting of a stroke. -/

namespace Sys2Proof.Proofs.Pacing

open Sys2Proof Sys2Proof.Machine

/-! ### One record -/

/-- Only what a change makes of the record it finds counts. -/
theorem modStream_congr {s : State} {i : StreamNo} {f g : StreamRec → StreamRec} (h : f (s.stream i) = g (s.stream i)) :
    s.modStream i f = s.modStream i g := by simp only [State.modStream, h]

theorem modLane_congr {s : State} {l : LaneNo} {f g : LaneRec → LaneRec} (h : f (s.lane l) = g (s.lane l)) :
    s.modLane l f = s.modLane l g := by simp only [State.modLane, h]

/-- A change that leaves the record it finds leaves the state. -/
theorem modStream_unchanged {s : State} {i : StreamNo} {f : StreamRec → StreamRec} (h : f (s.stream i) = s.stream i) :
    s.modStream i f = s := by simp only [State.modStream, h, setStream_self]

/-! ### Deadlines (R22) -/

theorem inFuture_iff (now deadline : PaceCount) :
    inFuture now deadline = true ↔ 1 ≤ (deadline - now).toNat ∧ (deadline - now).toNat ≤ 2 ^ 31 - 1 := by
  simp only [inFuture, Bool.and_eq_true, decide_eq_true_eq]
  omega

/-- After `k` of the `d` pace units of a duration, `d - k` lie ahead. -/
theorem toNat_deadlineAfter_sub (now : PaceCount) {d k : Nat} (hd : d < 2 ^ 32) (hk : k ≤ d) :
    (deadlineAfter now d - (now + BitVec.ofNat 32 k)).toNat = d - k := by
  have hnow := now.isLt
  simp only [deadlineAfter, BitVec.toNat_sub, BitVec.toNat_add, BitVec.toNat_ofNat]
  omega

/-- Settles O27: what lies ahead of a deadline shrinks by one with each pace unit. -/
theorem deadlinesModulo : Obligations.DeadlinesModulo := by
  refine ⟨inFuture_iff, fun now d k _ hd hk => ?_⟩
  rw [Bool.eq_iff_iff, inFuture_iff, toNat_deadlineAfter_sub now (by omega) hk, decide_eq_true_eq]
  omega

/-! ### Expiries (R68, R93, R125) -/

/-- A deadline is due when it is there and not in the future. -/
theorem due_some {now d : PaceCount} (h : inFuture now d = false) : due now (some d) = true := by simp [due, h]

theorem due_eq_false {now : PaceCount} {o : Option PaceCount} (h : ∀ d, o = some d → inFuture now d = true) :
    due now o = false := by
  cases o with
  | none => rfl
  | some d => simp [due, h d rfl]

theorem atStroke_running {s : State} (f : State → State) (h : s.resetPin = false) : atStroke f s = .next (f s) := by
  simp [atStroke, h]

/-- A release starts the release handshake of a BOUND lane with its holder (R61, R68). -/
theorem startRelease_bound {s : State} {l : LaneNo} {i : StreamNo} (hb : (s.lane l).state = .bound)
    (hi : (s.lane l).holder = some i) : startRelease l s = s.modLane l (LaneRec.begin .release .unbinding i) := by
  rw [startRelease, if_pos hb]
  exact modLane_congr (by simp [hi])

/-- Settles O28, by what each expiry finds its deadline to be. -/
theorem holdAndSettleExpire : Obligations.HoldAndSettleExpire := by
  intro s hpin
  have hold (l : LaneNo) : exec (.holdDeadlineExpiry l) s = .next (holdExpiry l s) := atStroke_running _ hpin
  have settle (i : StreamNo) : exec (.settleDeadlineExpiry i) s = .next (settleExpiry i s) := atStroke_running _ hpin
  refine ⟨fun l i d hd hl hb hi => ?_, fun l hl => ?_, fun i d hd hi => ?_, fun i hi => ?_⟩
  · rw [hold, holdExpiry, hl, if_pos (due_some hd), startRelease_bound hb hi]
    rfl
  · rw [hold, holdExpiry, due_eq_false hl, if_neg Bool.false_ne_true]
  · rw [settle, settleExpiry, hi, if_pos (due_some hd)]
  · rw [settle, settleExpiry, due_eq_false hi, if_neg Bool.false_ne_true]

/-! ### The taking of a notification (R32, R33, R41 to R43) -/

theorem leadInput_iff (r : StreamRec) : r.leadInput = true ↔ ∃ p, r.config.leadPoint = some p ∧ r.count ≤ p := by
  cases h : r.config.leadPoint <;> simp [StreamRec.leadInput, h]

theorem mayHold_iff (r : StreamRec) : r.mayHold = true ↔ r.life = .opened ∨ ∃ k, r.life = .draining k := by
  cases h : r.life <;> simp [StreamRec.mayHold, h]

theorem settling_eq_false_iff (now : PaceCount) (r : StreamRec) :
    r.settling now = false ↔ ∀ d, r.settle = some d → inFuture now d = false := by
  cases h : r.settle <;> simp [StreamRec.settling, h]

theorem demand_iff (r : StreamRec) :
    r.demand = true ↔ r.queue ≠ [] ∧ (1 ≤ r.credit ∨ ∃ p, r.config.leadPoint = some p ∧ r.count ≤ p) := by
  simp [StreamRec.demand, StreamRec.creditInput, leadInput_iff]

/-- A stream wants a lane (R33). -/
theorem wantsLane_iff (now : PaceCount) (r : StreamRec) :
    r.wantsLane now = true ↔
      (r.life = .opened ∨ ∃ k, r.life = .draining k) ∧ r.heldLane = none
        ∧ (∀ d, r.settle = some d → inFuture now d = false)
        ∧ r.queue ≠ [] ∧ (1 ≤ r.credit ∨ ∃ p, r.config.leadPoint = some p ∧ r.count ≤ p) := by
  simp [StreamRec.wantsLane, mayHold_iff, settling_eq_false_iff, demand_iff, and_assoc]

theorem demandReason_eq (r : StreamRec) : r.demandReason = if 1 ≤ r.credit then .demand else .lead := by
  simp [StreamRec.demandReason, StreamRec.creditInput]

@[simp] theorem hasEntry_modStream (s : State) (i j : StreamNo) (f : StreamRec → StreamRec) :
    (s.modStream i f).hasEntry j = s.hasEntry j := rfl

section notify
variable {s : State} {i : StreamNo} (kind : NotifyKind)

/-- Without an entry, a stream that wants a lane gets one, and a pass is called (R41). -/
theorem notify_joins (he : s.hasEntry i = false) (hw : (s.stream i).wantsLane s.paceCount = true) :
    notify kind i s =
      callPass (joinList
        ⟨i, entryTime kind s.paceCount (s.stream i), (s.stream i).demandReason, (s.stream i).config.group⟩
        (s.modStream i (settleKeptTime kind s.paceCount))) := by
  simp [notify, he, hw]

theorem notify_idle (he : s.hasEntry i = false) (hw : (s.stream i).wantsLane s.paceCount = false) :
    notify kind i s = s.modStream i (settleKeptTime kind s.paceCount) := by
  simp [notify, he, hw]

theorem notify_keeps (he : s.hasEntry i = true) (hw : (s.stream i).wantsLane s.paceCount = true) :
    notify kind i s = setReason i (s.stream i).demandReason (s.modStream i (settleKeptTime kind s.paceCount)) := by
  simp [notify, he, hw]

theorem notify_removes (he : s.hasEntry i = true) (hw : (s.stream i).wantsLane s.paceCount = false) :
    notify kind i s = removeEntry i (s.modStream i (settleKeptTime kind s.paceCount)) := by
  simp [notify, he, hw]

end notify

/-- Settles O32, by the entry found and by what the stream wants. -/
theorem notificationJudgesStream : Obligations.NotificationJudgesStream := by
  intro s kind i r wants reason time forgotten forgets
  have hwants : r.wantsLane s.paceCount = true ↔ wants := wantsLane_iff _ _
  have hnot : r.wantsLane s.paceCount = false ↔ ¬ wants := by rw [← hwants, Bool.not_eq_true]
  have hreason : (s.stream i).demandReason = reason := demandReason_eq r
  have hforgets : forgets ↔
      kind = .bindAccepted ∨ (r.heldLane = none ∧ (kind ≠ .demandChange ∨ r.wantsLane s.paceCount = false)) := by
    rw [hnot]
  refine ⟨s.modStream i (settleKeptTime kind s.paceCount), fun h => ?_, fun h => ?_, fun he hw => ?_,
    fun he hw => notify_idle kind he (hnot.2 hw), fun he hw => ?_, fun he hw => notify_removes kind he (hnot.2 hw)⟩
  · exact modStream_congr (if_pos (hforgets.1 h))
  · exact modStream_unchanged (if_neg fun h' => h (hforgets.2 h'))
  · rw [notify_joins kind he (hwants.2 hw), hreason]
    rfl
  · rw [notify_keeps kind he (hwants.2 hw), hreason]
    rfl

/-! ### A management command in one step (R145 to R147) -/

section command
variable {s : State} {p : PortNo} {q : Request} {row : Request → Bool} {body : Body}

/-- Level FULL allows every command, level READ those that read (R146). -/
theorem privilegeFailure_full {c : Command} (h : Command.ofCode q.code = some c) : privilegeFailure .full q = none := by
  simp [privilegeFailure, h]

theorem privilegeFailure_read {level : Level} {c : Command} (hl : level ≠ .none) (h : Command.ofCode q.code = some c)
    (hc : c.isRead = true) : privilegeFailure level q = none := by
  cases level <;> simp_all [privilegeFailure]

/-- A row without selectors takes every request of its command. -/
theorem isCommand_of_ofCode {c : Command} (h : Command.ofCode q.code = some c) : isCommand c q = true := by
  simp [isCommand, h]

theorem isSelected_of_selectorOf {c : Command} {k n : Nat} (h : Command.ofCode q.code = some c)
    (hk : selectorOf q = k) : isSelected c k n q = true := by simp [isSelected, isCommand_of_ofCode h, hk]

variable (hpin : s.resetPin = false) (hcount : s.uncounted = false) (hnext : s.nextRequest = some (p, q))
  (hturn : s.turn = false) (hrow : row q = true) (hpriv : privilegeFailure (s.port p).record.level q = none)
include hpin hcount hnext hturn hrow hpriv

/-- A READ is answered DONE with its octets, and changes nothing else (R149). -/
theorem running_serve_reading {octets : State → List Byte} (hbody : body p q = reading octets) :
    running (serve row body) s =
      .next (respond p q ⟨.done, octets (takeRequest p q s).dropTurn⟩ (takeRequest p q s).dropTurn) := by
  rw [running_counted hpin hcount, serve_takes hnext hrow, takeAndCheck_ok hpriv hbody hturn]
  rfl

/-- A command of one claim is answered with the status that the claim gives (R147). -/
theorem running_serve_answering {claim : State → Status × State} (hbody : body p q = answering claim) :
    running (serve row body) s =
      .next (respond p q (bare (claim (takeRequest p q s).dropTurn).1) (claim (takeRequest p q s).dropTurn).2) := by
  rw [running_counted hpin hcount, serve_takes hnext hrow, takeAndCheck_ok hpriv hbody hturn]
  rfl

end command

@[simp] theorem streamOfNat_val (i : StreamNo) : streamOfNat i.val = some i := by simp [streamOfNat]
@[simp] theorem laneOfNat_val (l : LaneNo) : laneOfNat l.val = some l := by simp [laneOfNat]
@[simp] theorem portOfNat_val (x : PortNo) : portOfNat x.val = some x := by simp [portOfNat]

/-! ### The READ commands (R139, R149) -/

section taken
variable (s : State) (p : PortNo) (q : Request)

/-- The taking of a request leaves what a READ can read but for its own port's two queues. -/
theorem port_taken_keeps {β : Type} (g : PortRec → β)
    (h : ∀ r : PortRec, g { r with requests := r.requests.tail, reserved := true } = g r) (x : PortNo) :
    g ((takeRequest p q s).dropTurn.port x) = g (s.port x) :=
  port_modPort_keeps s g (f := fun r => { r with requests := r.requests.tail, reserved := true }) h p x

theorem entry_taken (pt : CausePoint) : (takeRequest p q s).dropTurn.entry pt = s.entry pt := by
  cases pt with
  | port x c => exact port_taken_keeps s p q (fun r => r.notices.read c.bit) (fun _ => rfl) x
  | _ => rfl

theorem noticeOctets_taken (n : NoticeTarget) :
    noticeOctets n (takeRequest p q s).dropTurn = noticeOctets n s := by
  simp only [noticeOctets, entry_taken]

theorem deviceStatusOctets_taken : deviceStatusOctets (takeRequest p q s).dropTurn = deviceStatusOctets s := by
  simp only [deviceStatusOctets, takeRequest, dropTurn_freeBuffers, dropTurn_trunkUp, dropTurn_trunkCommitPending,
    dropTurn_paceCount, modPort_freeBuffers, modPort_trunkUp, modPort_trunkCommitPending, modPort_paceCount]

theorem deviceConfigOctets_taken : deviceConfigOctets (takeRequest p q s).dropTurn = deviceConfigOctets s := by
  simp only [deviceConfigOctets, takeRequest, dropTurn_params, dropTurn_stagedParams, modPort_params,
    modPort_stagedParams]

theorem streamStateOctets_taken (i : StreamNo) :
    streamStateOctets i (takeRequest p q s).dropTurn = streamStateOctets i s := by
  simp only [streamStateOctets, stream_dropTurn, stream_takeRequest, dropTurn_requests]
  simp only [takeRequest, modPort_requests]

theorem portCounterOctets_taken (x : PortNo) :
    portCounterOctets ((takeRequest p q s).dropTurn.port x) = portCounterOctets (s.port x) :=
  port_taken_keeps s p q portCounterOctets (fun _ => rfl) x

end taken

section bodies
variable {p : PortNo} {q : Request} {octets : State → List Byte}

theorem bodyReadDevice_eq (hpart : readDeviceOctets (selectorOf q) = some octets) :
    bodyReadDevice p q = reading octets := by simp [bodyReadDevice, withPart, hpart]

theorem bodyReadPort_eq {x : PortNo} (ht : targetOf q = x.val)
    (hpart : readPortOctets x (selectorOf q) = some octets) : bodyReadPort p q = reading octets := by
  simp [bodyReadPort, withPort, withTarget, ht, withPart, hpart]

theorem bodyReadLane_eq {l : LaneNo} (ht : targetOf q = l.val)
    (hpart : readLaneOctets l (selectorOf q) = some octets) : bodyReadLane p q = reading octets := by
  simp [bodyReadLane, withLane, withTarget, ht, withPart, hpart]

theorem bodyReadStream_eq {i : StreamNo} (ht : targetOf q = i.val)
    (hpart : readStreamOctets i (selectorOf q) = some octets) : bodyReadStream p q = reading octets := by
  simp [bodyReadStream, withStream, withTarget, ht, withPart, hpart]

theorem bodyReadNotices_eq {n : NoticeTarget} (ht : noticeTargetOf q = some n) :
    bodyReadNotices p q = reading (noticeOctets n) := by simp [bodyReadNotices, withTarget, ht]

end bodies

/-- Settles O50: each READ is one claim that reads, and the taking of the request leaves what it reads. -/
theorem readsReturnTheirParts : Obligations.ReadsReturnTheirParts := by
  intro s p q hpin hcount hnext hturn hlevel t answer
  have read {c : Command} {body : Body} {octets : State → List Byte} (hcode : Command.ofCode q.code = some c)
      (hc : c.isRead = true) (hbody : body p q = reading octets) :
      running (serve (isCommand c) body) s = answer (octets t) :=
    running_serve_reading hpin hcount hnext hturn (isCommand_of_ofCode hcode) (privilegeFailure_read hlevel hcode hc)
      hbody
  refine ⟨fun hcode => ?_, fun x hcode ht => ?_, fun l hcode ht => ?_, fun i hcode ht => ?_, fun n hcode ht => ?_⟩
  · have device {k : Nat} {octets : State → List Byte} (hs : selectorOf q = k)
        (hpart : readDeviceOctets k = some octets) : exec .readDevice s = answer (octets t) :=
      read (by rw [hcode]; rfl) rfl (bodyReadDevice_eq (hs.symm ▸ hpart))
    exact ⟨fun hs => deviceStatusOctets_taken s p q ▸ (device hs rfl :),
      fun hs => deviceConfigOctets_taken s p q ▸ (device hs rfl :),
      fun hs => noticeOctets_taken s p q .device ▸ (device hs rfl :)⟩
  · have port {k : Nat} {octets : State → List Byte} (hs : selectorOf q = k)
        (hpart : readPortOctets x k = some octets) : exec .readPort s = answer (octets t) :=
      read (by rw [hcode]; rfl) rfl (bodyReadPort_eq ht (hs.symm ▸ hpart))
    exact ⟨fun hs => (port hs rfl :),
      fun hs => portCounterOctets_taken s p q x ▸ (port hs rfl :),
      fun hs => noticeOctets_taken s p q (.port x) ▸ (port hs rfl :)⟩
  · have lane {k : Nat} {octets : State → List Byte} (hs : selectorOf q = k)
        (hpart : readLaneOctets l k = some octets) : exec .readLane s = answer (octets t) :=
      read (by rw [hcode]; rfl) rfl (bodyReadLane_eq ht (hs.symm ▸ hpart))
    exact ⟨fun hs => (lane hs rfl :), fun hs => noticeOctets_taken s p q (.lane l) ▸ (lane hs rfl :)⟩
  · have stream {k : Nat} {octets : State → List Byte} (hs : selectorOf q = k)
        (hpart : readStreamOctets i k = some octets) : exec .readStream s = answer (octets t) :=
      read (by rw [hcode]; rfl) rfl (bodyReadStream_eq ht (hs.symm ▸ hpart))
    exact ⟨fun hs => (stream hs rfl :),
      fun hs => streamStateOctets_taken s p q i ▸ (stream hs rfl :),
      fun hs => (stream hs rfl :),
      fun hs => noticeOctets_taken s p q (.stream i) ▸ (stream hs rfl :)⟩
  · exact noticeOctets_taken s p q n ▸ read (by rw [hcode]; rfl) rfl (bodyReadNotices_eq ht)

/-! ### TIMER-CONTROL (R30, R31) -/

/-- Both demand inputs are kept: whether there is credit, and the lead input (R34). -/
theorem inputsDiffer_eq_false_iff (a b : StreamRec) :
    inputsDiffer a b = false ↔ (1 ≤ a.credit ↔ 1 ≤ b.credit) ∧ a.leadInput = b.leadInput := by
  simp [inputsDiffer, StreamRec.creditInput]

theorem changePacing_eq (i : StreamNo) (f : StreamRec → StreamRec) (s : State) :
    changePacing i f s =
      if (1 ≤ (s.stream i).credit ↔ 1 ≤ (f (s.stream i)).credit)
          ∧ (s.stream i).leadInput = (f (s.stream i)).leadInput
      then s.modStream i f else demandChanged i (s.modStream i f) := by
  simp only [changePacing, stream_modStream_same, ← inputsDiffer_eq_false_iff, ← Bool.not_eq_true, ite_not]

theorem timerStop_eq (r : StreamRec) :
    timerStop r = { r with timer := if r.timer = .running then .stopPending else r.timer } := by
  cases h : r.timer with
  | running => simp only [timerStop, h, if_true]
  | stopPending | stopped =>
    simp only [timerStop, h, reduceCtorEq, if_false]
    rw [← h]

/-- A change of the timer state alone is no change of a demand input. -/
theorem changePacing_timerRun (i : StreamNo) (s : State) : changePacing i timerRun s = s.modStream i timerRun :=
  (changePacing_eq i timerRun s).trans (if_pos ⟨Iff.rfl, rfl⟩)

theorem changePacing_timerStop (i : StreamNo) (s : State) : changePacing i timerStop s = s.modStream i timerStop := by
  rw [changePacing_eq, timerStop_eq]
  exact if_pos ⟨Iff.rfl, rfl⟩

section timerControl
variable {s : State} {i : StreamNo}

theorem timerControl_closed (h : (s.stream i).life = .closed) (f : StreamRec → StreamRec) :
    timerControl i f s = (.wrongState, s) := if_pos h

theorem timerControl_done (h : (s.stream i).life ≠ .closed) (f : StreamRec → StreamRec) :
    timerControl i f s = (.done, changePacing i f s) := if_neg h

theorem presetTimer_closed (h : (s.stream i).life = .closed) (clear : Bool) :
    presetTimer clear i s = (.wrongState, s) := if_pos h

/-- A preset, and the launches in flight of its stream, whose credit claims come after it (R89). -/
theorem presetTimer_done (h : (s.stream i).life ≠ .closed) (clear : Bool) :
    presetTimer clear i s =
      (.done, (s.launches (· == i)).foldl (endLaunch []) (changePacing i (timerPreset clear) s)) := if_neg h

end timerControl

section bodies
variable {p : PortNo} {q : Request} {i : StreamNo}

theorem bodyTimerRun_eq (ht : targetOf q = i.val) (hs : selectorOf q = 0) :
    bodyTimerRun p q = answering (timerControl i timerRun) := by
  simp [bodyTimerRun, withStream, withTarget, withSelector, ht, hs]

theorem bodyTimerStop_eq (ht : targetOf q = i.val) (hs : selectorOf q = 1) :
    bodyTimerStop p q = answering (timerControl i timerStop) := by
  simp [bodyTimerStop, withStream, withTarget, withSelector, ht, hs]

theorem bodyTimerPreset_eq (ht : targetOf q = i.val) (hs : selectorOf q = 2) :
    bodyTimerPreset p q = answering (presetTimer (clearCreditOf q) i) := by
  simp [bodyTimerPreset, withStream, withTarget, withSelector, ht, hs]

end bodies

/-- Settles O6: each row is one claim, refused on a CLOSED stream. -/
theorem timerControlActs : Obligations.TimerControlActs := by
  intro s p q i hpin hcount hnext hturn hfull hcode ht t r
  have hcmd : Command.ofCode q.code = some .timerControl := by rw [hcode]; rfl
  have answer {k : Nat} {body : Body} {claim : State → Status × State} {status : Status} {u : State}
      (hs : selectorOf q = k) (hbody : body p q = answering claim) (hclaim : claim t = (status, u)) :
      running (serve (isSelected .timerControl k 3) body) s = .next (respond p q (bare status) u) := by
    rw [running_serve_answering hpin hcount hnext hturn (isSelected_of_selectorOf hcmd hs)
      (hfull ▸ privilegeFailure_full hcmd) hbody, hclaim]
  refine ⟨fun hclosed => ⟨fun hs => ?_, fun hs => ?_, fun hs => ?_⟩,
    fun hopen => ⟨fun hs => ?_, fun hs => ?_, fun hs => ?_⟩⟩
  · exact answer hs (bodyTimerRun_eq ht hs) (timerControl_closed (s := t) hclosed _)
  · exact answer hs (bodyTimerStop_eq ht hs) (timerControl_closed (s := t) hclosed _)
  · exact answer hs (bodyTimerPreset_eq ht hs) (presetTimer_closed (s := t) hclosed _)
  · refine answer hs (bodyTimerRun_eq ht hs) ?_
    rw [timerControl_done (s := t) hopen, changePacing_timerRun]
    rfl
  · refine answer hs (bodyTimerStop_eq ht hs) ?_
    rw [timerControl_done (s := t) hopen, changePacing_timerStop, funext timerStop_eq]
  · intro u v
    refine answer hs (bodyTimerPreset_eq ht hs) ?_
    rw [presetTimer_done (s := t) hopen, changePacing_eq]
    have hu : u.stream i = timerPreset (clearCreditOf q) (t.stream i) := stream_modStream_same t i _
    simp only [v, hu]
    rfl

/-! ### A stroke (R21, R24, R25, R29) -/

/-- The picked indices ascend. -/
theorem indicesFrom_pairwise_lt {α : Type} {n : Nat} (p : α → Bool) (l : List α) (k : Nat) :
    (indicesFrom n p l k).Pairwise (· < ·) := by
  induction l generalizing k with
  | nil => exact .nil
  | cons x xs ih =>
    rw [indicesFrom]
    split
    · split
      · refine .cons (fun i hi => ?_) (ih _)
        obtain ⟨j, -, hij, -⟩ := (mem_indicesFrom _ _ _).1 hi
        exact Fin.lt_def.2 (by simp only; omega)
      · exact ih _
    · exact .nil

theorem indicesWhere_eq_filter {α : Type} {n : Nat} (t : Table n α) (p : α → Bool) :
    t.indicesWhere p = (List.finRange n).filter fun i => p (t.read i) := by
  refine List.Perm.eq_of_pairwise (le := (· < ·)) (fun a b _ _ hab hba => absurd hba (lt_asymm hab))
    (indicesFrom_pairwise_lt p _ _) ((List.pairwise_lt_finRange n).filter _) ?_
  rw [List.perm_ext_iff_of_nodup (t.indicesWhere_nodup p) ((List.nodup_finRange n).filter _)]
  simp

/-- A stroke of one stream, by its timer state and its count. -/
theorem struck_eq (r : StreamRec) :
    r.struck =
      if r.timer = .stopped then r
      else
        { r with
          count := if r.count = 0 then r.config.reload else r.count - 1
          credit := if r.count = 0 ∧ r.credit < r.config.creditCap then r.credit + 1 else r.credit
          timer := if r.timer = .stopPending then .stopped else r.timer } := by
  cases ht : r.timer <;> by_cases hc : r.count = 0 <;> simp [StreamRec.struck, StreamRec.counted, ht, hc]

@[simp] theorem struck_notices (r : StreamRec) : r.struck.notices = r.notices := by rw [struck_eq]; split <;> rfl

theorem saturates_eq (r : StreamRec) :
    r.saturates = decide (r.timer ≠ .stopped ∧ r.count = 0 ∧ r.config.creditCap ≤ r.credit ∧ r.queue ≠ []) := by
  rw [Bool.eq_iff_iff]
  simp [StreamRec.saturates, StreamRec.isCounted, and_assoc]

section tellStroke
variable (s : State)

/-- A stream that a stroke raises no cause for and that keeps its inputs tells nothing. -/
theorem tellStroke_silent {before : StreamRec} (h : before.strokeTells = false) (i : StreamNo) :
    tellStroke before i s = s := by
  obtain ⟨hs, hi⟩ := Bool.or_eq_false_iff.1 h
  simp [tellStroke, hs, hi]

theorem tellStroke_core (before : StreamRec) (i : StreamNo) : (tellStroke before i s).core = s.core := by
  have hnotify (t : State) : (if inputsDiffer before before.struck then demandChanged i t else t).core = t.core := by
    split
    · exact core_of_sansBinding (demandChanged_sansBinding t i)
    · rfl
  rw [tellStroke, hnotify]
  split
  · exact core_of_sansNotices (raise_sansNotices s _)
  · rfl

@[simp] theorem tellStroke_paceCount (before : StreamRec) (i : StreamNo) :
    (tellStroke before i s).paceCount = s.paceCount := (congrArg State.paceCount (tellStroke_core s before i) :)

/-- The stroke of a stream raises CREDIT_SATURATED for it where it saturates, and for no other stream. -/
theorem entry_tellStroke (before : StreamRec) (i j : StreamNo) :
    (tellStroke before i s).entry (.stream j .creditSaturated) =
      if i = j ∧ before.saturates then some (raisedEntry s.paceCount (s.entry (.stream j .creditSaturated)))
      else s.entry (.stream j .creditSaturated) := by
  have hnotify (t : State) (pt : CausePoint) :
      (if inputsDiffer before before.struck then demandChanged i t else t).entry pt = t.entry pt := by
    split
    · exact entry_of_sansBinding (demandChanged_sansBinding t i) pt
    · rfl
  rw [tellStroke, hnotify]
  cases before.saturates with
  | true => simp [entry_raise s (.stream i .creditSaturated) (.stream j .creditSaturated) (by simp [reportLostPoint])]
  | false => simp

/-- Strokes of several streams, each once, each with the stream as it was before. -/
theorem entry_foldl_tellStroke (before : StreamNo → StreamRec) (j : StreamNo) {l : List StreamNo} (hl : l.Nodup) :
    (l.foldl (fun t i => tellStroke (before i) i t) s).entry (.stream j .creditSaturated) =
      if j ∈ l ∧ (before j).saturates then some (raisedEntry s.paceCount (s.entry (.stream j .creditSaturated)))
      else s.entry (.stream j .creditSaturated) := by
  induction l generalizing s with
  | nil => simp
  | cons i l ih =>
    obtain ⟨hi, hl⟩ := List.nodup_cons.1 hl
    rw [List.foldl_cons, ih _ hl, tellStroke_paceCount, entry_tellStroke]
    by_cases hij : i = j
    · subst hij
      simp [hi]
    · simp [hij, Ne.symm hij]

end tellStroke

section countStreams
variable (s : State)

/-- The streams counted, before any of them has told anything. -/
def counting : State := { s with uncounted := false, streams := s.streams.mapAll StreamRec.struck }

@[simp] theorem counting_stream (i : StreamNo) : (counting s).stream i = (s.stream i).struck := Table.read_mapAll _ _ _

/-- A counting goes through all the streams in ascending order; those that have nothing to tell change nothing. -/
theorem countStreams_eq :
    countStreams s = (List.finRange 512).foldl (fun t i => tellStroke (s.stream i) i t) (counting s) := by
  rw [countStreams, indicesWhere_eq_filter, List.foldl_filter]
  congr 1
  funext t i
  split
  · rfl
  · next h => exact (tellStroke_silent t (Bool.not_eq_true _ ▸ h) i).symm

/-- What a counting tells changes notices, reports and bindings only. -/
theorem countStreams_core : (countStreams s).core = (counting s).core := by
  rw [countStreams_eq]
  exact foldl_keeps _ (fun t i => tellStroke_core t _ i) _

@[simp] theorem countStreams_uncounted : (countStreams s).uncounted = false :=
  (congrArg State.uncounted (countStreams_core s) :)

@[simp] theorem countStreams_resetPin : (countStreams s).resetPin = s.resetPin :=
  (congrArg State.resetPin (countStreams_core s) :)

@[simp] theorem countStreams_paceCount : (countStreams s).paceCount = s.paceCount :=
  (congrArg State.paceCount (countStreams_core s) :)

/-- After a counting each stream is as the stroke has left it, but for notices and bindings. -/
theorem countStreams_stream (i : StreamNo) :
    ((countStreams s).stream i).sansNotices.sansBinding = (s.stream i).struck.sansNotices.sansBinding := by
  have h := congrArg (fun t : State => t.stream i) (countStreams_core s)
  simp only [State.core, State.sansBinding, State.sansNotices, State.stream, Table.read_mapAll] at h
  exact counting_stream s i ▸ h

theorem countStreams_entry (i : StreamNo) :
    (countStreams s).entry (.stream i .creditSaturated) =
      if (s.stream i).saturates then some (raisedEntry s.paceCount (s.entry (.stream i .creditSaturated)))
      else s.entry (.stream i .creditSaturated) := by
  have hentry : (counting s).entry (.stream i .creditSaturated) = s.entry (.stream i .creditSaturated) := by
    simp only [State.entry, counting_stream, struck_notices]
  rw [countStreams_eq, entry_foldl_tellStroke _ _ _ (List.nodup_finRange 512), hentry]
  simp [counting]

end countStreams

/-- The resets and the expiries, which a waiting counting does not come before. -/
def ExpiryOrReset (c : Instr) : Prop :=
  c = .powerOnReset ∨ c = .resetPinAsserted ∨ (∃ l, c = .answerDeadlineExpiry l) ∨ (∃ l, c = .holdDeadlineExpiry l)
    ∨ (∃ i, c = .settleDeadlineExpiry i) ∨ c = .commitDeadlineExpiry ∨ c = .budgetEntryAgeOut ∨ c = .spacingExpiry

/-- Every command but STROKE and these first has a waiting counting made (R37; log 3). -/
theorem exec_eq_running {c : Instr} (hstroke : c ≠ .stroke) (h : ¬ ExpiryOrReset c) :
    ∃ f, ∀ s, exec c s = running f s := by
  cases c with
  | stroke => exact absurd rfl hstroke
  | powerOnReset | resetPinAsserted | answerDeadlineExpiry | holdDeadlineExpiry | settleDeadlineExpiry
  | commitDeadlineExpiry | budgetEntryAgeOut | spacingExpiry => exact absurd (by simp [ExpiryOrReset]) h
  | _ => exact ⟨_, fun _ => rfl⟩

theorem running_countStreams {s : State} (f : State → State) (hpin : s.resetPin = false) (h : s.uncounted = true) :
    running f s = running f (countStreams s) := by
  rw [running_counted ((countStreams_resetPin s).trans hpin) (countStreams_uncounted s)]
  simp [running, atStroke, hpin, countFirst, h]

theorem exec_stroke {s : State} (hpin : s.resetPin = false) : exec .stroke s = .next (stroke s) :=
  atStroke_running stroke hpin

section stroke
variable {s : State}

/-- A stroke with the counting at once, and one that leaves it waiting (log 3). -/
theorem stroke_counts (hcount : s.uncounted = false) (hturn : s.turn = false) :
    stroke s = countStreams (advance s).dropTurn := by
  have ht : (advance s).turn = false := hturn
  simp [stroke, hcount, ht]

theorem stroke_waits (hcount : s.uncounted = false) (hturn : s.turn = true) : stroke s = (advance s).dropTurn := by
  have ht : (advance s).turn = true := hturn
  simp [stroke, hcount, ht]

end stroke

/-- Settles O5: the counting of the statement is `countStreams`, stream by stream. -/
theorem strokeCountsEveryRunningStream : Obligations.StrokeCountsEveryRunningStream := by
  unfold Obligations.StrokeCountsEveryRunningStream
  intro lead struck saturates changes counted expiryOrReset
  have hlead : lead = StreamRec.leadInput := rfl
  have hstruck : struck = StreamRec.struck := funext fun r => (struck_eq r).symm
  have hsaturates : saturates = StreamRec.saturates := funext fun r => (saturates_eq r).symm
  have hchanges : changes = fun r => inputsDiffer r r.struck := by
    simp only [changes, hstruck, hlead]
    rfl
  have hcounted : counted = countStreams := by
    funext s
    rw [countStreams_eq]
    simp only [counted, hstruck, hsaturates, hchanges]
    rfl
  rw [hcounted, hsaturates]
  refine ⟨fun s hpin => ⟨fun hcount => ?_, fun hcount => ⟨?_, fun c hstroke hc => ?_⟩⟩, fun s i => ?_⟩
  · rw [exec_stroke hpin]
    exact ⟨fun hturn => congrArg _ (stroke_counts hcount hturn), fun hturn => congrArg _ (stroke_waits hcount hturn)⟩
  · rw [exec_stroke hpin, stroke, if_pos hcount]
  · obtain ⟨f, hf⟩ := exec_eq_running hstroke hc
    rw [hf, hf, running_countStreams f hpin hcount]
  · have hstream := countStreams_stream s i
    have hcount : ((countStreams s).stream i).count = (s.stream i).struck.count := (congrArg StreamRec.count hstream :)
    have hcredit : ((countStreams s).stream i).credit = (s.stream i).struck.credit :=
      (congrArg StreamRec.credit hstream :)
    have htimer : ((countStreams s).stream i).timer = (s.stream i).struck.timer := (congrArg StreamRec.timer hstream :)
    simp only [hcount, hcredit, htimer, struck_eq]
    refine ⟨fun h => ?_, fun h h0 => ?_, fun h h0 => ?_, fun h => ?_, fun h => ?_, countStreams_paceCount s,
      countStreams_entry s i⟩
    · simp [h]
    · simp [h, h0]
    · simp [h, h0]
    · simp [h]
    · simp [h]

end Sys2Proof.Proofs.Pacing

/-! The arbiter's statements: the bind request list, its passes, the setup budget, and LANE-CONTROL, whose events reach the
free-lane lists. -/

namespace Sys2Proof.Proofs.Arbiter

open Sys2Proof Sys2Proof.Machine

/-! ### What the arbiter keeps, and who leaves it as it is -/

/-- What the invariants of the arbiter look at. -/
structure ArbiterView where
  requests     : List RequestEntry
  waiting      : Table 4 Bool
  freeLanes    : Table 4 (List LaneNo)
  budget       : List PaceCount
  params       : DeviceParams
  stagedParams : Option DeviceParams

/-- The arbiter's part of a state: all but these fields is no concern of its invariants. -/
def arbiterView (s : State) : ArbiterView :=
  ⟨s.requests, s.waiting, s.freeLanes, s.budget, s.params, s.stagedParams⟩

section view
variable (s : State)

/-- A release changes its own lane at most. -/
theorem startRelease_eq_modLane (l : LaneNo) : ∃ f, startRelease l s = s.modLane l f := by
  unfold startRelease
  split
  · exact ⟨_, rfl⟩
  · exact ⟨id, (setLane_self s l).symm⟩

/-- So does hold grace (R93, R94). -/
theorem holdGrace_eq_modLane (l : LaneNo) (h : StreamRec) : ∃ f, holdGrace l h s = s.modLane l f := by
  unfold holdGrace
  dsimp only
  split
  · exact startRelease_eq_modLane s l
  · split
    · exact startRelease_eq_modLane s l
    · split
      · exact ⟨_, rfl⟩
      · exact ⟨id, (setLane_self s l).symm⟩

/-- A judgement changes its own lane at most (R92). -/
theorem judgeLane_eq_modLane (l : LaneNo) : ∃ f, judgeLane l s = s.modLane l f := by
  unfold judgeLane
  dsimp only
  split
  · split
    · exact startRelease_eq_modLane s l
    · split
      · exact ⟨_, rfl⟩
      · exact holdGrace_eq_modLane s l _
  · exact ⟨id, (setLane_self s l).symm⟩

@[simp] theorem view_startRelease (l : LaneNo) : arbiterView (startRelease l s) = arbiterView s := by
  obtain ⟨f, hf⟩ := startRelease_eq_modLane s l
  rw [hf]; rfl

@[simp] theorem view_judgeLane (l : LaneNo) : arbiterView (judgeLane l s) = arbiterView s := by
  obtain ⟨f, hf⟩ := judgeLane_eq_modLane s l
  rw [hf]; rfl

@[simp] theorem view_judgeHeld (i : StreamNo) : arbiterView (judgeHeld i s) = arbiterView s := by
  unfold judgeHeld
  split
  · exact view_judgeLane s _
  · rfl

@[simp] theorem view_judgeGroup (g : GroupNo) : arbiterView (judgeGroup g s) = arbiterView s :=
  foldl_keeps s view_judgeLane _

@[simp] theorem view_raise (pt : CausePoint) : arbiterView (raise pt s) = arbiterView s :=
  (congrArg arbiterView (raise_sansNotices s pt) :)

@[simp] theorem view_removeNotice (pt : CausePoint) : arbiterView (removeNotice pt s) = arbiterView s :=
  (congrArg arbiterView (removeNotice_sansNotices s pt) :)

@[simp] theorem view_modStream (i : StreamNo) (f : StreamRec → StreamRec) :
    arbiterView (s.modStream i f) = arbiterView s := rfl

@[simp] theorem view_dropTurn : arbiterView s.dropTurn = arbiterView s := rfl

@[simp] theorem view_modRecord (f : CommitRecord → CommitRecord) : arbiterView (modRecord f s) = arbiterView s := rfl

@[simp] theorem view_takeCommitAnswer : arbiterView (takeCommitAnswer s) = arbiterView s := by
  unfold takeCommitAnswer
  split
  · dsimp only
    split <;> rfl
  · rfl

@[simp] theorem view_closeRecord (c : CommitRecord) (status : Status) (result : List Byte) :
    arbiterView (closeRecord c status result s) = arbiterView s := view_takeCommitAnswer _

@[simp] theorem view_judgeCompletion : arbiterView (judgeCompletion s) = arbiterView s := by
  unfold judgeCompletion
  split
  · split
    · exact view_closeRecord s _ _ _
    · rfl
  · rfl

@[simp] theorem judgeGroup_requests (g : GroupNo) : (judgeGroup g s).requests = s.requests :=
  congrArg ArbiterView.requests (view_judgeGroup s g)

end view

/-! ### The list's operations on what the arbiter keeps -/

section list
variable {s : State}

theorem groupWanted_iff {g : GroupNo} : s.groupWanted g = true ↔ ∃ e ∈ s.requests, e.group = g := by
  simp [State.groupWanted]

theorem groupWanted_eq_false_iff {g : GroupNo} : s.groupWanted g = false ↔ ∀ e ∈ s.requests, e.group ≠ g := by
  simp [State.groupWanted]

theorem hasEntry_eq_false_iff {i : StreamNo} : s.hasEntry i = false ↔ ∀ e ∈ s.requests, e.stream ≠ i := by
  simp [State.hasEntry]

theorem mem_withoutEntry {i : StreamNo} {es : List RequestEntry} {e : RequestEntry} :
    e ∈ withoutEntry i es ↔ e ∈ es ∧ e.stream ≠ i := by simp [withoutEntry]

theorem withoutEntry_absent {i : StreamNo} (h : s.hasEntry i = false) : withoutEntry i s.requests = s.requests :=
  List.filter_eq_self.2 fun e he => by simpa using hasEntry_eq_false_iff.1 h e he

/-- "Group not waiting" changes the group's indication at most: it stays where an entry names the group (R40). -/
theorem indicateNotWaiting_eq (g : GroupNo) (s : State) :
    indicateNotWaiting g s = s.setWaiting g (s.waiting.read g && s.groupWanted g) := by
  unfold indicateNotWaiting
  split
  · next h => rw [h, Bool.and_true, State.setWaiting, Table.write_read]
  · next h => rw [eq_false_of_ne_true h, Bool.and_false]

theorem indicateNotWaiting_wanted {g : GroupNo} (h : s.groupWanted g = true) : indicateNotWaiting g s = s := if_pos h

theorem indicateNotWaiting_last {g : GroupNo} (h : s.groupWanted g = false) :
    indicateNotWaiting g s = s.setWaiting g false := if_neg (by simp [h])

theorem view_setWaiting_congr {s t : State} (h : arbiterView t = arbiterView s) (g : GroupNo) (b : Bool) :
    arbiterView (t.setWaiting g b) = arbiterView (s.setWaiting g b) := by
  simp only [arbiterView, ArbiterView.mk.injEq] at h
  simp only [arbiterView, setWaiting_requests, setWaiting_waiting, setWaiting_freeLanes, setWaiting_budget,
    setWaiting_params, setWaiting_stagedParams, h]

theorem view_indicateNotWaiting_congr {s t : State} (h : arbiterView t = arbiterView s) (g : GroupNo) :
    arbiterView (indicateNotWaiting g t) = arbiterView (indicateNotWaiting g s) := by
  have hr : t.requests = s.requests := congrArg ArbiterView.requests h
  have hw : t.waiting = s.waiting := congrArg ArbiterView.waiting h
  rw [indicateNotWaiting_eq, indicateNotWaiting_eq, State.groupWanted, hr, hw]
  exact view_setWaiting_congr h g _

theorem removeEntry_absent {i : StreamNo} (h : s.hasEntry i = false) : removeEntry i s = s := by
  have : s.requests.find? (fun e => e.stream == i) = none :=
    List.find?_eq_none.2 fun e he => by simpa using hasEntry_eq_false_iff.1 h e he
  simp only [removeEntry, this]

/-- A stream's entry leaves the list, and its group's indication follows (R44). -/
theorem removeEntry_found {i : StreamNo} {e : RequestEntry} (h : s.requests.find? (fun x => x.stream == i) = some e) :
    removeEntry i s = indicateNotWaiting e.group { s with requests := withoutEntry i s.requests } := by
  simp only [removeEntry, h]

/-- Either no entry is there, or one is, and it leaves. -/
theorem removeEntry_cases (i : StreamNo) (s : State) :
    (s.hasEntry i = false ∧ removeEntry i s = s)
    ∨ ∃ e ∈ s.requests, e.stream = i
        ∧ removeEntry i s = indicateNotWaiting e.group { s with requests := withoutEntry i s.requests } := by
  cases h : s.requests.find? (fun x => x.stream == i) with
  | none =>
    have habsent : s.hasEntry i = false :=
      hasEntry_eq_false_iff.2 fun e he => by simpa using List.find?_eq_none.1 h e he
    exact .inl ⟨habsent, removeEntry_absent habsent⟩
  | some e =>
    exact .inr ⟨e, List.mem_of_find?_eq_some h, by simpa using List.find?_some h, removeEntry_found h⟩

@[simp] theorem removeEntry_requests (i : StreamNo) (s : State) :
    (removeEntry i s).requests = withoutEntry i s.requests := by
  obtain ⟨h, heq⟩ | ⟨e, -, -, heq⟩ := removeEntry_cases i s
  · rw [heq, withoutEntry_absent h]
  · rw [heq, indicateNotWaiting_eq, setWaiting_requests]

/-- A removal leaves the free-lane lists and the setup budget record. -/
theorem removeEntry_keeps (i : StreamNo) (s : State) :
    (removeEntry i s).freeLanes = s.freeLanes ∧ (removeEntry i s).budget = s.budget := by
  obtain ⟨-, heq⟩ | ⟨e, -, -, heq⟩ := removeEntry_cases i s
  · rw [heq]; exact ⟨rfl, rfl⟩
  · rw [heq, indicateNotWaiting_eq]; exact ⟨rfl, rfl⟩

/-- What a joining entry leaves: the list with it, and its group's indication (R39, R40). -/
theorem view_joinList (e : RequestEntry) (s : State) :
    arbiterView (joinList e s) =
      arbiterView { s with
        requests := insertEntry s.paceCount e s.requests
        waiting := if s.groupWanted e.group then s.waiting else s.waiting.write e.group true } := by
  unfold joinList
  dsimp only
  cases s.groupWanted e.group with
  | true => rfl
  | false => exact view_judgeGroup _ _

/-- What a granted claim brings about, in either order: its group's indication follows the list (R95, last row). -/
theorem view_afterGrant (g : GroupNo) (s : State) :
    arbiterView (afterGrant g s) = arbiterView (indicateNotWaiting g s) := by
  unfold afterGrant
  split
  · split
    · next h => rw [view_judgeGroup, indicateNotWaiting_wanted h]
    · dsimp only [takeTurn_eq]
      split
      · exact view_indicateNotWaiting_congr (by simp) g
      · rw [view_judgeGroup]
        exact view_indicateNotWaiting_congr (by simp) g
  · rfl

theorem view_startBind (e : RequestEntry) (l : LaneNo) (rest : List LaneNo) (s : State) :
    arbiterView (startBind e l rest s) = arbiterView (indicateNotWaiting e.group (grantBind e l rest s)) :=
  view_afterGrant _ _

@[simp] theorem startBind_requests (e : RequestEntry) (l : LaneNo) (rest : List LaneNo) (s : State) :
    (startBind e l rest s).requests = withoutEntry e.stream s.requests := by
  have h := congrArg ArbiterView.requests (view_startBind e l rest s)
  rw [indicateNotWaiting_eq] at h
  exact h

@[simp] theorem startBind_budget (e : RequestEntry) (l : LaneNo) (rest : List LaneNo) (s : State) :
    (startBind e l rest s).budget = s.budget ++ [s.paceCount] := by
  have h := congrArg ArbiterView.budget (view_startBind e l rest s)
  rw [indicateNotWaiting_eq] at h
  exact h

/-- A joining entry is one more in the list. -/
theorem insertEntry_perm (now : PaceCount) (e : RequestEntry) (es : List RequestEntry) :
    (insertEntry now e es).Perm (e :: es) := by
  induction es with
  | nil => exact .refl _
  | cons x xs ih =>
    rw [insertEntry]
    split
    · exact (ih.cons x).trans (.swap e x xs)
    · exact .refl _

end list

/-! ### The arbiter and its callers keep an invariant -/

/-- An invariant that the arbiter's own operations keep, in the form in which its blocks come upon them. -/
structure ClaimInvariant (P : State → Prop) : Prop where
  frame : ∀ {s t : State}, P s → arbiterView t = arbiterView s → P t
  remove : ∀ {s : State} (i : StreamNo), P s → P (removeEntry i s)
  reason : ∀ {s : State} (i : StreamNo) (r : Reason), P s → P (setReason i r s)
  join : ∀ {s : State} {e : RequestEntry}, s.hasEntry e.stream = false → P s → P (joinList e s)
  start : ∀ {s : State} {e : RequestEntry} {l : LaneNo} {rest : List LaneNo}, e ∈ s.requests →
    s.freeLanes.read e.group = l :: rest → s.budget.length < s.params.budgetCount → P s → P (startBind e l rest s)
  apply : ∀ {s : State} {d : DeviceParams}, s.stagedParams = some d → P s → P (applyDevice d s)

/-- The event leaves a claim that a pass has sent what it was sent for, or no lane to be granted (R50). -/
def SparesClaims (event : State → State) : Prop :=
  ∀ s : State, (∀ g, (event s).freeLanes.read g = [])
    ∨ ((event s).requests = s.requests ∧ (event s).budget = s.budget ∧ (event s).params = s.params)

/-- A pass that goes on has room in the setup budget record (R46). -/
theorem budget_lt_of_passStops {s : State} (h : ¬ s.passStops = true) : s.budget.length < s.params.budgetCount := by
  simp only [State.passStops, State.budgetOpen, Bool.or_eq_true, Bool.not_eq_true', Bool.and_eq_false_iff, not_or,
    decide_eq_false_iff_not] at h
  omega

/-- The claim that an event comes before is of an entry in the list, with room in the record. -/
theorem passUntil_claim {n : Nat} {marked marked' : List GroupNo} {s t : State} {e : RequestEntry}
    (h : passUntil n marked s = (some (e, marked'), t)) :
    e ∈ t.requests ∧ t.budget.length < t.params.budgetCount := by
  induction n generalizing s marked with
  | zero => simp [passUntil] at h
  | succ n ih =>
    unfold passUntil at h
    split at h
    · simp at h
    · next hstops =>
      split at h
      · simp at h
      · next hchoice =>
        split at h
        · exact ih h
        · dsimp only [takeTurn_eq] at h
          split at h
          · simp only [Prod.mk.injEq, Option.some.injEq] at h
            obtain ⟨⟨rfl, -⟩, rfl⟩ := h
            exact ⟨List.mem_of_find?_eq_some hchoice, budget_lt_of_passStops hstops⟩
          · exact ih h

namespace ClaimInvariant

variable {P : State → Prop} (h : ClaimInvariant P) {s : State}
include h

theorem keeps_takeClaim {e : RequestEntry} (marked : List GroupNo) (he : e ∈ s.requests)
    (hb : s.budget.length < s.params.budgetCount) (hs : P s) : P (takeClaim e marked s).2 := by
  cases hf : s.freeLanes.read e.group with
  | nil => rw [takeClaim_refused hf]; exact hs
  | cons l rest => rw [takeClaim_granted hf]; exact h.start he hf hb hs

theorem keeps_passLoop (n : Nat) (marked : List GroupNo) (hs : P s) : P (passLoop n marked s) := by
  induction n generalizing s marked with
  | zero => exact hs
  | succ n ih =>
    unfold passLoop
    split
    · exact hs
    · next hstops =>
      split
      · exact hs
      · next hchoice =>
        split
        · exact ih _ (h.remove _ hs)
        · exact ih _ (h.keeps_takeClaim _ (List.mem_of_find?_eq_some hchoice) (budget_lt_of_passStops hstops) hs)

theorem keeps_passUntil (n : Nat) (marked : List GroupNo) (hs : P s) : P (passUntil n marked s).2 := by
  induction n generalizing s marked with
  | zero => exact hs
  | succ n ih =>
    unfold passUntil
    split
    · exact hs
    · next hstops =>
      split
      · exact hs
      · next hchoice =>
        split
        · exact ih _ (h.remove _ hs)
        · have hd : P s.dropTurn := h.frame hs (view_dropTurn s)
          dsimp only [takeTurn_eq]
          split
          · exact hd
          · exact ih _ (h.keeps_takeClaim _ (List.mem_of_find?_eq_some hchoice) (budget_lt_of_passStops hstops) hd)

theorem keeps_pass (hs : P s) : P (pass s) := h.keeps_passLoop _ _ hs

theorem keeps_callPass (hs : P s) : P (callPass s) := by
  have hd : P s.dropTurn := h.frame hs (view_dropTurn s)
  cases ht : s.turn with
  | true => rw [callPass_later ht]; exact hd
  | false => rw [callPass_now ht]; exact h.keeps_pass hd

/-- The rest of a pass, whose claim finds its entry still in the list, or no free lane. -/
theorem keeps_passFrom {e : RequestEntry} (marked : List GroupNo)
    (hc : (∀ g, s.freeLanes.read g = []) ∨ (e ∈ s.requests ∧ s.budget.length < s.params.budgetCount)) (hs : P s) :
    P (passFrom e marked s) := by
  obtain hfree | ⟨he, hb⟩ := hc
  · rw [passFrom_noLanes e marked hfree]; exact hs
  · exact h.keeps_passLoop _ _ (h.keeps_takeClaim marked he hb hs)

theorem keeps_duringPass {event : State → State} (hevent : ∀ t, P t → P (event t)) (hspares : SparesClaims event)
    (hs : P s) : P (duringPass event s) := by
  have hd : P s.dropTurn := h.frame hs (view_dropTurn s)
  have hu := h.keeps_passUntil (s.dropTurn.requests.length + 4) [] hd
  unfold duringPass
  dsimp only [takeTurn_eq]
  split
  · split
    · split
      · next e marked t hp =>
        rw [hp] at hu
        obtain ⟨he, hb⟩ := passUntil_claim hp
        refine h.keeps_passFrom marked ((hspares t).imp_right ?_) (hevent t hu)
        rintro ⟨hr, hbudget, hparams⟩
        rw [hr, hbudget, hparams]
        exact ⟨he, hb⟩
      · next t hp =>
        rw [hp] at hu
        exact hevent t hu
    · exact hevent _ hd
  · exact hevent s hs

theorem keeps_notify (kind : NotifyKind) (i : StreamNo) (hs : P s) : P (notify kind i s) := by
  have hm : P (s.modStream i (settleKeptTime kind s.paceCount)) := h.frame hs (view_modStream s i _)
  unfold notify
  dsimp only
  split
  · split
    · exact h.reason _ _ hm
    · exact h.remove _ hm
  · next he =>
    split
    · exact h.keeps_callPass (h.join (Bool.not_eq_true _ ▸ he) hm)
    · exact hm

theorem keeps_demandChanged (i : StreamNo) (hs : P s) : P (demandChanged i s) :=
  h.frame (h.keeps_notify .demandChange i hs) (view_judgeHeld _ i)

/-! #### Streams -/

theorem keeps_changePacing (i : StreamNo) (f : StreamRec → StreamRec) (hs : P s) : P (changePacing i f s) := by
  have hm : P (s.modStream i f) := h.frame hs (view_modStream s i f)
  unfold changePacing
  dsimp only
  split
  · exact h.keeps_demandChanged i hm
  · exact hm

theorem keeps_consumeCredit (i : StreamNo) (hs : P s) : P (consumeCredit i s).2 := by
  unfold consumeCredit
  split
  · exact hs
  · exact h.keeps_changePacing i _ hs

theorem keeps_emptinessChanged (i : StreamNo) (wasEmpty : Bool) (hs : P s) : P (emptinessChanged i wasEmpty s) := by
  unfold emptinessChanged
  split
  · exact hs
  · exact h.keeps_demandChanged i hs

theorem keeps_takeHead (i : StreamNo) (hs : P s) : P (takeHead i s).2 := by
  unfold takeHead
  split
  · exact hs
  · exact h.keeps_emptinessChanged i _ (h.frame hs rfl)

theorem keeps_flush (i : StreamNo) (hs : P s) : P (flush i s) := by
  unfold flush
  dsimp only
  split
  · exact hs
  · exact h.keeps_demandChanged i (h.frame hs rfl)

theorem keeps_setLife (i : StreamNo) (life : Life) (hs : P s) : P (setLife i life s) :=
  h.keeps_demandChanged i (h.frame hs rfl)

theorem keeps_enterClosed (i : StreamNo) (hs : P s) : P (enterClosed i s) :=
  h.keeps_demandChanged i (h.remove i (h.keeps_flush i (h.keeps_changePacing i _ (h.frame hs rfl))))

theorem keeps_judgeDrain (i : StreamNo) (hs : P s) : P (judgeDrain i s) := by
  unfold judgeDrain
  split
  · exact h.keeps_enterClosed i hs
  · exact hs

/-! #### Commits -/

theorem keeps_applyRecord (i : StreamNo) (img : StreamImage) (hs : P s) : P (applyRecord i img s) :=
  h.remove i (h.frame hs rfl)

theorem keeps_commitLoss (i : StreamNo) (hs : P s) : P (commitLoss i s) := by
  unfold commitLoss
  dsimp only
  split
  · have hm (f : CommitRecord → CommitRecord) : P (modRecord f s) := h.frame hs (view_modRecord s f)
    exact h.frame (h.keeps_applyRecord i _ (hm _)) (view_judgeCompletion _)
  · exact hs

theorem keeps_judgeDevicePart (hs : P s) : P (judgeDevicePart s) := by
  unfold judgeDevicePart
  split
  · next hd =>
    split
    · exact h.frame (h.keeps_callPass (h.apply hd hs)) (view_judgeCompletion _)
    · exact hs
  · exact hs

/-! #### Losses of a lane -/

theorem keeps_lossClaims (kind : NotifyKind) (i : StreamNo) (hs : P s) : P (lossClaims kind i s) :=
  h.keeps_notify kind i (h.keeps_commitLoss i (h.keeps_judgeDrain i hs))

theorem keeps_trunkLoss (before : LaneRec) (hs : P s) : P (trunkLoss before s) := by
  unfold trunkLoss
  split
  · next i _ =>
    dsimp only
    split
    · exact h.keeps_lossClaims _ i (h.frame hs (view_raise s _))
    · exact h.keeps_lossClaims _ i hs
  · exact hs

omit h in
/-- What each operation of a fold keeps, the fold keeps. -/
theorem keeps_foldl {α : Type} {f : State → α → State} (hf : ∀ t a, P t → P (f t a)) (l : List α) (hs : P s) :
    P (l.foldl f s) := by
  induction l generalizing s with
  | nil => exact hs
  | cons a l ih => exact ih (hf s a hs)

/-- The claims of a trunk loss, once every lane is down (R79). -/
theorem keeps_trunkDown (hs : P (dropLanes (raise (.device .trunkDown) { s with trunkUp := false }))) :
    P (trunkDown s) :=
  h.keeps_judgeDevicePart (keeps_foldl (fun _ l => h.keeps_trunkLoss (s.lane l)) _ hs)

end ClaimInvariant


/-! ### The invariants of the arbiter's lists -/

/-- Every free-lane list is empty, as from the loss of the trunk on (R79). -/
def NoFreeLane (s : State) : Prop := ∀ g, s.freeLanes.read g = []

theorem noFreeLane_claimInvariant : ClaimInvariant NoFreeLane where
  frame hs hv g := (congrArg (fun v => v.freeLanes.read g) hv).trans (hs g)
  remove i hs g := by rw [(removeEntry_keeps i _).1]; exact hs g
  reason _ _ hs := hs
  join _ hs g := (congrArg (fun v => v.freeLanes.read g) (view_joinList _ _)).trans (hs g)
  start _ hf _ hs := by rw [hs] at hf; contradiction
  apply _ hs := hs

theorem trunkDown_noFreeLane (s : State) : NoFreeLane (trunkDown s) :=
  noFreeLane_claimInvariant.keeps_trunkDown fun g => Table.read_const [] g

theorem budgetInv_congr {s t : State} (hs : BudgetInv s) (hb : t.budget = s.budget) (hp : t.params = s.params)
    (hd : t.stagedParams = s.stagedParams) : BudgetInv t := by
  unfold BudgetInv
  rw [hb, hp, hd]
  exact hs

theorem budgetInv_of_view {s t : State} (hs : BudgetInv s) (hv : arbiterView t = arbiterView s) : BudgetInv t :=
  budgetInv_congr hs (congrArg ArbiterView.budget hv) (congrArg ArbiterView.params hv)
    (congrArg ArbiterView.stagedParams hv)

/-- A start takes one of the fewer than K entries that the record may still gain (R46); K is at most 8 (R115). -/
theorem budgetInv_startBind {s : State} (e : RequestEntry) (l : LaneNo) (rest : List LaneNo)
    (hb : s.budget.length < s.params.budgetCount) (hs : BudgetInv s) : BudgetInv (startBind e l rest s) := by
  obtain ⟨hcount, hstaged, -⟩ := hs
  have hsans := startBind_sansBinding s e l rest
  unfold BudgetInv
  rw [startBind_budget, params_of_sansBinding hsans, stagedParams_of_sansBinding hsans, List.length_append,
    List.length_singleton]
  exact ⟨hcount, hstaged, by omega⟩

theorem budgetInv_claimInvariant : ClaimInvariant BudgetInv where
  frame := budgetInv_of_view
  remove i hs := budgetInv_congr hs (removeEntry_keeps i _).2 (removeEntry_params _ i) (removeEntry_stagedParams _ i)
  reason _ _ hs := hs
  join _ hs := budgetInv_congr hs (congrArg ArbiterView.budget (view_joinList _ _)) (joinList_params _ _)
    (joinList_stagedParams _ _)
  start _ _ hb hs := budgetInv_startBind _ _ _ hb hs
  apply hd hs := ⟨hs.2.1 _ hd, nofun, (List.length_filter_le _ _).trans hs.2.2⟩

theorem listInv_congr {s t : State} (hs : ListInv s) (hr : t.requests = s.requests) (hw : t.waiting = s.waiting) :
    ListInv t := by
  unfold ListInv State.groupWanted
  rw [hr, hw]
  exact hs

theorem listInv_of_view {s t : State} (hs : ListInv s) (hv : arbiterView t = arbiterView s) : ListInv t :=
  listInv_congr hs (congrArg ArbiterView.requests hv) (congrArg ArbiterView.waiting hv)

/-- With one entry to each stream, the entry of a stream is the only one of that stream. -/
theorem eq_of_stream_eq {es : List RequestEntry} (h : (es.map fun e => e.stream).Nodup) {x e : RequestEntry}
    (hx : x ∈ es) (he : e ∈ es) (hxe : x.stream = e.stream) : x = e := List.inj_on_of_nodup_map h hx he hxe

/-- When an entry leaves, its group alone may have lost its last entry, and "group not waiting" follows (R44). -/
theorem listInv_withoutEntry {s : State} {e : RequestEntry} (he : e ∈ s.requests) (hs : ListInv s) :
    ListInv (indicateNotWaiting e.group { s with requests := withoutEntry e.stream s.requests }) := by
  obtain ⟨hnodup, hwaiting⟩ := hs
  rw [indicateNotWaiting_eq]
  refine ⟨hnodup.sublist (List.filter_sublist.map _), fun g => ?_⟩
  have hw := hwaiting g
  rw [Bool.eq_iff_iff, groupWanted_iff] at hw
  rw [Bool.eq_iff_iff, setWaiting_waiting, Table.read_write, groupWanted_iff]
  split
  · next hg =>
    subst hg
    rw [Bool.and_eq_true, hw, groupWanted_iff]
    simp only [setWaiting_requests, mem_withoutEntry]
    exact ⟨fun h => h.2, fun h => ⟨⟨e, he, rfl⟩, h⟩⟩
  · next hg =>
    rw [hw]
    simp only [setWaiting_requests, mem_withoutEntry]
    refine ⟨fun ⟨x, hx, hxg⟩ => ⟨x, ⟨hx, fun hxe => hg ?_⟩, hxg⟩, fun ⟨x, hx, hxg⟩ => ⟨x, hx.1, hxg⟩⟩
    rw [← hxg, eq_of_stream_eq hnodup hx he hxe]

/-- The first entry of its group has the group indicated as waiting (R40). -/
theorem listInv_joinList {s : State} {e : RequestEntry} (he : s.hasEntry e.stream = false) (hs : ListInv s) :
    ListInv (joinList e s) := by
  obtain ⟨hnodup, hwaiting⟩ := hs
  have hperm := insertEntry_perm s.paceCount e s.requests
  refine listInv_of_view ⟨?_, fun g => ?_⟩ (view_joinList e s)
  · refine (hperm.map _).nodup_iff.2 (List.nodup_cons.2 ⟨fun hmem => ?_, hnodup⟩)
    obtain ⟨x, hx, hxe⟩ := List.mem_map.1 hmem
    exact hasEntry_eq_false_iff.1 he x hx hxe
  · have hwanted : (insertEntry s.paceCount e s.requests).any (fun x => x.group == g) =
        (e.group == g || s.groupWanted g) := by
      rw [hperm.any_eq, List.any_cons, State.groupWanted]
    refine Eq.trans ?_ hwanted.symm
    dsimp only
    split
    · next h =>
      rw [hwaiting g]
      by_cases hg : e.group = g
      · subst hg; simp [h]
      · simp [hg]
    · rw [Table.read_write]
      by_cases hg : e.group = g
      · simp [hg]
      · simp [hg, hwaiting g]

theorem listInv_claimInvariant : ClaimInvariant ListInv where
  frame := listInv_of_view
  remove {s} i hs := by
    obtain ⟨-, heq⟩ | ⟨e, he, rfl, heq⟩ := removeEntry_cases i s
    · rw [heq]; exact hs
    · rw [heq]; exact listInv_withoutEntry he hs
  reason {s} i r hs := by
    have hstream (e : RequestEntry) : (if e.stream = i then { e with reason := r } else e).stream = e.stream := by
      split <;> rfl
    have hgroup (e : RequestEntry) : (if e.stream = i then { e with reason := r } else e).group = e.group := by
      split <;> rfl
    unfold ListInv State.groupWanted
    simp only [setReason, List.map_map, List.any_map, Function.comp_def, hstream, hgroup]
    exact hs
  join := listInv_joinList
  start {s e l rest} he _ _ hs := by
    have hv := view_startBind e l rest s
    have hw := listInv_withoutEntry he hs
    rw [indicateNotWaiting_eq] at hv hw
    exact listInv_congr hw (startBind_requests e l rest s) (congrArg ArbiterView.waiting hv)
  apply _ hs := hs

/-! ### Every command keeps an invariant -/

/-- An invariant that, beside the arbiter's own operations, the other changes of what the arbiter keeps respect: the
free-lane lists (R60), an entry's age-out (R45), the staged set (R115), and the resets (R55). -/
structure StepInvariant (P : State → Prop) : Prop extends ClaimInvariant P where
  free : ∀ {s : State} (lists : Table 4 (List LaneNo)), P s → P { s with freeLanes := lists }
  age : ∀ {s : State} {oldest : PaceCount} {rest : List PaceCount}, s.budget = oldest :: rest → P s →
    P { s with budget := rest }
  stage : ∀ {s : State} {d : DeviceParams}, d.budgetCount ≤ 8 → P s → P { s with stagedParams := some d }
  unstage : ∀ {s : State}, P s → P { s with stagedParams := none }
  clear : ∀ {s : State}, P s → P (restartArbiter s)
  reset : ∀ (pin : Bool) (s : State), P (powerOnState pin s)

/-- What a body asks for, once the request has passed its checks, keeps the predicate. -/
def KeepsAction (P : State → Prop) (b : Except Status Action) : Prop := ∀ act, b = .ok act → ∀ s, P s → P (act s).2

section body
variable {P : State → Prop}

theorem keepsAction_error (status : Status) : KeepsAction P (.error status) := nofun

theorem keepsAction_ok {act : Action} (h : ∀ s, P s → P (act s).2) : KeepsAction P (.ok act) := by
  rintro _ ⟨⟩
  exact h

theorem keepsAction_reading (octets : State → List Byte) : KeepsAction P (reading octets) :=
  keepsAction_ok fun _ hs => hs

theorem keepsAction_answering {f : State → Status × State} (h : ∀ s, P s → P (f s).2) : KeepsAction P (answering f) :=
  keepsAction_ok h

theorem keepsAction_withTarget {α : Type} {target : Option α} {f : α → Except Status Action}
    (h : ∀ x, KeepsAction P (f x)) : KeepsAction P (withTarget target f) := by
  cases target with
  | none => exact keepsAction_error _
  | some x => exact h x

theorem keepsAction_withSelector {q : Request} {selector : Nat} {b : Except Status Action} (h : KeepsAction P b) :
    KeepsAction P (withSelector q selector b) := by
  unfold withSelector
  split
  · exact h
  · exact keepsAction_error _

theorem keepsAction_withPart (part : Option (State → List Byte)) : KeepsAction P (withPart part) := by
  cases part with
  | none => exact keepsAction_error _
  | some octets => exact keepsAction_reading octets

end body

section view
variable (s : State)

@[simp] theorem view_respond (p : PortNo) (q : Request) (a : Reply) : arbiterView (respond p q a s) = arbiterView s := by
  unfold respond
  dsimp only
  split
  · split <;> rfl
  · rfl

@[simp] theorem view_refuseRequest (p : PortNo) (q : Request) (status : Status) :
    arbiterView (refuseRequest p q status s) = arbiterView s := by
  unfold refuseRequest
  split <;> simp

@[simp] theorem view_ackNotice (n : NoticeTarget) (mask : Nat) : arbiterView (ackNotice n mask s).2 = arbiterView s := by
  unfold ackNotice
  split
  · exact foldl_keeps s view_removeNotice _
  · rfl

@[simp] theorem view_agentLoss (p : PortNo) : arbiterView (agentLoss p s) = arbiterView s := rfl

@[simp] theorem view_admissionLoss (p : PortNo) : arbiterView (admissionLoss p s) = arbiterView s := rfl

/-- A lane that leaves its list changes that list and, by the judgements that follow, lanes (R60, R91). -/
theorem view_leaveFreeList (l : LaneNo) :
    ∃ lists, arbiterView (leaveFreeList l s) = arbiterView { s with freeLanes := lists } := by
  unfold leaveFreeList
  dsimp only
  split
  · exact ⟨_, view_judgeGroup _ _⟩
  · exact ⟨_, rfl⟩

/-- A disable changes at most the free-lane lists, of what the arbiter keeps (R75). -/
theorem view_laneDisable (l : LaneNo) :
    ∃ lists, arbiterView (laneDisable l s).2 = arbiterView { s with freeLanes := lists } := by
  unfold laneDisable
  dsimp only
  split
  · exact view_leaveFreeList _ l
  · exact ⟨_, rfl⟩
  · exact ⟨_, rfl⟩
  · exact ⟨_, rfl⟩
  · exact ⟨_, view_startRelease s l⟩
  · exact ⟨_, rfl⟩
  · exact ⟨_, rfl⟩
  · exact ⟨_, rfl⟩

end view

theorem sparesClaims_laneDisable (l : LaneNo) : SparesClaims fun s => (laneDisable l s).2 := by
  intro s
  obtain ⟨lists, hv⟩ := view_laneDisable s l
  exact .inr ⟨congrArg ArbiterView.requests hv, congrArg ArbiterView.budget hv, congrArg ArbiterView.params hv⟩

theorem sparesClaims_trunkDown : SparesClaims trunkDown := fun s => .inl (trunkDown_noFreeLane s)

/-- A staged set is within the bounds of R115. -/
theorem deviceImageAt_budgetCount {t : Payload} {k : Nat} {d : DeviceParams} (h : deviceImageAt t k = some d) :
    d.budgetCount ≤ 8 := by
  unfold deviceImageAt at h
  dsimp only at h
  split at h
  · contradiction
  · split at h
    · next hbounds =>
      obtain ⟨-, -, -, hcount, -⟩ := hbounds
      cases h
      exact hcount
    · contradiction

namespace StepInvariant

variable {P : State → Prop} (h : StepInvariant P) {s : State}
include h

/-! #### Strokes and queues -/

theorem keeps_tellStroke (before : StreamRec) (i : StreamNo) (hs : P s) : P (tellStroke before i s) := by
  have hraised : P (if before.saturates then raise (.stream i .creditSaturated) s else s) := by
    split
    · exact h.frame hs (view_raise s _)
    · exact hs
  unfold tellStroke
  dsimp only
  split
  · exact h.keeps_demandChanged i hraised
  · exact hraised

theorem keeps_countStreams (hs : P s) : P (countStreams s) := by
  have hcounted : P { s with uncounted := false, streams := s.streams.mapAll StreamRec.struck } := h.frame hs rfl
  exact ClaimInvariant.keeps_foldl (fun _ i => h.keeps_tellStroke (s.stream i) i) _ hcounted

theorem keeps_countFirst (hs : P s) : P (countFirst s) := by
  unfold countFirst
  split
  · exact h.keeps_countStreams hs
  · exact hs

theorem keeps_stroke (hs : P s) : P (stroke s) := by
  have hadvanced : P (advance s).dropTurn := h.frame hs rfl
  unfold stroke
  dsimp only [takeTurn_eq]
  split
  · exact h.keeps_countStreams hs
  · split
    · exact hadvanced
    · exact h.keeps_countStreams hadvanced

theorem keeps_appendCell (i : StreamNo) (c : TrafficCell) (hs : P s) : P (appendCell i c s) := by
  refine h.keeps_emptinessChanged i _ ?_
  split
  · exact h.frame hs (view_raise _ _)
  · exact h.frame hs rfl

/-! #### Life states -/

theorem keeps_openStream (i : StreamNo) (hs : P s) : P (openStream i s).2 := by
  unfold openStream
  dsimp only
  split
  · exact h.keeps_demandChanged i (h.keeps_changePacing i _ (h.frame hs rfl))
  · exact hs

theorem keeps_closeDiscarding (i : StreamNo) (hs : P s) : P (closeDiscarding i s) := by
  have hflushed : P (removeEntry i (flush i s)) := h.remove i (h.keeps_flush i hs)
  unfold closeDiscarding
  dsimp only
  split
  · exact h.keeps_enterClosed i hflushed
  · exact h.keeps_setLife i _ hflushed

theorem keeps_closePlain (i : StreamNo) (hs : P s) : P (closePlain i s).2 := by
  unfold closePlain
  split <;> dsimp only
  · exact h.keeps_judgeDrain i (h.keeps_setLife i _ hs)
  · exact h.keeps_enterClosed i (h.keeps_flush i hs)
  · exact hs
  · exact hs

theorem keeps_closeDiscard (i : StreamNo) (hs : P s) : P (closeDiscard i s).2 := by
  unfold closeDiscard
  split <;> dsimp only
  · exact h.keeps_closeDiscarding i hs
  · exact h.keeps_enterClosed i (h.keeps_flush i hs)
  · exact h.keeps_closeDiscarding i hs
  · exact hs
  · exact hs

theorem keeps_clearHold (i : StreamNo) (hs : P s) : P (clearHold i s).2 := by
  unfold clearHold
  split
  · exact h.keeps_setLife i _ (h.frame hs rfl)
  · exact hs

theorem keeps_refusalLimitReached (i : StreamNo) (hs : P s) : P (refusalLimitReached i s) := by
  unfold refusalLimitReached
  split
  · exact h.keeps_demandChanged i (h.frame hs (view_raise _ _))
  · exact h.keeps_enterClosed i (h.keeps_flush i (h.frame hs (view_raise _ _)))
  · exact hs
  · exact hs
  · exact hs

theorem keeps_bindRefused (i : StreamNo) (hs : P s) : P (bindRefused i s) := by
  have hcounted : P (s.modStream i fun r => { r with refusals := r.refusals + 1 }) := h.frame hs rfl
  unfold bindRefused
  dsimp only
  split
  · split
    · exact h.keeps_refusalLimitReached i hcounted
    · exact hcounted
  · exact hs

/-! #### Lanes and handshakes -/

theorem keeps_startRelease (l : LaneNo) (hs : P s) : P (startRelease l s) := h.frame hs (view_startRelease s l)

theorem keeps_modLane (l : LaneNo) (f : LaneRec → LaneRec) (hs : P s) : P (s.modLane l f) := h.frame hs rfl

theorem keeps_freeOrDisable (l : LaneNo) (hs : P s) : P (freeOrDisable l s) := by
  unfold freeOrDisable
  split
  · exact h.keeps_modLane l _ hs
  · exact h.free _ (h.keeps_modLane l _ hs)

theorem keeps_passOnJoin (joined : Bool) (hs : P s) : P (passOnJoin joined s) := by
  unfold passOnJoin
  split
  · exact h.keeps_callPass hs
  · exact hs

theorem keeps_loseLane (kind : NotifyKind) (l : LaneNo) (i : StreamNo) (hs : P s) : P (loseLane kind l i s) :=
  h.keeps_lossClaims kind i (h.frame hs rfl)

theorem keeps_loseHolder (kind : NotifyKind) (l : LaneNo) (hs : P s) : P (loseHolder kind l s) := by
  unfold loseHolder
  split
  · exact h.keeps_loseLane kind l _ hs
  · exact hs

theorem keeps_handBack (l : LaneNo) (i : StreamNo) (hs : P s) : P (handBack l i s) :=
  h.keeps_freeOrDisable l (h.frame hs rfl)

theorem keeps_staleCell (l : LaneNo) (hs : P s) : P (staleCell l s) := h.frame hs (view_raise _ _)

theorem keeps_strayCell (l : LaneNo) (hs : P s) : P (strayCell l s) := h.frame hs (view_raise s _)

theorem keeps_takeAnswer (kind : Handshake) (l : LaneNo) (tag : Byte) {matching : State → State}
    (hm : ∀ {t}, P t → P (matching t)) (hs : P s) : P (takeAnswer kind l tag matching s) := by
  unfold takeAnswer
  split
  · exact h.keeps_staleCell l hs
  · split
    · exact hm hs
    · exact h.keeps_strayCell l hs

theorem keeps_takeUnknownAnswer (l : LaneNo) (tag : Byte) (hs : P s) : P (takeUnknownAnswer l tag s) := by
  unfold takeUnknownAnswer
  split
  · exact h.keeps_staleCell l hs
  · exact h.keeps_strayCell l hs

theorem keeps_takePause (paused : Bool) (l : LaneNo) (tag : Byte) (hs : P s) : P (takePause paused l tag s) := by
  unfold takePause
  split
  · exact h.keeps_staleCell l hs
  · split
    · exact h.keeps_modLane l _ hs
    · exact h.keeps_strayCell l hs

theorem keeps_bindAcceptMatched (l : LaneNo) (hs : P s) : P (bindAcceptMatched l s) := by
  refine h.keeps_judgeDevicePart (h.frame ?_ (view_judgeLane _ l))
  split
  · exact h.keeps_notify _ _ (h.frame hs rfl)
  · exact h.keeps_modLane l _ hs

theorem keeps_refusalReports (i : StreamNo) (joined : Bool) (hs : P s) : P (refusalReports i joined s) := by
  have hd : P s.dropTurn := h.frame hs (view_dropTurn s)
  unfold refusalReports
  dsimp only [takeTurn_eq]
  split
  · split
    · exact h.keeps_notify _ i (h.keeps_callPass hd)
    · exact h.keeps_callPass (h.keeps_notify _ i hd)
  · exact h.keeps_notify _ i hs

theorem keeps_bindRefuseMatched (l : LaneNo) (hs : P s) : P (bindRefuseMatched l s) := by
  have hended := h.keeps_modLane l (fun r => { r.endHandshake with bindsRefused := r.bindsRefused + 1 }) hs
  unfold bindRefuseMatched
  dsimp only
  split
  · next i _ =>
    exact h.keeps_judgeDevicePart (h.keeps_refusalReports i _ (h.keeps_commitLoss i (h.keeps_judgeDrain i
      (h.keeps_bindRefused i (h.keeps_handBack l i hended)))))
  · exact h.keeps_judgeDevicePart (h.keeps_passOnJoin _ (h.keeps_freeOrDisable l hended))

theorem keeps_releaseAckMatched (l : LaneNo) (hs : P s) : P (releaseAckMatched l s) := by
  have hended := h.keeps_modLane l LaneRec.endHandshake hs
  unfold releaseAckMatched
  dsimp only
  split
  · next i _ =>
    exact h.keeps_judgeDevicePart (h.keeps_passOnJoin _ (h.keeps_lossClaims _ i (h.keeps_handBack l i hended)))
  · exact h.keeps_judgeDevicePart (h.keeps_passOnJoin _ (h.keeps_freeOrDisable l hended))

theorem keeps_resetAckMatched (l : LaneNo) (hs : P s) : P (resetAckMatched l s) :=
  h.keeps_judgeDevicePart (h.keeps_passOnJoin _ (h.keeps_freeOrDisable l (h.keeps_modLane l _ hs)))

theorem keeps_answerTimeout (l : LaneNo) (hs : P s) : P (answerTimeout l s) := by
  have hraised (pt : CausePoint) : P (raise pt (s.modLane l LaneRec.timedOut)) := h.frame hs (view_raise _ pt)
  unfold answerTimeout
  dsimp only
  split
  · split
    · next i _ =>
      exact h.keeps_judgeDevicePart (h.keeps_loseLane _ l i (h.frame (hraised _) (view_raise _ _)))
    · exact h.keeps_judgeDevicePart (hraised _)
  · exact h.keeps_judgeDevicePart (h.keeps_loseHolder _ l (hraised _))
  · exact h.keeps_judgeDevicePart (hraised _)
  · exact hs
  · exact hs
  · exact hs
  · exact hs
  · exact hs

theorem keeps_leaveFreeList (l : LaneNo) (hs : P s) : P (leaveFreeList l s) := by
  obtain ⟨lists, hv⟩ := view_leaveFreeList s l
  exact h.frame (h.free lists hs) hv

theorem keeps_laneDisable (l : LaneNo) (hs : P s) : P (laneDisable l s).2 := by
  obtain ⟨lists, hv⟩ := view_laneDisable s l
  exact h.frame (h.free lists hs) hv

theorem keeps_disableLane (l : LaneNo) (hs : P s) : P (disableLane l s).2 := by
  unfold disableLane
  split
  · exact h.keeps_duringPass (fun t ht => h.keeps_laneDisable l ht) (sparesClaims_laneDisable l) hs
  · exact h.keeps_laneDisable l hs

theorem keeps_laneEnable (l : LaneNo) (hs : P s) : P (laneEnable l s).2 := by
  unfold laneEnable
  split
  · split <;> dsimp only
    · exact h.keeps_modLane l _ hs
    · exact h.keeps_modLane l _ hs
  · exact hs

theorem keeps_laneRetire (l : LaneNo) (hs : P s) : P (laneRetire l s).2 := by
  unfold laneRetire
  split
  · exact h.keeps_startRelease l hs
  · exact hs

theorem keeps_laneRecover (l : LaneNo) (hs : P s) : P (laneRecover l s).2 := by
  unfold laneRecover
  split
  · exact h.keeps_modLane l _ hs
  · exact hs

theorem keeps_applyPendingDisable (l : LaneNo) (hs : P s) : P (applyPendingDisable l s) := by
  unfold applyPendingDisable
  dsimp only
  split
  · split
    · exact h.keeps_startRelease l hs
    · split
      · exact h.keeps_leaveFreeList l (h.keeps_modLane l _ hs)
      · exact h.keeps_modLane l _ hs
  · exact hs

theorem keeps_dropLanes (hs : P s) : P (dropLanes s) := h.frame (h.free (Table.const 4 []) hs) rfl

theorem keeps_trunkDown (hs : P s) : P (trunkDown s) :=
  h.toClaimInvariant.keeps_trunkDown (h.keeps_dropLanes (h.frame hs (view_raise _ _)))

theorem keeps_alignLane (l : LaneNo) (hs : P s) : P (alignLane l s) := by
  unfold alignLane
  dsimp only
  split
  · exact hs
  · split
    · split
      · exact h.frame hs rfl
      · exact h.keeps_modLane l _ hs
    · exact hs

theorem keeps_onTrunkCell (l : LaneNo) {take : State → State} (htake : ∀ {t}, P t → P (take t)) (hs : P s) :
    P (onTrunkCell l take s) := by
  unfold onTrunkCell
  dsimp only
  split
  · split
    · exact htake (h.keeps_modLane l _ hs)
    · exact h.keeps_modLane l _ hs
  · exact h.keeps_modLane l _ hs

/-! #### Slots and launches -/

theorem keeps_launchCell (l : LaneNo) (i : StreamNo) (hs : P s) : P (launchCell l i s) := by
  have htaken := h.keeps_takeHead i hs
  unfold launchCell
  split
  · next heq =>
    rw [heq] at htaken
    exact h.frame htaken rfl
  · next c t heq =>
    rw [heq] at htaken
    have hjudged : P (if (t.stream i).queue.isEmpty then judgeDrain i t else t) := by
      split
      · exact h.keeps_judgeDrain i htaken
      · exact htaken
    exact h.frame hjudged rfl

theorem keeps_launchCredit (l : LaneNo) (i : StreamNo) (hs : P s) : P (launchCredit l i s) := by
  have hclaimed := h.keeps_consumeCredit i hs
  unfold launchCredit
  split
  · next heq =>
    rw [heq] at hclaimed
    exact h.frame hclaimed rfl
  · next heq =>
    rw [heq] at hclaimed
    exact h.keeps_launchCell l i hclaimed

theorem keeps_readSlot (l : LaneNo) (hs : P s) : P (readSlot l s) := by
  have hfill : P (sendFill l s) := h.frame hs rfl
  unfold readSlot
  dsimp only [takeTurn_eq]
  split
  · split
    · exact h.frame hs rfl
    · next i _ _ =>
      have hbegun : P (beginLaunch l i s.dropTurn) := h.frame hs rfl
      split
      · split
        · exact hbegun
        · exact h.keeps_launchCredit l i hbegun
      · exact hfill
    · exact hfill
  · exact hfill

theorem keeps_laneSlot (l : LaneNo) (hs : P s) : P (laneSlot l s) := by
  unfold laneSlot
  split
  · split
    · exact h.keeps_launchCredit l _ hs
    · exact h.keeps_readSlot l hs
  · exact h.keeps_readSlot l hs

theorem keeps_chargeLaunches (flights : List (LaneNo × StreamNo)) (hs : P s) : P (chargeLaunches flights s).2 := by
  induction flights generalizing s with
  | nil => exact hs
  | cons f fs ih =>
    have hd : P s.dropTurn := h.frame hs (view_dropTurn s)
    unfold chargeLaunches
    dsimp only [takeTurn_eq]
    split
    · exact ih hs
    · split
      · exact ih (h.keeps_consumeCredit f.2 hd)
      · exact ih hd

theorem keeps_endLaunch (charged : List (LaneNo × StreamNo)) (f : LaneNo × StreamNo) (hs : P s) :
    P (endLaunch charged s f) := by
  unfold endLaunch
  split
  · exact h.keeps_launchCell f.1 f.2 hs
  · split
    · exact h.frame hs rfl
    · exact hs

theorem keeps_duringLaunches (which : StreamNo → Bool) {event : State → State} (hevent : ∀ {t}, P t → P (event t))
    (hs : P s) : P (duringLaunches which event s) :=
  ClaimInvariant.keeps_foldl (fun _ f => h.keeps_endLaunch _ f) _ (hevent (h.keeps_chargeLaunches _ hs))

theorem keeps_beforeCredit (which : StreamNo → Bool) {event : State → State} (hevent : ∀ {t}, P t → P (event t))
    (hs : P s) : P (beforeCredit which event s) :=
  ClaimInvariant.keeps_foldl (fun _ f => h.keeps_endLaunch _ f) _ (hevent hs)

theorem keeps_loseTrunk (hs : P s) : P (loseTrunk s) :=
  h.keeps_duringLaunches _ (h.keeps_duringPass (fun _ => h.keeps_trunkDown) sparesClaims_trunkDown) hs

theorem keeps_loseAlignment (l : LaneNo) (hs : P s) : P (loseAlignment l s) := by
  unfold loseAlignment
  dsimp only
  split
  · split
    · exact h.keeps_loseTrunk (h.keeps_modLane l _ hs)
    · exact h.keeps_modLane l _ hs
  · exact hs

theorem keeps_failedTrunkCell (l : LaneNo) (hs : P s) : P (failedTrunkCell l s) := by
  unfold failedTrunkCell
  dsimp only
  split
  · split
    · exact h.keeps_loseAlignment l (h.keeps_modLane l _ hs)
    · exact h.keeps_modLane l _ hs
  · exact h.keeps_modLane l _ hs

/-! #### Edge ports and admission -/

theorem keeps_edgeSlot (p : PortNo) (hs : P s) : P (edgeSlot p s) := by
  unfold edgeSlot
  dsimp only
  split
  · split
    · exact h.frame hs rfl
    · split
      · split
        · exact h.frame hs rfl
        · exact h.frame hs rfl
      · exact h.frame hs rfl
  · exact hs

theorem keeps_misrouted (p : PortNo) (i : StreamNo) (hs : P s) : P (misrouted p i s) := h.frame hs (view_raise _ _)

theorem keeps_queueDropped (i : StreamNo) (hs : P s) : P (queueDropped i s) := h.frame hs (view_raise _ _)

theorem keeps_duplicateDropped (i : StreamNo) (hs : P s) : P (duplicateDropped i s) := h.frame hs (view_raise _ _)

theorem keeps_admitted (gap : Bool) (i : StreamNo) (hs : P s) : P (admitted gap i s) := by
  unfold admitted
  dsimp only
  split
  · exact h.frame hs (view_raise _ _)
  · exact h.frame hs rfl

theorem keeps_offerCell (p : PortNo) (a : Arrival) (hs : P s) : P (offerCell p a s) := by
  unfold offerCell
  dsimp only
  split
  · exact h.keeps_admitted _ _ (h.keeps_appendCell _ _ hs)
  · exact h.keeps_queueDropped _ hs
  · exact h.keeps_queueDropped _ hs
  · exact h.keeps_misrouted p _ hs

theorem keeps_offerArrival (p : PortNo) (a : Arrival) (hs : P s) : P (offerArrival p a s) :=
  h.keeps_offerCell p a (h.frame hs rfl)

theorem keeps_admitArrival (p : PortNo) (c : TrafficCell) (hs : P s) : P (admitArrival p c s) := by
  unfold admitArrival
  dsimp only [takeTurn_eq]
  split
  · exact h.keeps_misrouted p _ hs
  · split
    · exact h.keeps_misrouted p _ hs
    · split
      · exact h.keeps_duplicateDropped _ hs
      · split
        · exact h.frame hs rfl
        · exact h.keeps_offerArrival p _ (h.frame hs rfl)

theorem keeps_onEdgeCell (p : PortNo) {take : State → State} (htake : ∀ {t}, P t → P (take t)) (hs : P s) :
    P (onEdgeCell p take s) := by
  unfold onEdgeCell
  split
  · exact htake (h.frame hs rfl)
  · exact h.frame hs rfl

theorem keeps_trafficCell (p : PortNo) (c : TrafficCell) (hs : P s) : P (trafficCell p c s) := by
  unfold trafficCell
  dsimp only
  split
  · next a _ =>
    have hoffered := h.keeps_offerArrival p a hs
    split
    · exact hoffered
    · exact h.keeps_onEdgeCell p (h.keeps_admitArrival p c) hoffered
  · exact h.keeps_onEdgeCell p (h.keeps_admitArrival p c) hs

theorem keeps_edgeLinkUp (p : PortNo) (hs : P s) : P (edgeLinkUp p s) := by
  unfold edgeLinkUp
  split
  · exact h.frame hs rfl
  · exact hs

theorem keeps_edgeLinkDown (p : PortNo) (hs : P s) : P (edgeLinkDown p s) := by
  unfold edgeLinkDown
  dsimp only
  split
  · exact h.frame hs ((view_admissionLoss _ p).trans ((view_agentLoss _ p).trans (view_raise _ _)))
  · exact hs

theorem keeps_badKind (p : PortNo) (hs : P s) : P (badKind p s) := h.frame hs (view_raise _ _)

theorem keeps_failedEdgeCell (p : PortNo) (hs : P s) : P (failedEdgeCell p s) := by
  unfold failedEdgeCell
  dsimp only
  split
  · split
    · exact h.keeps_edgeLinkDown p (h.frame hs (view_raise _ _))
    · exact h.frame hs (view_raise _ _)
  · exact h.frame hs rfl

theorem keeps_requestArrival (p : PortNo) (q : Request) (hs : P s) : P (requestArrival p q s) := by
  unfold requestArrival
  dsimp only
  split
  · exact h.frame hs rfl
  · split
    · exact h.frame hs rfl
    · exact h.frame hs (view_raise s _)

/-! #### The agent -/

theorem keeps_conclude (p : PortNo) (q : Request) {act : Action} (hact : ∀ s, P s → P (act s).2) (hs : P s) :
    P (conclude p q act s) := by
  have hclaimed := hact s hs
  unfold conclude
  split
  · next heq =>
    rw [heq] at hclaimed
    exact h.frame hclaimed (view_respond _ p q _)
  · next heq =>
    rw [heq] at hclaimed
    exact h.frame hclaimed rfl

theorem keeps_claimOnly (p : PortNo) {act : Action} (hact : ∀ s, P s → P (act s).2) (hs : P s) :
    P (claimOnly p act s) := by
  have hclaimed := hact s hs
  unfold claimOnly
  split
  · next heq =>
    rw [heq] at hclaimed
    exact h.frame hclaimed rfl
  · next heq =>
    rw [heq] at hclaimed
    exact h.frame hclaimed rfl

theorem keeps_startExecution (p : PortNo) (q : Request) {act : Action} (hact : ∀ s, P s → P (act s).2) (hs : P s) :
    P (startExecution p q act s) := by
  have hd : P s.dropTurn := h.frame hs (view_dropTurn s)
  unfold startExecution
  dsimp only [takeTurn_eq]
  split
  · split
    · exact h.keeps_claimOnly p hact hd
    · exact hd
  · exact h.keeps_conclude p q hact hd

theorem keeps_takeAndCheck (p : PortNo) (q : Request) {body : Body} (hbody : ∀ p q, KeepsAction P (body p q))
    (hs : P s) : P (takeAndCheck p q body s) := by
  have htaken : P (takeRequest p q s) := h.frame hs rfl
  unfold takeAndCheck
  dsimp only
  split
  · exact h.frame htaken (view_refuseRequest _ _ _ _)
  · split
    · exact h.frame htaken (view_refuseRequest _ _ _ _)
    · next hact => exact h.keeps_startExecution p q (hbody p q _ hact) htaken

theorem keeps_goOn (e : Execution) {body : Body} (hbody : ∀ p q, KeepsAction P (body p q)) (hs : P s) :
    P (goOn e body s) := by
  unfold goOn
  split
  · exact h.frame hs (view_respond _ _ _ _)
  · split
    · exact h.frame hs (view_respond _ _ _ _)
    · next hact => exact h.keeps_claimOnly _ (hbody _ _ _ hact) hs

theorem keeps_serve (row : Request → Bool) {body : Body} (hbody : ∀ p q, KeepsAction P (body p q)) (hs : P s) :
    P (serve row body s) := by
  unfold serve
  split
  · split
    · exact h.keeps_goOn _ hbody hs
    · exact hs
  · split
    · split
      · exact h.keeps_takeAndCheck _ _ hbody hs
      · exact hs
    · exact hs

/-! #### The commands' claims -/

theorem keeps_timerControl (i : StreamNo) (f : StreamRec → StreamRec) (hs : P s) : P (timerControl i f s).2 := by
  unfold timerControl
  split
  · exact hs
  · exact h.keeps_changePacing i f hs

theorem keeps_presetTimer (clear : Bool) (i : StreamNo) (hs : P s) : P (presetTimer clear i s).2 := by
  unfold presetTimer
  split
  · exact hs
  · exact h.keeps_beforeCredit _ (h.keeps_changePacing i _) hs

theorem keeps_discardClose (i : StreamNo) (hs : P s) : P (discardClose i s).2 :=
  h.keeps_duringLaunches _ (h.keeps_closeDiscard i) hs

theorem keeps_stageDevice (q : Request) (hs : P s) : P (stageDevice (deviceImageAt q.payload 3) s).2 := by
  unfold stageDevice
  split
  · next himage => exact h.stage (deviceImageAt_budgetCount himage) hs
  · exact hs

theorem keeps_stageStream (i : StreamNo) (img : Option StreamImage) (hs : P s) : P (stageStream i img s).2 := by
  cases img with
  | none => exact hs
  | some m => exact h.frame hs rfl

theorem keeps_stagePort (p : PortNo) (img : Option PortRecord) (hs : P s) : P (stagePort p img s).2 := by
  cases img with
  | none => exact hs
  | some r => exact h.frame hs rfl

theorem keeps_discardDevice (hs : P s) : P (discardDevice s) := by
  have hunstaged : P { s with stagedParams := none } := h.unstage hs
  unfold discardDevice
  dsimp only
  split
  · exact h.keeps_callPass (h.frame hunstaged rfl)
  · exact hunstaged

theorem keeps_discard (scope : DiscardScope) (hs : P s) : P (discard scope s).2 := by
  have hcompletion {t : State} (ht : P t) : P (judgeCompletion t) := h.frame ht (view_judgeCompletion t)
  cases scope with
  | stream i => exact hcompletion (h.frame hs rfl)
  | device => exact hcompletion (h.keeps_discardDevice hs)
  | port p => exact h.frame hs rfl
  | all => exact hcompletion (h.keeps_discardDevice (h.frame hs rfl))

theorem keeps_commitFree (i : StreamNo) (hs : P s) : P (commitFree i s) := by
  unfold commitFree
  split
  · exact h.frame (h.keeps_applyRecord i _ hs) rfl
  · exact hs

theorem keeps_commitHolder (i : StreamNo) (hs : P s) : P (commitHolder i s) := h.frame hs rfl

theorem keeps_commitDevice (quiet : Bool) (hs : P s) : P (commitDevice quiet s) := by
  unfold commitDevice
  split
  · exact hs
  · next hd =>
    split
    · exact h.frame (h.apply hd hs) rfl
    · exact h.frame hs rfl

theorem keeps_commitClaims (free holders : List StreamNo) (deviceApplied : Bool) (hs : P s) :
    P (commitClaims free holders deviceApplied s) := by
  have hjudged : P (holders.foldl (fun s i => judgeHeld i s) s) := h.frame hs (foldl_keeps s view_judgeHeld _)
  refine ClaimInvariant.keeps_foldl (fun _ i => h.keeps_demandChanged i) _ ?_
  split
  · exact h.keeps_callPass hjudged
  · exact hjudged

theorem keeps_takeCommit (p : PortNo) (q : Request) (scope : CommitScope) (hs : P s) : P (takeCommit p q scope s).2 := by
  unfold takeCommit
  split
  · exact hs
  · split
    · exact hs
    · extract_lets quiet named free holders opened t₁ t₂ t₃ t₄ t₅ deviceApplied
      have hopened : P t₁ := h.frame hs rfl
      have hports : P t₂ := by
        simp only [t₂]
        split
        · exact h.frame hopened rfl
        · exact hopened
      have hfree : P t₃ := ClaimInvariant.keeps_foldl (fun _ i => h.keeps_commitFree i) _ hports
      have hholders : P t₄ := ClaimInvariant.keeps_foldl (fun _ i => h.keeps_commitHolder i) _ hfree
      have hdevice : P t₅ := by
        simp only [t₅]
        split
        · exact h.keeps_commitDevice quiet hholders
        · exact hholders
      split
      · split
        · exact h.keeps_commitClaims _ _ _ (h.frame hdevice rfl)
        · exact h.keeps_commitClaims _ _ _ hdevice
      · exact hdevice

theorem keeps_restartCommit (hs : P s) : P (restartCommit s) := by
  unfold restartCommit
  extract_lets before t₁ t₂ t₃
  have hstreams : P t₂ := h.frame hs rfl
  have hdevice : P t₃ := by
    simp only [t₃]
    split
    · next hd => exact h.apply hd hstreams
    · exact h.frame hstreams rfl
  split
  · exact h.frame hdevice (view_closeRecord _ _ _ _)
  · exact hdevice

theorem keeps_deviceRestart (hs : P s) : P (deviceRestart s) := by
  have hcleared : P (restartArbiter (dropLanes s)) := h.clear (h.keeps_dropLanes hs)
  have hcommit := h.keeps_restartCommit (s := restartStreams (restartQueues (restartArbiter (dropLanes s))))
    (h.frame hcleared rfl)
  unfold deviceRestart restartRecoveries
  split
  · exact h.frame hcommit rfl
  · exact h.frame hcommit rfl

/-! #### Expiries and the commands -/

theorem keeps_answerExpiry (l : LaneNo) (hs : P s) : P (answerExpiry l s) := by
  unfold answerExpiry
  split
  · exact h.keeps_answerTimeout l hs
  · exact hs

theorem keeps_holdExpiry (l : LaneNo) (hs : P s) : P (holdExpiry l s) := by
  unfold holdExpiry
  split
  · exact h.keeps_startRelease l hs
  · exact hs

theorem keeps_settleExpiry (i : StreamNo) (hs : P s) : P (settleExpiry i s) := by
  unfold settleExpiry
  split
  · exact h.keeps_notify _ i (h.frame hs rfl)
  · exact hs

theorem keeps_commitExpiry (hs : P s) : P (commitExpiry s) := by
  unfold commitExpiry
  split
  · split
    · exact h.frame hs ((view_raise _ _).trans (view_closeRecord _ _ _ _))
    · exact hs
  · exact hs

theorem keeps_budgetAgeOut (hs : P s) : P (budgetAgeOut s) := by
  unfold budgetAgeOut
  split
  · next hb =>
    split
    · exact h.keeps_pass (h.age hb hs)
    · exact hs
  · exact hs

theorem keeps_spacingExpiry (hs : P s) : P (spacingExpiry s) := by
  unfold spacingExpiry
  split
  · exact h.keeps_pass (h.frame hs rfl)
  · exact hs

theorem keeps_imageApplication (i : StreamNo) (hs : P s) : P (imageApplication i s) := by
  unfold imageApplication
  dsimp only
  split
  · exact h.keeps_demandChanged i (h.keeps_commitLoss i hs)
  · exact hs

omit h in
theorem keeps_atStroke {f : State → State} {t : State} (hf : ∀ {u}, P u → P (f u)) (hstep : atStroke f s = .next t)
    (hs : P s) : P t := by
  unfold atStroke at hstep
  split at hstep
  · cases hstep; exact hs
  · cases hstep; exact hf hs

theorem keeps_running {f : State → State} {t : State} (hf : ∀ {u}, P u → P (f u)) :
    running f s = .next t → P s → P t := keeps_atStroke fun hu => hf (h.keeps_countFirst hu)

theorem keeps_running_serve {row : Request → Bool} {body : Body} {t : State}
    (hbody : ∀ p q, KeepsAction P (body p q)) : running (serve row body) s = .next t → P s → P t :=
  h.keeps_running (h.keeps_serve row hbody)

theorem keepsAction_bodyDiscard (p : PortNo) (q : Request) : KeepsAction P (bodyDiscard p q) := by
  unfold bodyDiscard
  split
  · exact keepsAction_answering fun _ => h.keeps_discard _
  · exact keepsAction_error _

theorem keepsAction_bodyCommit (p : PortNo) (q : Request) : KeepsAction P (bodyCommit p q) := by
  unfold bodyCommit
  split
  · exact keepsAction_ok fun _ => h.keeps_takeCommit p q _
  · exact keepsAction_error _

/-- Every command keeps the invariant. -/
theorem keeps_exec (c : Instr) {t : State} : exec c s = .next t → P s → P t := by
  cases c with
  | powerOnReset => rintro ⟨⟩ _; exact h.reset false s
  | resetPinAsserted => rintro ⟨⟩ _; exact h.reset true s
  | stroke => exact keeps_atStroke h.keeps_stroke
  | answerDeadlineExpiry l => exact keeps_atStroke (h.keeps_answerExpiry l)
  | holdDeadlineExpiry l => exact keeps_atStroke (h.keeps_holdExpiry l)
  | settleDeadlineExpiry i => exact keeps_atStroke (h.keeps_settleExpiry i)
  | commitDeadlineExpiry => exact keeps_atStroke h.keeps_commitExpiry
  | budgetEntryAgeOut => exact keeps_atStroke h.keeps_budgetAgeOut
  | spacingExpiry => exact keeps_atStroke h.keeps_spacingExpiry
  | arbiterPass => exact h.keeps_running h.keeps_pass
  | laneSlot l => exact h.keeps_running (h.keeps_laneSlot l)
  | drainCompletion i => exact h.keeps_running (h.keeps_judgeDrain i)
  | edgeSlot p => exact h.keeps_running (h.keeps_edgeSlot p)
  | edgeLinkUp p => exact h.keeps_running (h.keeps_edgeLinkUp p)
  | edgeLinkDown p => exact h.keeps_running (h.keeps_edgeLinkDown p)
  | laneAligned l => exact h.keeps_running (h.keeps_alignLane l)
  | laneAlignmentLost l => exact h.keeps_running (h.keeps_loseAlignment l)
  | trafficCellArrival p c => exact h.keeps_running (h.keeps_trafficCell p c)
  | requestCellArrival p q => exact h.keeps_running (h.keeps_onEdgeCell p (h.keeps_requestArrival p q))
  | edgeFillCell p => exact h.keeps_running (h.keeps_onEdgeCell p id)
  | edgeBadKindCell p kind => exact h.keeps_running (h.keeps_onEdgeCell p (h.keeps_badKind p))
  | edgeBadCheckCell p => exact h.keeps_running (h.keeps_failedEdgeCell p)
  | bindAckAccept l tag =>
    exact h.keeps_running (h.keeps_onTrunkCell l (h.keeps_takeAnswer .bind l tag (h.keeps_bindAcceptMatched l)))
  | bindAckRefuse l tag =>
    exact h.keeps_running (h.keeps_onTrunkCell l (h.keeps_takeAnswer .bind l tag (h.keeps_bindRefuseMatched l)))
  | bindAckUnknownCode l tag code => exact h.keeps_running (h.keeps_onTrunkCell l (h.keeps_takeUnknownAnswer l tag))
  | releaseAck l tag =>
    exact h.keeps_running (h.keeps_onTrunkCell l (h.keeps_takeAnswer .release l tag (h.keeps_releaseAckMatched l)))
  | resetAck l tag =>
    exact h.keeps_running (h.keeps_onTrunkCell l (h.keeps_takeAnswer .laneReset l tag (h.keeps_resetAckMatched l)))
  | pause l tag => exact h.keeps_running (h.keeps_onTrunkCell l (h.keeps_takePause true l tag))
  | resume l tag => exact h.keeps_running (h.keeps_onTrunkCell l (h.keeps_takePause false l tag))
  | trunkOtherKindCell l kind => exact h.keeps_running (h.keeps_onTrunkCell l (h.keeps_strayCell l))
  | trunkFillCell l => exact h.keeps_running (h.keeps_onTrunkCell l id)
  | trunkBadCheckCell l => exact h.keeps_running (h.keeps_failedTrunkCell l)
  | disablePendingApplied l => exact h.keeps_running (h.keeps_applyPendingDisable l)
  | streamImageApplication i => exact h.keeps_running (h.keeps_imageApplication i)
  | deviceApplication => exact h.keeps_running h.keeps_judgeDevicePart
  | commitResponse => exact h.keeps_running fun hu => h.frame hu (view_takeCommitAnswer _)
  | readDevice => exact h.keeps_running_serve fun _ _ => keepsAction_withPart _
  | readPort => exact h.keeps_running_serve fun _ _ => keepsAction_withTarget fun _ => keepsAction_withPart _
  | readLane => exact h.keeps_running_serve fun _ _ => keepsAction_withTarget fun _ => keepsAction_withPart _
  | readStream => exact h.keeps_running_serve fun _ _ => keepsAction_withTarget fun _ => keepsAction_withPart _
  | readNotices => exact h.keeps_running_serve fun _ _ => keepsAction_withTarget fun _ => keepsAction_reading _
  | stageDevice =>
    exact h.keeps_running_serve fun _ q => keepsAction_answering fun _ => h.keeps_stageDevice q
  | stagePort =>
    exact h.keeps_running_serve fun _ _ => keepsAction_withTarget fun p =>
      keepsAction_answering fun _ => h.keeps_stagePort p _
  | stageStream =>
    exact h.keeps_running_serve fun _ _ => keepsAction_withTarget fun i =>
      keepsAction_answering fun _ => h.keeps_stageStream i _
  | discard => exact h.keeps_running_serve h.keepsAction_bodyDiscard
  | commit => exact h.keeps_running_serve h.keepsAction_bodyCommit
  | openStream =>
    exact h.keeps_running_serve fun _ _ => keepsAction_withTarget fun i =>
      keepsAction_answering fun _ => h.keeps_openStream i
  | closeStream =>
    exact h.keeps_running_serve fun _ _ => keepsAction_withTarget fun i => keepsAction_withSelector
      (keepsAction_answering fun _ => h.keeps_closePlain i)
  | closeStreamDiscard =>
    exact h.keeps_running_serve fun _ _ => keepsAction_withTarget fun i => keepsAction_withSelector
      (keepsAction_answering fun _ => h.keeps_discardClose i)
  | clearHold =>
    exact h.keeps_running_serve fun _ _ => keepsAction_withTarget fun i =>
      keepsAction_answering fun _ => h.keeps_clearHold i
  | timerControlRun =>
    exact h.keeps_running_serve fun _ _ => keepsAction_withTarget fun i => keepsAction_withSelector
      (keepsAction_answering fun _ => h.keeps_timerControl i _)
  | timerControlStop =>
    exact h.keeps_running_serve fun _ _ => keepsAction_withTarget fun i => keepsAction_withSelector
      (keepsAction_answering fun _ => h.keeps_timerControl i _)
  | timerControlPreset =>
    exact h.keeps_running_serve fun _ _ => keepsAction_withTarget fun i => keepsAction_withSelector
      (keepsAction_answering fun _ => h.keeps_presetTimer _ i)
  | ackNotice =>
    exact h.keeps_running_serve fun _ _ => keepsAction_withTarget fun n =>
      keepsAction_answering fun s hs => h.frame hs (view_ackNotice s n _)
  | laneControlEnable =>
    exact h.keeps_running_serve fun _ _ => keepsAction_withTarget fun l => keepsAction_withSelector
      (keepsAction_answering fun _ => h.keeps_laneEnable l)
  | laneControlDisable =>
    exact h.keeps_running_serve fun _ _ => keepsAction_withTarget fun l => keepsAction_withSelector
      (keepsAction_answering fun _ => h.keeps_disableLane l)
  | laneControlRetire =>
    exact h.keeps_running_serve fun _ _ => keepsAction_withTarget fun l => keepsAction_withSelector
      (keepsAction_answering fun _ => h.keeps_laneRetire l)
  | laneControlRecover =>
    exact h.keeps_running_serve fun _ _ => keepsAction_withTarget fun l => keepsAction_withSelector
      (keepsAction_answering fun _ => h.keeps_laneRecover l)
  | restart =>
    exact h.keeps_running_serve fun _ _ => keepsAction_ok fun _ => h.keeps_duringLaunches _ h.keeps_deviceRestart
  | unknownCommandCode => exact h.keeps_running_serve fun _ _ => keepsAction_error _

/-- Every step keeps the invariant. -/
theorem keeps_step {t : State} (hstep : step s = .next t) (hs : P s) : P t := by
  unfold step at hstep
  split at hstep
  · cases hstep; exact hs
  · exact h.keeps_exec _ hstep (h.frame hs rfl)

end StepInvariant

theorem budgetInv_stepInvariant : StepInvariant BudgetInv where
  toClaimInvariant := budgetInv_claimInvariant
  free _ hs := hs
  age hb hs := by
    obtain ⟨hcount, hstaged, hlength⟩ := hs
    rw [hb] at hlength
    exact ⟨hcount, hstaged, Nat.le_of_succ_le hlength⟩
  stage hd hs := ⟨hs.1, fun _ h => Option.some.inj h ▸ hd, hs.2.2⟩
  unstage hs := ⟨hs.1, nofun, hs.2.2⟩
  clear hs := ⟨hs.1, hs.2.1, Nat.zero_le 8⟩
  reset _ _ := ⟨(by decide : (4 : Nat) ≤ 8), nofun, Nat.zero_le 8⟩

theorem listInv_stepInvariant : StepInvariant ListInv where
  toClaimInvariant := listInv_claimInvariant
  free _ hs := hs
  age _ hs := hs
  stage _ hs := hs
  unstage hs := hs
  clear _ := ⟨.nil, fun g => Table.read_const false g⟩
  reset _ _ := ⟨.nil, fun g => Table.read_const false g⟩

/-- Settles O59: both invariants are among those that every command keeps. -/
theorem stepKeepsArbiterLists : Obligations.StepKeepsArbiterLists :=
  ⟨fun _ _ => budgetInv_stepInvariant.keeps_step, fun _ _ => listInv_stepInvariant.keeps_step⟩

/-! ### The expiries of the setup budget (R45, R47, R48) -/

section expiry
variable {s : State}

theorem budgetAgeOut_aged {oldest : PaceCount} {rest : List PaceCount} (hb : s.budget = oldest :: rest)
    (h : s.params.budgetWindow ≤ ageOf s.paceCount oldest) : budgetAgeOut s = pass { s with budget := rest } := by
  simp only [budgetAgeOut, hb, if_pos h]

theorem budgetAgeOut_young {oldest : PaceCount} {rest : List PaceCount} (hb : s.budget = oldest :: rest)
    (h : ageOf s.paceCount oldest < s.params.budgetWindow) : budgetAgeOut s = s := by
  simp only [budgetAgeOut, hb, if_neg (Nat.not_le.2 h)]

theorem spacingExpiry_due (h : due s.paceCount s.spacing = true) :
    spacingExpiry s = pass { s with spacing := none } := if_pos h

theorem spacingExpiry_early (h : due s.paceCount s.spacing = false) : spacingExpiry s = s := if_neg (by simp [h])

end expiry

/-- Settles O34, by what each expiry finds. -/
theorem budgetAndSpacingExpire : Obligations.BudgetAndSpacingExpire := by
  intro s hpin
  have age : exec .budgetEntryAgeOut s = .next (budgetAgeOut s) := Pacing.atStroke_running _ hpin
  have spacing : exec .spacingExpiry s = .next (spacingExpiry s) := Pacing.atStroke_running _ hpin
  refine ⟨fun oldest rest hb => ⟨fun hw => ?_, fun hw => ?_⟩, fun d hd => ⟨fun hf => ?_, fun hf => ?_⟩⟩
  · rw [age, budgetAgeOut_aged hb hw]
  · rw [age, budgetAgeOut_young hb hw]
  · rw [spacing, spacingExpiry_due (hd ▸ Pacing.due_some hf)]
  · refine spacing.trans (congrArg _ (spacingExpiry_early (Pacing.due_eq_false fun d' hd' => ?_)))
    obtain rfl : d = d' := Option.some.inj (hd.symm.trans hd')
    exact hf

/-! ### The application of a waiting device set (R52, R123, R124) -/

theorem inHandshake_eq_false_iff (st : LaneState) :
    st.inHandshake = false ↔ st ≠ .binding ∧ st ≠ .unbinding ∧ st ≠ .recovering := by
  cases st <;> decide

theorem lanesQuiet_iff (s : State) :
    s.lanesQuiet = true ↔
      ∀ l, (s.lane l).state ≠ .binding ∧ (s.lane l).state ≠ .unbinding ∧ (s.lane l).state ≠ .recovering := by
  simp only [State.lanesQuiet, Table.all_toList, Bool.not_eq_true', inHandshake_eq_false_iff]
  rfl

section device
variable {s : State}

theorem judgeDevicePart_applies {d : DeviceParams} (hd : s.stagedParams = some d) (hpending : s.trunkCommitPending = true)
    (hquiet : s.lanesQuiet = true) : judgeDevicePart s = judgeCompletion (callPass (applyDevice d s)) := by
  simp [judgeDevicePart, hd, hpending, hquiet]

theorem judgeDevicePart_waits
    (h : s.trunkCommitPending = false ∨ s.stagedParams = none ∨ s.lanesQuiet = false) : judgeDevicePart s = s := by
  unfold judgeDevicePart
  split
  · next hd => exact if_neg (by simpa [hd, or_iff_not_imp_left] using h)
  · rfl

/-- The whole set becomes active, and the arbiter takes the new W and S (R52, R124). -/
theorem applyDevice_eq (d : DeviceParams) (s : State) :
    applyDevice d s =
      let kept := s.budget.filter fun b => (s.paceCount - b).toNat < d.budgetWindow
      { s with
        params := d
        stagedParams := none
        trunkCommitPending := false
        record := s.record.map fun c =>
          { c with devicePart := if c.devicePart = .pending then .applied else c.devicePart }
        budget := kept
        spacing :=
          if d.bindSpacing = 0 then none
          else kept.getLast?.bind fun newest =>
            let deadline := newest + BitVec.ofNat 32 d.bindSpacing
            if inFuture s.paceCount deadline then some deadline else none } := by
  have hpart (c : CommitRecord) :
      (if c.devicePart = .pending then { c with devicePart := .applied } else c) =
        { c with devicePart := if c.devicePart = .pending then .applied else c.devicePart } := by split <;> rfl
  have hspacing (newest : Option PaceCount) :
      (match newest with
        | some b => if inFuture s.paceCount (deadlineAfter b d.bindSpacing) then some (deadlineAfter b d.bindSpacing)
          else none
        | none => none) =
        newest.bind fun b =>
          if inFuture s.paceCount (b + BitVec.ofNat 32 d.bindSpacing) then some (b + BitVec.ofNat 32 d.bindSpacing)
          else none := by cases newest <;> rfl
  dsimp only
  rw [← hspacing]
  simp only [applyDevice, takeBudgetValues, modRecord, hpart]
  rfl

end device

/-- Settles O42: the set is applied where it waits and the lanes are quiet, and nothing happens otherwise. -/
theorem deviceSetApplied : Obligations.DeviceSetApplied := by
  intro s hpin hcount quiet
  have hquiet : s.lanesQuiet = true ↔ quiet := lanesQuiet_iff s
  have run : exec .deviceApplication s = .next (judgeDevicePart s) := running_counted hpin hcount
  refine ⟨fun d hpending hd hq => ?_, fun h => ?_⟩
  · rw [run, judgeDevicePart_applies hd hpending (hquiet.2 hq), applyDevice_eq]
  · rw [← hquiet, Bool.not_eq_true] at h
    rw [run, judgeDevicePart_waits h]

/-! ### List order (R39) -/

/-- The list order of two entries: the earlier request time first, at one age the lower stream number. -/
def NotBehind (now : PaceCount) (x y : RequestEntry) : Prop :=
  cappedAge now y.time < cappedAge now x.time ∨ (cappedAge now x.time = cappedAge now y.time ∧ x.stream ≤ y.stream)

section order
variable {now : PaceCount} {x y z e : RequestEntry}

theorem ahead_iff : x.ahead now e = true ↔
    cappedAge now e.time < cappedAge now x.time
      ∨ (cappedAge now x.time = cappedAge now e.time ∧ x.stream < e.stream) := by
  simp [RequestEntry.ahead]

theorem NotBehind.of_ahead (h : x.ahead now e = true) : NotBehind now x e :=
  (ahead_iff.1 h).imp_right fun ⟨hage, hstream⟩ => ⟨hage, hstream.le⟩

theorem NotBehind.of_not_ahead (h : ¬ x.ahead now e = true) : NotBehind now e x := by
  rw [ahead_iff, not_or, not_and] at h
  obtain ⟨hage, hstream⟩ := h
  obtain hlt | heq := Nat.lt_or_eq_of_le (Nat.not_lt.1 hage)
  · exact .inl hlt
  · exact .inr ⟨heq.symm, not_lt.1 (hstream heq)⟩

theorem NotBehind.trans (hxy : NotBehind now x y) (hyz : NotBehind now y z) : NotBehind now x z := by
  obtain hxy | ⟨hxy, hs⟩ := hxy <;> obtain hyz | ⟨hyz, ht⟩ := hyz
  · exact .inl (hyz.trans hxy)
  · exact .inl (hyz ▸ hxy)
  · exact .inl (hxy ▸ hyz)
  · exact .inr ⟨hxy.trans hyz, hs.trans ht⟩

/-- The joining entry comes behind those that are ahead of it at the list's front. -/
theorem insertEntry_eq (now : PaceCount) (e : RequestEntry) (es : List RequestEntry) :
    insertEntry now e es =
      es.takeWhile (fun x => x.ahead now e) ++ e :: es.dropWhile (fun x => x.ahead now e) := by
  induction es with
  | nil => rfl
  | cons x xs ih =>
    rw [insertEntry, List.takeWhile_cons, List.dropWhile_cons]
    split
    · rw [ih, List.cons_append]
    · rfl

/-- A list in order stays in order. -/
theorem insertEntry_pairwise {es : List RequestEntry} (h : es.Pairwise (NotBehind now)) :
    (insertEntry now e es).Pairwise (NotBehind now) := by
  induction es with
  | nil => exact List.pairwise_singleton _ e
  | cons x xs ih =>
    obtain ⟨hx, hxs⟩ := List.pairwise_cons.1 h
    rw [insertEntry]
    split
    · next hahead =>
      refine .cons (fun y hy => ?_) (ih hxs)
      obtain rfl | hy := List.mem_cons.1 ((insertEntry_perm now e xs).mem_iff.1 hy)
      · exact .of_ahead hahead
      · exact hx y hy
    · next hbehind =>
      have hex : NotBehind now e x := .of_not_ahead hbehind
      refine .cons (fun y hy => ?_) h
      obtain rfl | hy := List.mem_cons.1 hy
      · exact hex
      · exact hex.trans (hx y hy)

end order

section joining
variable {s : State} {e : RequestEntry}

theorem joinList_later (h : s.groupWanted e.group = true) :
    joinList e s = { s with requests := insertEntry s.paceCount e s.requests } := by
  simp [joinList, h]

theorem joinList_first (h : s.groupWanted e.group = false) :
    joinList e s =
      judgeGroup e.group
        ({ s with requests := insertEntry s.paceCount e s.requests }.setWaiting e.group true) := by
  simp [joinList, h]

end joining

theorem withoutEntry_eq (i : StreamNo) (es : List RequestEntry) :
    withoutEntry i es = es.filter fun x => x.stream ≠ i :=
  List.filter_congr fun x _ => by simp [bne, beq_eq_decide]

/-- Settles O33, by the joining and the removal of an entry. -/
theorem entryJoinsInOrder : Obligations.EntryJoinsInOrder := by
  refine ⟨?_, ?_, ?_⟩
  · intro now e es age ahead
    have hahead : ahead = NotBehind now := rfl
    rw [hahead]
    refine ⟨_, _, List.takeWhile_append_dropWhile.symm, insertEntry_eq now e es, fun x hx => ?_, insertEntry_pairwise⟩
    have hx := List.mem_takeWhile_imp (p := fun x : RequestEntry => x.ahead now e) hx
    refine ⟨NotBehind.of_ahead hx, fun (hage : cappedAge now x.time = cappedAge now e.time) => ?_⟩
    obtain hlt | ⟨-, hstream⟩ := ahead_iff.1 hx
    · exact absurd hage hlt.ne'
    · exact hstream.ne
  · intro s e joined
    exact ⟨fun h => joinList_later (groupWanted_iff.2 h), fun h => joinList_first (groupWanted_eq_false_iff.2 h)⟩
  · intro s i rest
    have hrest : withoutEntry i s.requests = rest := withoutEntry_eq i s.requests
    refine ⟨removeEntry_absent, fun e he => ?_⟩
    rw [removeEntry_found he, hrest]
    exact ⟨fun h => indicateNotWaiting_wanted (groupWanted_iff.2 h),
      fun h => indicateNotWaiting_last (groupWanted_eq_false_iff.2 h)⟩

/-! ### A pass, round by round (R46, R49, R50) -/

theorem budgetOpen_eq_false_iff (s : State) :
    s.budgetOpen = false ↔
      s.params.budgetCount ≤ s.budget.length
        ∨ ∃ newest, s.budget.getLast? = some newest ∧ (s.paceCount - newest).toNat < s.params.bindSpacing := by
  unfold State.budgetOpen ageOf
  rw [Bool.and_eq_false_iff, decide_eq_false_iff_not, Nat.not_lt]
  cases s.budget.getLast? with
  | none => simp
  | some newest => simp only [decide_eq_false_iff_not, Nat.not_le, Option.some.injEq, exists_eq_left']

/-- The stop tests (R46, R49 step 1). -/
theorem passStops_iff (s : State) :
    s.passStops = true ↔
      s.trunkCommitPending = true ∨ s.params.budgetCount ≤ s.budget.length
        ∨ ∃ newest, s.budget.getLast? = some newest ∧ (s.paceCount - newest).toNat < s.params.bindSpacing := by
  rw [State.passStops, Bool.or_eq_true, Bool.not_eq_true', budgetOpen_eq_false_iff]

section rounds
variable {s : State} {marked : List GroupNo} {e : RequestEntry}

/-- No entry's group has a free lane and is unmarked (R49, step 2). -/
theorem choice_eq_none_iff :
    s.choice marked = none ↔ ∀ e ∈ s.requests, e.group ∈ marked ∨ s.freeLanes.read e.group = [] := by
  simp [State.choice, List.find?_eq_none, or_iff_not_imp_left]

/-- The earliest entry whose group has a free lane and is unmarked. -/
theorem choice_eq_some_iff :
    s.choice marked = some e ↔
      (e.group ∉ marked ∧ s.freeLanes.read e.group ≠ [])
        ∧ ∃ before after, s.requests = before ++ e :: after
            ∧ ∀ x ∈ before, x.group ∈ marked ∨ s.freeLanes.read x.group = [] := by
  simp [State.choice, List.find?_eq_some_iff_append, or_iff_not_imp_left]

/-- The entry chosen finds a lane at the head of its group's list. -/
theorem choice_freeLanes (h : s.choice marked = some e) : ∃ l rest, s.freeLanes.read e.group = l :: rest :=
  List.exists_cons_of_ne_nil (choice_eq_some_iff.1 h).1.2

theorem passLoop_ended (h : s.passStops = true ∨ s.choice marked = none) (n : Nat) : passLoop n marked s = s := by
  cases n with
  | zero => rfl
  | succ n =>
    obtain h | h := h
    · rw [passLoop, if_pos h]
    · simp [passLoop, h]

theorem passUntil_ended (h : s.passStops = true ∨ s.choice marked = none) (n : Nat) :
    passUntil n marked s = (none, s) := by
  cases n with
  | zero => rfl
  | succ n =>
    obtain h | h := h
    · rw [passUntil, if_pos h]
    · simp [passUntil, h]

section round
variable (hstops : s.passStops = false) (hchoice : s.choice marked = some e)
include hstops hchoice

theorem passLoop_removes (hw : (s.stream e.stream).wantsLane s.paceCount = false) (n : Nat) :
    passLoop (n + 1) marked s = passLoop n marked (removeEntry e.stream s) := by
  simp [passLoop, hstops, hchoice, hw]

theorem passUntil_removes (hw : (s.stream e.stream).wantsLane s.paceCount = false) (n : Nat) :
    passUntil (n + 1) marked s = passUntil n marked (removeEntry e.stream s) := by
  simp [passUntil, hstops, hchoice, hw]

variable {l : LaneNo} {rest : List LaneNo} (hfree : s.freeLanes.read e.group = l :: rest)
  (hw : (s.stream e.stream).wantsLane s.paceCount = true)
include hfree hw

theorem passLoop_starts (n : Nat) : passLoop (n + 1) marked s = passLoop n marked (startBind e l rest s) := by
  simp [passLoop, hstops, hchoice, hw, takeClaim_granted hfree]

/-- A turn at the claim says whether another event comes before it (R50). -/
theorem passUntil_claims (n : Nat) :
    passUntil (n + 1) marked s =
      if s.turn then (some (e, marked), s.dropTurn) else passUntil n marked (startBind e l rest s.dropTurn) := by
  have hdrop : s.dropTurn.freeLanes.read e.group = l :: rest := hfree
  simp [passUntil, hstops, hchoice, hw, takeClaim_granted hdrop]

end round

theorem length_withoutEntry_lt {i : StreamNo} {es : List RequestEntry} (he : e ∈ es) (hi : e.stream = i) :
    (withoutEntry i es).length < es.length :=
  List.length_filter_lt_length_iff_exists.2 ⟨e, he, by simp [hi]⟩

/-- A round for each entry is enough: each round of a pass takes one out of the list. -/
theorem passLoop_fuel {n m : Nat} (hn : s.requests.length ≤ n) (hm : s.requests.length ≤ m) :
    passLoop n marked s = passLoop m marked s := by
  induction n generalizing m s with
  | zero =>
    have hnone : s.choice marked = none := by
      simp [State.choice, List.eq_nil_of_length_eq_zero (Nat.le_zero.1 hn)]
    rw [passLoop_ended (.inr hnone) m, passLoop]
  | succ n ih =>
    by_cases hend : s.passStops = true ∨ s.choice marked = none
    · rw [passLoop_ended hend, passLoop_ended hend]
    · rw [not_or, Bool.not_eq_true] at hend
      obtain ⟨hstops, hsome⟩ := hend
      obtain ⟨e, hchoice⟩ := Option.ne_none_iff_exists'.1 hsome
      obtain ⟨l, rest, hfree⟩ := choice_freeLanes hchoice
      have hlt := length_withoutEntry_lt (List.mem_of_find?_eq_some hchoice) rfl
      obtain ⟨m, rfl⟩ : ∃ k, m = k + 1 := ⟨m - 1, by omega⟩
      cases hw : (s.stream e.stream).wantsLane s.paceCount with
      | false =>
        rw [passLoop_removes hstops hchoice hw, passLoop_removes hstops hchoice hw]
        exact ih (by rw [removeEntry_requests]; omega) (by rw [removeEntry_requests]; omega)
      | true =>
        rw [passLoop_starts hstops hchoice hfree hw, passLoop_starts hstops hchoice hfree hw]
        exact ih (by rw [startBind_requests]; omega) (by rw [startBind_requests]; omega)

theorem pass_ended (h : s.passStops = true ∨ s.choice [] = none) : pass s = s := passLoop_ended h _

/-- A pass goes on after a removal as a pass of its own. -/
theorem pass_removes (hstops : s.passStops = false) (hchoice : s.choice [] = some e)
    (hw : (s.stream e.stream).wantsLane s.paceCount = false) : pass s = pass (removeEntry e.stream s) := by
  have hlt := length_withoutEntry_lt (List.mem_of_find?_eq_some hchoice) rfl
  refine (passLoop_removes hstops hchoice hw _).trans (passLoop_fuel ?_ (Nat.le_add_right _ 4))
  rw [removeEntry_requests]
  omega

/-- A pass goes on after a start as a pass of its own. -/
theorem pass_starts {l : LaneNo} {rest : List LaneNo} (hstops : s.passStops = false) (hchoice : s.choice [] = some e)
    (hfree : s.freeLanes.read e.group = l :: rest) (hw : (s.stream e.stream).wantsLane s.paceCount = true) :
    pass s = pass (startBind e l rest s) := by
  have hlt := length_withoutEntry_lt (List.mem_of_find?_eq_some hchoice) rfl
  refine (passLoop_starts hstops hchoice hfree hw _).trans (passLoop_fuel ?_ (Nat.le_add_right _ 4))
  rw [startBind_requests]
  omega

/-- With a bind spacing, a start is the last of its pass (R46). -/
theorem passStops_startBind {l : LaneNo} {rest : List LaneNo} (h : 1 ≤ s.params.bindSpacing) :
    (startBind e l rest s).passStops = true := by
  have hsans := startBind_sansBinding s e l rest
  refine (passStops_iff _).2 (.inr (.inr ⟨s.paceCount, ?_, ?_⟩))
  · rw [startBind_budget, List.getLast?_concat]
  · rw [paceCount_of_sansBinding hsans, params_of_sansBinding hsans, BitVec.sub_self]
    exact h

theorem exec_arbiterPass (hpin : s.resetPin = false) (hcount : s.uncounted = false) :
    exec .arbiterPass s = .next (pass s) := running_counted hpin hcount

/-- What keeps all but bindings keeps ARBITER_PASS a pass. -/
theorem exec_arbiterPass_of_sansBinding {t : State} (ht : t.sansBinding = s.sansBinding) (hpin : s.resetPin = false)
    (hcount : s.uncounted = false) : exec .arbiterPass t = .next (pass t) :=
  exec_arbiterPass ((resetPin_of_sansBinding ht).trans hpin) ((uncounted_of_sansBinding ht).trans hcount)

end rounds

/-! ### What follows from a granted claim (R91, R95) -/

section grant
variable {s : State} {g : GroupNo}

theorem afterGrant_lanesLeft (hfree : s.freeLanes.read g ≠ []) : afterGrant g s = indicateNotWaiting g s := by
  simp [afterGrant, hfree]

theorem afterGrant_emptied (hfree : s.freeLanes.read g = []) (hw : s.groupWanted g = true) :
    afterGrant g s = judgeGroup g s := by simp [afterGrant, hfree, hw]

/-- Where the last lane and the last entry of a group go together, a turn orders the two that follow (log 6). -/
theorem afterGrant_both (hfree : s.freeLanes.read g = []) (hw : s.groupWanted g = false) :
    afterGrant g s =
      if s.turn then (judgeGroup g s.dropTurn).setWaiting g false
      else judgeGroup g (s.dropTurn.setWaiting g false) := by
  have hdrop : s.dropTurn.groupWanted g = false := hw
  have hjudged : (judgeGroup g s.dropTurn).groupWanted g = false := by
    rw [State.groupWanted, judgeGroup_requests]
    exact hw
  simp [afterGrant, hfree, hw, indicateNotWaiting_last hdrop, indicateNotWaiting_last hjudged]

end grant

/-- An event in the midst of a pass, where the arbiter has an entry to choose (R50). -/
theorem duringPass_chooses {event : State → State} {s : State} (h : s.passChooses = true) :
    duringPass event s =
      if s.turn then
        match passUntil (s.requests.length + 4) [] s.dropTurn with
        | (some (e, marked), t) => passFrom e marked (event t)
        | (none, t) => event t
      else event s.dropTurn := if_pos h

theorem passChooses_iff {s : State} : s.passChooses = true ↔ s.passStops = false ∧ s.choice [] ≠ none := by
  simp [State.passChooses, Option.isSome_iff_ne_none]

theorem passFrom_granted {s : State} {e : RequestEntry} {l : LaneNo} {rest : List LaneNo} (marked : List GroupNo)
    (h : s.freeLanes.read e.group = l :: rest) :
    passFrom e marked s = passLoop ((startBind e l rest s).requests.length + 4) marked (startBind e l rest s) := by
  simp only [passFrom, takeClaim_granted h]

theorem passFrom_refused {s : State} {e : RequestEntry} (marked : List GroupNo) (h : s.freeLanes.read e.group = []) :
    passFrom e marked s = passLoop (s.requests.length + 4) (e.group :: marked) s := by
  simp only [passFrom, takeClaim_refused h]

/-- Settles O31, by the rounds of `passLoop` and `passUntil`, and by what a granted claim brings about. -/
theorem arbiterPassRounds : Obligations.ArbiterPassRounds := by
  unfold Obligations.ArbiterPassRounds
  intro stops passed chosen
  have hstops (s : State) : stops s ↔ s.passStops = true := (passStops_iff s).symm
  have hgoes {s : State} (h : ¬ stops s) : s.passStops = false := by rwa [hstops, Bool.not_eq_true] at h
  have hnone (s : State) (marked : List GroupNo) : (∀ e ∈ s.requests, passed s marked e) ↔ s.choice marked = none :=
    choice_eq_none_iff.symm
  have hchosen {s : State} {marked : List GroupNo} {e : RequestEntry} {l : LaneNo} {rest : List LaneNo}
      (h : chosen s marked e) (hfree : s.freeLanes.read e.group = l :: rest) : s.choice marked = some e :=
    choice_eq_some_iff.2 ⟨⟨h.1, by simp [hfree]⟩, h.2⟩
  refine ⟨fun s hpin hcount => ?_, ?_, fun s => ?_, fun s n marked => ?_, fun s e marked => ?_, fun event s => ?_⟩
  · have run : exec .arbiterPass s = .next (pass s) := exec_arbiterPass hpin hcount
    refine ⟨run, fun h => ?_, fun e l rest hgo hch hfree => ⟨fun hw => ?_, fun hw => ⟨?_, fun hspacing => ?_⟩⟩⟩
    · rw [hstops, hnone] at h
      rw [run, pass_ended h]
    · rw [run, pass_removes (hgoes hgo) (hchosen hch hfree) hw,
        exec_arbiterPass_of_sansBinding (removeEntry_sansBinding s _) hpin hcount]
    · rw [run, pass_starts (hgoes hgo) (hchosen hch hfree) hfree hw,
        exec_arbiterPass_of_sansBinding (startBind_sansBinding s e l rest) hpin hcount]
    · rw [run, pass_starts (hgoes hgo) (hchosen hch hfree) hfree hw, pass_ended (.inl (passStops_startBind hspacing))]
  · intro s e l rest started last
    have hstarted : grantBind e l rest s = started := by
      simp only [started, ← withoutEntry_eq]
      rfl
    have hfree : started.freeLanes.read e.group = rest := Table.read_write_same _ _ _
    have hlast : last ↔ started.groupWanted e.group = false := groupWanted_eq_false_iff.symm
    have hmore : ¬ last ↔ started.groupWanted e.group = true := by rw [hlast, Bool.not_eq_false]
    rw [startBind, hstarted, hmore, hlast]
    refine ⟨fun hr hw => ?_, fun hr hw => ?_, fun hr hw => ?_, fun hr hw => ?_⟩
    · rw [afterGrant_lanesLeft (hfree.trans_ne hr), indicateNotWaiting_wanted hw]
    · rw [afterGrant_lanesLeft (hfree.trans_ne hr), indicateNotWaiting_last hw]
    · exact afterGrant_emptied (hfree.trans hr) hw
    · exact afterGrant_both (hfree.trans hr) hw
  · cases ht : s.turn with
    | true => exact callPass_later ht
    | false => exact callPass_now ht
  · refine ⟨fun h => ?_, fun e l rest hgo hch hfree => ⟨fun hw => ?_, fun hw => ?_⟩⟩
    · rw [hstops, hnone] at h
      exact ⟨passLoop_ended h n, passUntil_ended h n⟩
    · exact ⟨passLoop_removes (hgoes hgo) (hchosen hch hfree) hw n,
        passUntil_removes (hgoes hgo) (hchosen hch hfree) hw n⟩
    · exact ⟨passLoop_starts (hgoes hgo) (hchosen hch hfree) hfree hw n,
        passUntil_claims (hgoes hgo) (hchosen hch hfree) hfree hw n⟩
  · exact ⟨passFrom_refused marked, fun l rest => passFrom_granted marked⟩
  · refine ⟨fun h => ?_, fun hgo hsome => ?_⟩
    · rw [hstops, hnone] at h
      refine duringPass_idle (Bool.not_eq_true _ ▸ fun hch => ?_)
      obtain ⟨hgo, hsome⟩ := passChooses_iff.1 hch
      exact h.elim (fun hstop => by simp [hgo] at hstop) hsome
    · have hsome : s.choice [] ≠ none := fun hn => by
        obtain ⟨e, he, hnot⟩ := hsome
        exact hnot ((hnone s []).2 hn e he)
      exact duringPass_chooses (passChooses_iff.2 ⟨hgoes hgo, hsome⟩)

/-! ### LANE-CONTROL (R75, R77, R78) -/

section laneControl
variable {s : State} {l : LaneNo}

theorem startRelease_of_bound (h : (s.lane l).state = .bound) :
    startRelease l s = s.modLane l (LaneRec.begin .release .unbinding ((s.lane l).holder.getD 0)) :=
  (if_pos h).trans (Pacing.modLane_congr rfl)

theorem laneEnable_refused (h : (s.lane l).state ≠ .disabled) : laneEnable l s = (.wrongState, s) := if_neg h

theorem laneEnable_up (h : (s.lane l).state = .disabled) (hup : s.trunkUp = true) :
    laneEnable l s = (.done, s.modLane l LaneRec.beginRecovery) := (if_pos h).trans (if_pos hup)

theorem laneEnable_down (h : (s.lane l).state = .disabled) (hup : s.trunkUp = false) :
    laneEnable l s = (.done, s.modLane l fun r => { r with state := .down }) :=
  (if_pos h).trans (if_neg (by simp [hup]))

theorem laneRetire_refused (h : (s.lane l).state ≠ .bound) : laneRetire l s = (.wrongState, s) := if_neg h

theorem laneRetire_bound (h : (s.lane l).state = .bound) :
    laneRetire l s = (.done, s.modLane l (LaneRec.begin .release .unbinding ((s.lane l).holder.getD 0))) := by
  rw [laneRetire, if_pos h, startRelease_of_bound h]

theorem laneRecover_refused (h : (s.lane l).state ≠ .quarantined) : laneRecover l s = (.wrongState, s) := if_neg h

theorem laneRecover_quarantined (h : (s.lane l).state = .quarantined) :
    laneRecover l s = (.done, s.modLane l LaneRec.beginRecovery) := if_pos h

theorem laneDisable_disabled (h : (s.lane l).state = .disabled) : laneDisable l s = (.wrongState, s) := by
  simp only [laneDisable, h]

theorem laneDisable_idle (h : (s.lane l).state = .down ∨ (s.lane l).state = .quarantined) :
    laneDisable l s = (.done, s.modLane l fun r => { r with state := .disabled }) := by
  obtain h | h := h <;> simp only [laneDisable, h]

/-- In a handshake the disable waits for its end (R75, R76). -/
theorem laneDisable_inHandshake
    (h : (s.lane l).state = .binding ∨ (s.lane l).state = .unbinding ∨ (s.lane l).state = .recovering) :
    laneDisable l s = (.done, s.modLane l fun r => { r with disablePending := true }) := by
  obtain h | h | h := h <;> simp only [laneDisable, h]

theorem laneDisable_bound (h : (s.lane l).state = .bound) :
    laneDisable l s =
      (.done, s.modLane l fun r =>
        { r.begin .release .unbinding ((s.lane l).holder.getD 0) with disablePending := true }) := by
  simp only [laneDisable, h, startRelease_of_bound h, modLane_modLane]

theorem leaveFreeList_eq (l : LaneNo) (s : State) :
    leaveFreeList l s =
      let g := (s.lane l).group
      let rest := (s.freeLanes.read g).filter (· ≠ l)
      if rest = [] then judgeGroup g (s.setFree g rest) else s.setFree g rest := by
  have hrest : ((s.freeLanes.read (s.lane l).group).filter fun x => x != l) =
      (s.freeLanes.read (s.lane l).group).filter fun x => x ≠ l :=
    List.filter_congr fun x _ => by simp [bne, beq_eq_decide]
  simp only [leaveFreeList, hrest, List.isEmpty_iff]

theorem laneDisable_free (h : (s.lane l).state = .free) :
    laneDisable l s =
      let g := (s.lane l).group
      let rest := (s.freeLanes.read g).filter (· ≠ l)
      let v := (s.modLane l fun r => { r with state := .disabled }).setFree g rest
      (.done, if rest = [] then judgeGroup g v else v) := by
  simp only [laneDisable, h, leaveFreeList_eq, lane_modLane_same, modLane_freeLanes]

theorem disableLane_free (h : (s.lane l).state = .free) :
    disableLane l s = (.done, duringPass (fun u => (laneDisable l u).2) s) := if_pos h

theorem disableLane_other (h : (s.lane l).state ≠ .free) : disableLane l s = laneDisable l s := if_neg h

end laneControl

section bodies
variable {p : PortNo} {q : Request} {l : LaneNo} (ht : targetOf q = l.val)
include ht

theorem bodyLaneEnable_eq (hs : selectorOf q = 0) : bodyLaneEnable p q = answering (laneEnable l) := by
  simp [bodyLaneEnable, withLane, withTarget, withSelector, ht, hs]

theorem bodyLaneDisable_eq (hs : selectorOf q = 1) : bodyLaneDisable p q = answering (disableLane l) := by
  simp [bodyLaneDisable, withLane, withTarget, withSelector, ht, hs]

theorem bodyLaneRetire_eq (hs : selectorOf q = 2) : bodyLaneRetire p q = answering (laneRetire l) := by
  simp [bodyLaneRetire, withLane, withTarget, withSelector, ht, hs]

theorem bodyLaneRecover_eq (hs : selectorOf q = 3) : bodyLaneRecover p q = answering (laneRecover l) := by
  simp [bodyLaneRecover, withLane, withTarget, withSelector, ht, hs]

end bodies

/-- Settles O30: each row is one claim, answered by the lane's state. -/
theorem laneControlByState : Obligations.LaneControlByState := by
  intro s p q l hpin hcount hnext hturn hfull hcode ht t st started holder
  have hcmd : Command.ofCode q.code = some .laneControl := by rw [hcode]; rfl
  have answer {k : Nat} {body : Body} {claim : State → Status × State} {status : Status} {u : State}
      (hs : selectorOf q = k) (hbody : body p q = answering claim) (hclaim : claim t = (status, u)) :
      running (serve (isSelected .laneControl k 4) body) s = .next (respond p q (bare status) u) := by
    rw [Pacing.running_serve_answering hpin hcount hnext hturn (Pacing.isSelected_of_selectorOf hcmd hs)
      (hfull ▸ Pacing.privilegeFailure_full hcmd) hbody, hclaim]
  refine ⟨fun hs => ?enable, fun hs => ?disable, fun hs => ?retire, fun hs => ?recover⟩
  case enable =>
    have enable {status : Status} {u : State} (h : laneEnable l t = (status, u)) :
        exec .laneControlEnable s = .next (respond p q (bare status) u) := answer hs (bodyLaneEnable_eq ht hs) h
    exact ⟨fun h => enable (laneEnable_refused (s := t) h), fun h hup => enable (laneEnable_up (s := t) h hup),
      fun h hup => enable (laneEnable_down (s := t) h hup)⟩
  case disable =>
    have disable {status : Status} {u : State} (h : disableLane l t = (status, u)) :
        exec .laneControlDisable s = .next (respond p q (bare status) u) := answer hs (bodyLaneDisable_eq ht hs) h
    have other (h : st ≠ .free) {status : Status} {u : State} (hd : laneDisable l t = (status, u)) :
        exec .laneControlDisable s = .next (respond p q (bare status) u) :=
      disable ((disableLane_other (s := t) h).trans hd)
    refine ⟨fun h => ?_, fun h => ?_, fun h => ?_, fun h => ?_, fun h => ⟨?_, fun u => ⟨?_, fun hu => ?_⟩⟩⟩
    · exact other (by simp [h]) (laneDisable_disabled (s := t) h)
    · exact other (by obtain h | h := h <;> simp [h]) (laneDisable_idle (s := t) h)
    · exact other (by obtain h | h | h := h <;> simp [h]) (laneDisable_inHandshake (s := t) h)
    · exact other (by simp [h]) (laneDisable_bound (s := t) h)
    · exact disable (disableLane_free (s := t) h)
    · exact laneDisable_free
    · exact laneDisable_inHandshake (.inl hu)
  case retire =>
    have retire {status : Status} {u : State} (h : laneRetire l t = (status, u)) :
        exec .laneControlRetire s = .next (respond p q (bare status) u) := answer hs (bodyLaneRetire_eq ht hs) h
    exact ⟨fun h => retire (laneRetire_refused (s := t) h), fun h => retire (laneRetire_bound (s := t) h)⟩
  case recover =>
    have recover {status : Status} {u : State} (h : laneRecover l t = (status, u)) :
        exec .laneControlRecover s = .next (respond p q (bare status) u) := answer hs (bodyLaneRecover_eq ht hs) h
    exact ⟨fun h => recover (laneRecover_refused (s := t) h), fun h => recover (laneRecover_quarantined (s := t) h)⟩

end Sys2Proof.Proofs.Arbiter

/-! The lane controller's statements: the trunk's cells, the handshakes and their ends, and the agreement of lanes,
streams, free-lane lists and trunk link. -/

namespace Sys2Proof.Proofs.Lanes

open Sys2Proof Sys2Proof.Machine

/-! ### Agreement, lane by lane -/

/-- The trunk link allows the lane's state (R80). -/
def allows (up : Bool) (st : LaneState) : Prop := if up then st ≠ .down else st = .down ∨ st = .disabled

/-- A lane's record agrees in itself and with the trunk link (R57, R80). Only a lane that is `fresh`, just BOUND with
its judgement still to come (R65), may be BOUND with a disable pending. -/
def RecordAgrees (up : Bool) (fresh : Prop) (r : LaneRec) : Prop :=
  { r with disablePending := false }.consistent
    ∧ (r.disablePending = true → r.state.inHandshake = true ∨ (r.state = .bound ∧ fresh))
    ∧ allows up r.state

/-- One lane agrees with the streams and the free-lane lists (R58, R60): the stream it names as its holder is the one
that holds it, and it stands once in its group's list if it is FREE, and in no list else. -/
structure LaneAgrees (up aligned : Bool) (fresh : Prop) (s : State) (l : LaneNo) : Prop where
  record : RecordAgrees up fresh (s.lane l)
  aligned : (s.lane l).aligned = aligned
  holder : ∀ i, (s.lane l).holder = some i ↔ (s.stream i).heldLane = some l
  listed : ∀ g, (s.freeLanes.read g).count l = if (s.lane l).state = .free ∧ (s.lane l).group = g then 1 else 0

/-- The whole agreement: the trunk link is `up`, the receive sides are `aligned`, and every lane agrees. -/
structure LanesAgree (up : Bool) (aligned : LaneNo → Bool) (fresh : Option LaneNo) (s : State) : Prop where
  trunk : s.trunkUp = up
  lane : ∀ l, LaneAgrees up (aligned l) (fresh = some l) s l

/-- Agreement with no judgement outstanding, and the trunk link UP exactly while every lane is aligned (R162). -/
def LanesInv (s : State) : Prop :=
  ∃ up aligned, LanesAgree up aligned none s ∧ (up = true ↔ ∀ l, aligned l = true)

theorem consistent_iff (r : LaneRec) :
    r.consistent ↔
      { r with disablePending := false }.consistent ∧ (r.disablePending = true → r.state.inHandshake = true) := by
  unfold LaneRec.consistent
  simp only [Bool.false_eq_true, false_implies, true_and]
  tauto

/-- The invariants of the statement are the agreement of every lane. -/
theorem lanesInv_iff (s : State) : LaneInv s ∧ TrunkInv s ↔ LanesInv s := by
  constructor
  · rintro ⟨⟨hcons, hholder, hlist, hnodup⟩, hup, hdown⟩
    refine ⟨s.trunkUp, fun l => (s.lane l).aligned, ⟨rfl, fun l => ⟨?_, rfl, hholder l, fun g => ?_⟩⟩, ?_⟩
    · obtain ⟨hfields, hpending⟩ := (consistent_iff _).1 (hcons l)
      refine ⟨hfields, fun h => .inl (hpending h), ?_⟩
      cases ht : s.trunkUp with
      | true => exact (hup ht l).2
      | false => exact (hdown ht).2 l
    · rw [(hnodup g).count]
      simp only [hlist g l]
    · cases ht : s.trunkUp with
      | true => exact iff_of_true rfl fun l => (hup ht l).1
      | false =>
        obtain ⟨l, hl⟩ := (hdown ht).1
        exact iff_of_false (by simp) fun h => by simp [h l] at hl
  · rintro ⟨up, al, ⟨htrunk, hlane⟩, hal⟩
    refine ⟨⟨fun l => ?_, fun l => (hlane l).holder, fun g l => ?_, fun g => ?_⟩, fun h l => ?_,
      fun h => ⟨?_, fun l => ?_⟩⟩
    · obtain ⟨hfields, hpending, -⟩ := (hlane l).record
      exact (consistent_iff _).2 ⟨hfields, fun h => (hpending h).resolve_right fun hf => by simp at hf⟩
    · rw [← List.count_pos_iff, (hlane l).listed g]
      split <;> simp_all
    · rw [List.nodup_iff_count_le_one]
      intro l
      rw [(hlane l).listed g]
      split <;> simp
    · obtain rfl : up = true := htrunk.symm.trans h
      exact ⟨(hlane l).aligned.trans (hal.1 rfl l), (hlane l).record.2.2⟩
    · obtain rfl : up = false := htrunk.symm.trans h
      obtain ⟨l, hl⟩ := not_forall.1 fun hall => Bool.false_ne_true (hal.2 hall)
      exact ⟨l, (hlane l).aligned.trans (Bool.not_eq_true _ ▸ hl)⟩
    · obtain rfl : up = false := htrunk.symm.trans h
      exact (hlane l).record.2.2

/-! ### What the agreement looks at -/

/-- A lane's record without what its agreement leaves open: tag, counters, runs, notices and the cell last sent. -/
def bareRecord (r : LaneRec) : LaneRec :=
  { r with
    tag := 0
    bindsAccepted := 0
    bindsRefused := 0
    answerTimeouts := 0
    staleAnswers := 0
    failures := 0
    passes := 0
    notices := Table.const 4 none
    sent := none }

/-- What the agreement of the lanes looks at. -/
structure LaneView where
  trunkUp   : Bool
  lanes     : Table 16 LaneRec
  held      : Table 512 (Option LaneNo)
  freeLanes : Table 4 (List LaneNo)

def laneView (s : State) : LaneView :=
  ⟨s.trunkUp, s.lanes.mapAll bareRecord, s.streams.mapAll (·.heldLane), s.freeLanes⟩

section view
variable {s t : State}

theorem trunkUp_of_view (h : laneView t = laneView s) : t.trunkUp = s.trunkUp := congrArg LaneView.trunkUp h

theorem freeLanes_of_view (h : laneView t = laneView s) : t.freeLanes = s.freeLanes := congrArg LaneView.freeLanes h

theorem lane_of_view (h : laneView t = laneView s) (l : LaneNo) : bareRecord (t.lane l) = bareRecord (s.lane l) :=
  Table.read_eq_of_mapAll_eq (congrArg LaneView.lanes h) l

theorem heldLane_of_view (h : laneView t = laneView s) (i : StreamNo) :
    (t.stream i).heldLane = (s.stream i).heldLane :=
  Table.read_eq_of_mapAll_eq (congrArg LaneView.held h) i

/-- What agrees with what the lane shows agrees. -/
theorem LaneAgrees.of_eq {up al : Bool} {fresh : Prop} {l : LaneNo} (hs : LaneAgrees up al fresh s l)
    (hlane : bareRecord (t.lane l) = bareRecord (s.lane l))
    (hheld : ∀ i, (t.stream i).heldLane = some l ↔ (s.stream i).heldLane = some l)
    (hlist : ∀ g, (t.freeLanes.read g).count l = (s.freeLanes.read g).count l) : LaneAgrees up al fresh t l where
  record := by
    have h : RecordAgrees up fresh (bareRecord (t.lane l)) := hlane ▸ hs.record
    exact h
  aligned := (congrArg LaneRec.aligned hlane).trans hs.aligned
  holder i := by
    have h : (t.lane l).holder = (s.lane l).holder := (congrArg LaneRec.holder hlane :)
    rw [h, hheld i]
    exact hs.holder i
  listed g := by
    have hst : (t.lane l).state = (s.lane l).state := (congrArg LaneRec.state hlane :)
    have hg : (t.lane l).group = (s.lane l).group := (congrArg LaneRec.group hlane :)
    rw [hst, hg, hlist g]
    exact hs.listed g

theorem LaneAgrees.of_view {up al : Bool} {fresh : Prop} {l : LaneNo} (hs : LaneAgrees up al fresh s l)
    (hv : laneView t = laneView s) : LaneAgrees up al fresh t l :=
  hs.of_eq (lane_of_view hv l) (fun i => by rw [heldLane_of_view hv]) fun g => by rw [freeLanes_of_view hv]

end view

section view
variable (s : State)

@[simp] theorem laneView_modStream (i : StreamNo) {f : StreamRec → StreamRec} (h : ∀ r, (f r).heldLane = r.heldLane) :
    laneView (s.modStream i f) = laneView s := by
  simp only [laneView, State.modStream, State.setStream, State.stream, Table.mapAll_write_of_eq (h _)]

/-- A change of every stream that leaves the held lanes. -/
theorem laneView_mapStreams {f : StreamRec → StreamRec} (h : ∀ r, (f r).heldLane = r.heldLane) :
    laneView { s with streams := s.streams.mapAll f } = laneView s := by
  simp only [laneView, Table.mapAll_mapAll_of_eq h]

/-- A change of one lane's record where the agreement does not look. -/
@[simp] theorem laneView_modLane (l : LaneNo) {f : LaneRec → LaneRec} (h : ∀ r, bareRecord (f r) = bareRecord r) :
    laneView (s.modLane l f) = laneView s := by
  simp only [laneView, State.modLane, State.setLane, State.lane, Table.mapAll_write_of_eq (h _)]

@[simp] theorem laneView_sansNotices : laneView s.sansNotices = laneView s := by
  simp only [laneView, State.sansNotices, Table.mapAll_mapAll]
  rfl

@[simp] theorem laneView_raise (pt : CausePoint) : laneView (raise pt s) = laneView s := by
  rw [← laneView_sansNotices, raise_sansNotices, laneView_sansNotices]

@[simp] theorem laneView_removeNotice (pt : CausePoint) : laneView (removeNotice pt s) = laneView s := by
  rw [← laneView_sansNotices, removeNotice_sansNotices, laneView_sansNotices]

@[simp] theorem laneView_removeEntry (i : StreamNo) : laneView (removeEntry i s) = laneView s := by
  obtain ⟨-, heq⟩ | ⟨e, -, -, heq⟩ := Arbiter.removeEntry_cases i s
  · rw [heq]
  · rw [heq, Arbiter.indicateNotWaiting_eq]
    rfl

@[simp] theorem laneView_modRecord (f : CommitRecord → CommitRecord) : laneView (modRecord f s) = laneView s := rfl

@[simp] theorem laneView_takeCommitAnswer : laneView (takeCommitAnswer s) = laneView s := by
  unfold takeCommitAnswer
  split
  · dsimp only
    split <;> rfl
  · rfl

@[simp] theorem laneView_closeRecord (c : CommitRecord) (status : Status) (result : List Byte) :
    laneView (closeRecord c status result s) = laneView s := laneView_takeCommitAnswer _

@[simp] theorem laneView_judgeCompletion : laneView (judgeCompletion s) = laneView s := by
  unfold judgeCompletion
  split
  · split
    · exact laneView_closeRecord s _ _ _
    · rfl
  · rfl

@[simp] theorem laneView_applyDevice (d : DeviceParams) : laneView (applyDevice d s) = laneView s := rfl

@[simp] theorem laneView_applyRecord (i : StreamNo) (img : StreamImage) :
    laneView (applyRecord i img s) = laneView s := by
  exact (laneView_removeEntry _ i).trans (laneView_modStream s i fun _ => rfl)

@[simp] theorem laneView_commitLoss (i : StreamNo) : laneView (commitLoss i s) = laneView s := by
  unfold commitLoss
  dsimp only
  split
  · rw [laneView_judgeCompletion, laneView_applyRecord, laneView_modRecord]
  · rfl

@[simp] theorem laneView_respond (p : PortNo) (q : Request) (a : Reply) : laneView (respond p q a s) = laneView s := by
  unfold respond
  dsimp only
  split
  · split <;> rfl
  · rfl

@[simp] theorem laneView_refuseRequest (p : PortNo) (q : Request) (status : Status) :
    laneView (refuseRequest p q status s) = laneView s := by
  unfold refuseRequest
  split <;> simp

@[simp] theorem laneView_ackNotice (n : NoticeTarget) (mask : Nat) : laneView (ackNotice n mask s).2 = laneView s := by
  unfold ackNotice
  split
  · exact foldl_keeps s laneView_removeNotice _
  · rfl

end view

/-! ### What the agreement says of a record, by the lane's state -/

section record
variable {up : Bool} {fresh : Prop} {r : LaneRec}

/-- Nothing is under way on a lane but that a disable may be pending (R57). -/
def QuietRecord (r : LaneRec) : Prop :=
  r.holder = none ∧ r.outstanding = none ∧ r.answerDeadline = none ∧ r.holdDeadline = none ∧ r.paused = false
    ∧ r.waitingCell = none ∧ r.launching = none

/-- The record of a lane in a handshake (R57, R61). -/
structure HandshakeRecord (r : LaneRec) : Prop where
  holder         : r.holder.isSome = r.state.hasHolder
  outstanding    : r.outstanding = r.state.awaits
  holdDeadline   : r.holdDeadline = none
  paused         : r.paused = false
  launching      : r.launching = none

/-- The record of a BOUND lane (R57, R89). -/
structure BoundRecord (fresh : Prop) (r : LaneRec) : Prop where
  holder         : r.holder.isSome = true
  outstanding    : r.outstanding = none
  answerDeadline : r.answerDeadline = none
  disablePending : r.disablePending = true → fresh
  waitingCell    : r.waitingCell = none
  launching      : ∀ i, r.launching = some i → r.holder = some i

theorem allows_up {st : LaneState} (h : st ≠ .down) : allows true st := h

theorem up_of_allows {st : LaneState} (h : allows up st) (hd : st ≠ .down) (hx : st ≠ .disabled) : up = true := by
  cases up with
  | true => rfl
  | false => exact (h.elim hd hx).elim

theorem ne_bound_of_inHandshake {st : LaneState} (h : st.inHandshake = true) : st ≠ .bound := by
  rintro rfl
  exact Bool.false_ne_true h

theorem awaits_isSome {st : LaneState} (h : st.inHandshake = true) : st.awaits.isSome = true := by
  cases st <;> simp_all [LaneState.inHandshake, LaneState.awaits]

theorem inHandshake_of_awaits {st : LaneState} {kind : Handshake} (h : st.awaits = some kind) :
    st.inHandshake = true := by cases st <;> simp_all [LaneState.inHandshake, LaneState.awaits]

theorem recordAgrees_handshake (hs : r.state.inHandshake = true) :
    RecordAgrees up fresh r ↔ up = true ∧ HandshakeRecord r := by
  have hb : r.state ≠ .bound := ne_bound_of_inHandshake hs
  have hawaits := awaits_isSome hs
  constructor
  · rintro ⟨⟨hout, hholder, hpaused, hhold, -, -, -, hlaunch⟩, -, htrunk⟩
    refine ⟨up_of_allows htrunk ?_ ?_, hholder, hout, ?_, ?_, ?_⟩
    · intro h; simp [h, LaneState.inHandshake] at hs
    · intro h; simp [h, LaneState.inHandshake] at hs
    · exact Option.not_isSome_iff_eq_none.1 fun h => hb (hhold h)
    · exact Bool.not_eq_true _ ▸ fun h => hb (hpaused h)
    · exact Option.eq_none_iff_forall_ne_some.2 fun i hi => hb (hlaunch i hi).1
  · rintro ⟨rfl, hholder, hout, hhold, hpaused, hlaunch⟩
    refine ⟨⟨hout, hholder, ?_, ?_, nofun, ?_, ?_, ?_⟩, fun _ => .inl hs, ?_⟩
    · simp [hpaused]
    · simp [hhold]
    · intro _; simpa only [hout] using hawaits
    · intro _; simpa only [hout] using hawaits
    · simp [hlaunch]
    · intro h; simp [h, LaneState.inHandshake] at hs

theorem recordAgrees_bound (hs : r.state = .bound) : RecordAgrees up fresh r ↔ up = true ∧ BoundRecord fresh r := by
  constructor
  · rintro ⟨⟨hout, hholder, -, -, -, hanswer, hcell, hlaunch⟩, hpending, htrunk⟩
    simp only [hs, LaneState.awaits, LaneState.hasHolder, LaneState.inHandshake] at *
    refine ⟨up_of_allows htrunk nofun nofun, hholder, hout, ?_, fun h => by simpa using hpending h, ?_,
      fun i hi => (hlaunch i hi).2⟩
    · simpa [hout] using hanswer
    · simpa [hout] using hcell
  · rintro ⟨rfl, hholder, hout, hanswer, hpending, hcell, hlaunch⟩
    simp only [RecordAgrees, LaneRec.consistent, hs]
    refine ⟨⟨hout, hholder, fun _ => trivial, fun _ => trivial, nofun, ?_, ?_,
      fun i hi => ⟨trivial, hlaunch i hi⟩⟩, fun h => .inr ⟨trivial, hpending h⟩, nofun⟩
    · simp [hanswer]
    · simp [hcell]

theorem recordAgrees_idle (hh : r.state.inHandshake = false) (hb : r.state ≠ .bound) :
    RecordAgrees up fresh r ↔ allows up r.state ∧ r.disablePending = false ∧ QuietRecord r := by
  have hawaits : r.state.awaits = none := by
    cases h : r.state <;> simp_all [LaneState.inHandshake, LaneState.awaits]
  have hnone : r.state.hasHolder = false := by
    cases h : r.state <;> simp_all [LaneState.inHandshake, LaneState.hasHolder]
  constructor
  · rintro ⟨⟨hout, hholder, hpaused, hhold, -, hanswer, hcell, hlaunch⟩, hpending, htrunk⟩
    simp only [hawaits, hnone, Option.isSome_eq_false_iff, Option.isNone_iff_eq_none] at hout hholder
    refine ⟨htrunk, ?_, hholder, hout, ?_, ?_, ?_, ?_, ?_⟩
    · refine Bool.not_eq_true _ ▸ fun h => ?_
      obtain h | ⟨h, -⟩ := hpending h
      · simp [hh] at h
      · exact hb h
    · simpa [hout] using hanswer
    · exact Option.not_isSome_iff_eq_none.1 fun h => hb (hhold h)
    · exact Bool.not_eq_true _ ▸ fun h => hb (hpaused h)
    · simpa [hout] using hcell
    · exact Option.eq_none_iff_forall_ne_some.2 fun i hi => hb (hlaunch i hi).1
  · rintro ⟨htrunk, hpending, hholder, hout, hanswer, hhold, hpaused, hcell, hlaunch⟩
    refine ⟨⟨hout.trans hawaits.symm, ?_, ?_, ?_, nofun, ?_, ?_, ?_⟩, ?_, htrunk⟩ <;> simp [*]

end record

/-! ### Changes of one lane -/

theorem RecordAgrees.mono {up : Bool} {fresh fresh' : Prop} {r : LaneRec} (h : RecordAgrees up fresh r)
    (hf : fresh → fresh') : RecordAgrees up fresh' r := ⟨h.1, fun hp => (h.2.1 hp).imp_right (.imp_right hf), h.2.2⟩

/-- A lane that is not FREE stands in no list. -/
theorem LaneAgrees.unlisted {up al : Bool} {fresh : Prop} {s : State} {l : LaneNo} (h : LaneAgrees up al fresh s l)
    (hf : (s.lane l).state ≠ .free) (g : GroupNo) : (s.freeLanes.read g).count l = 0 := by
  rw [h.listed g, if_neg fun hg => hf hg.1]

/-- The lanes but one agree, and that one is in nobody's hands: no stream holds it, and no list has it. -/
structure OthersAgree (up : Bool) (aligned : LaneNo → Bool) (fresh : Option LaneNo) (l : LaneNo) (s : State) :
    Prop where
  trunk : s.trunkUp = up
  lane : ∀ k, l ≠ k → LaneAgrees up (aligned k) (fresh = some k) s k
  aligned : (s.lane l).aligned = aligned l
  unheld : ∀ i, (s.stream i).heldLane ≠ some l
  unlisted : ∀ g, (s.freeLanes.read g).count l = 0

section change
variable {up : Bool} {al : LaneNo → Bool} {fresh : Option LaneNo} {s t : State} {l : LaneNo}

theorem LanesAgree.of_view (hs : LanesAgree up al fresh s) (hv : laneView t = laneView s) : LanesAgree up al fresh t :=
  ⟨(trunkUp_of_view hv).trans hs.trunk, fun l => (hs.lane l).of_view hv⟩

/-- A change confined to one lane keeps the agreement of all if it leaves that lane in agreement. -/
theorem LanesAgree.confined (hs : LanesAgree up al fresh s) (l : LaneNo) (hup : t.trunkUp = s.trunkUp)
    (hlane : ∀ k, l ≠ k → t.lane k = s.lane k)
    (hheld : ∀ k, l ≠ k → ∀ i, (t.stream i).heldLane = some k ↔ (s.stream i).heldLane = some k)
    (hlist : ∀ k, l ≠ k → ∀ g, (t.freeLanes.read g).count k = (s.freeLanes.read g).count k)
    (hl : LaneAgrees up (al l) (fresh = some l) t l) : LanesAgree up al fresh t where
  trunk := hup.trans hs.trunk
  lane k := by
    by_cases hk : l = k
    · exact hk ▸ hl
    · exact (hs.lane k).of_eq (congrArg bareRecord (hlane k hk)) (hheld k hk) (hlist k hk)

/-- A change of one lane's record that keeps its holder and its place in the lists. -/
theorem LanesAgree.keeps_modLane (hs : LanesAgree up al fresh s) (l : LaneNo) {f : LaneRec → LaneRec}
    (hrecord : RecordAgrees up (fresh = some l) (f (s.lane l)))
    (hkeeps : (f (s.lane l)).aligned = (s.lane l).aligned ∧ (f (s.lane l)).holder = (s.lane l).holder
      ∧ (f (s.lane l)).group = (s.lane l).group)
    (hfree : (f (s.lane l)).state = .free ↔ (s.lane l).state = .free) : LanesAgree up al fresh (s.modLane l f) := by
  obtain ⟨haligned, hholder, hgroup⟩ := hkeeps
  refine hs.confined l rfl (fun k hk => lane_modLane_ne s hk f) (fun _ _ _ => .rfl) (fun _ _ _ => rfl) ⟨?_, ?_, ?_, ?_⟩
  · rwa [lane_modLane_same]
  · rw [lane_modLane_same, haligned]
    exact (hs.lane l).aligned
  · rw [lane_modLane_same, hholder]
    exact (hs.lane l).holder
  · simp only [lane_modLane_same, hgroup, hfree]
    exact (hs.lane l).listed

theorem LanesAgree.bound (hs : LanesAgree up al fresh s) (hb : (s.lane l).state = .bound) :
    up = true ∧ BoundRecord (fresh = some l) (s.lane l) := (recordAgrees_bound hb).1 (hs.lane l).record

theorem LanesAgree.inHandshake (hs : LanesAgree up al fresh s) (hh : (s.lane l).state.inHandshake = true) :
    up = true ∧ HandshakeRecord (s.lane l) := (recordAgrees_handshake hh).1 (hs.lane l).record

theorem LanesAgree.idle (hs : LanesAgree up al fresh s) (hh : (s.lane l).state.inHandshake = false)
    (hb : (s.lane l).state ≠ .bound) :
    allows up (s.lane l).state ∧ (s.lane l).disablePending = false ∧ QuietRecord (s.lane l) :=
  (recordAgrees_idle hh hb).1 (hs.lane l).record

theorem LanesAgree.isFree (hs : LanesAgree up al fresh s) (hf : (s.lane l).state = .free) :
    up = true ∧ (s.lane l).disablePending = false ∧ QuietRecord (s.lane l) := by
  obtain ⟨hup, hidle⟩ := hs.idle (l := l) (by rw [hf]; rfl) (by simp [hf])
  exact ⟨up_of_allows hup (by simp [hf]) (by simp [hf]), hidle⟩

/-- A lane without a holder is held by no stream. -/
theorem LanesAgree.unheld (hs : LanesAgree up al fresh s) (hn : (s.lane l).holder = none) (i : StreamNo) :
    (s.stream i).heldLane ≠ some l := fun h => by
  have := ((hs.lane l).holder i).2 h
  simp [hn] at this

/-! #### What closes an agreement of the others -/

/-- The lane gets a record that agrees, of no holder, and not FREE. -/
theorem OthersAgree.close (hs : OthersAgree up al fresh l s) (hrecord : RecordAgrees up (fresh = some l) (s.lane l))
    (hholder : (s.lane l).holder = none) (hfree : (s.lane l).state ≠ .free) : LanesAgree up al fresh s where
  trunk := hs.trunk
  lane k := by
    by_cases hk : l = k
    · subst hk
      refine ⟨hrecord, hs.aligned, fun i => ?_, fun g => ?_⟩
      · simp [hholder, hs.unheld i]
      · simp [hfree, hs.unlisted g]
    · exact hs.lane k hk

/-- A change of the lane's own record, its receive side apart, leaves the others in agreement. -/
theorem OthersAgree.keeps_modLane (hs : OthersAgree up al fresh l s) {f : LaneRec → LaneRec}
    (haligned : (f (s.lane l)).aligned = (s.lane l).aligned) : OthersAgree up al fresh l (s.modLane l f) where
  trunk := hs.trunk
  lane k hk := (hs.lane k hk).of_eq (congrArg bareRecord (lane_modLane_ne s hk f)) (fun _ => .rfl) fun _ => rfl
  aligned := by rw [lane_modLane_same, haligned]; exact hs.aligned
  unheld := hs.unheld
  unlisted := hs.unlisted

theorem lane_joinFreeList (s : State) (l k : LaneNo) :
    (joinFreeList l s).lane k =
      if l = k then { s.lane l with state := .free, group := s.params.groupMap.read l } else s.lane k :=
  lane_modLane s l k fun r => { r with state := .free, group := s.params.groupMap.read l }

/-- The lane becomes FREE, at the tail of its group's list (R59, R60). -/
theorem OthersAgree.agree_joinFreeList (hs : OthersAgree true al fresh l s) (hquiet : QuietRecord (s.lane l))
    (hp : (s.lane l).disablePending = false) : LanesAgree true al fresh (joinFreeList l s) where
  trunk := hs.trunk
  lane k := by
    have hcount (g : GroupNo) : ((joinFreeList l s).freeLanes.read g).count k =
        (s.freeLanes.read g).count k + if l = k ∧ s.params.groupMap.read l = g then 1 else 0 := by
      simp only [joinFreeList, setFree_freeLanes, Table.read_write]
      split
      · next h => simp [h, List.count_singleton]
      · next h => simp [h]
    by_cases hk : l = k
    · subst hk
      have hlane := (lane_joinFreeList s l l).trans (if_pos rfl)
      refine ⟨?_, ?_, fun i => ?_, fun g => ?_⟩
      · rw [hlane]
        exact (recordAgrees_idle rfl (by simp)).2 ⟨allows_up (by simp), hp, hquiet⟩
      · rw [hlane]
        exact hs.aligned
      · rw [hlane]
        exact iff_of_false (by simp [hquiet.1]) (hs.unheld i)
      · simp [hcount, hlane, hs.unlisted g]
    · have hlane := (lane_joinFreeList s l k).trans (if_neg hk)
      exact (hs.lane k hk).of_eq (congrArg bareRecord hlane) (fun _ => .rfl) fun g => by simp [hcount, hk]

/-- A lane that nothing is under way on becomes DISABLED with a disable pending, else FREE in its list (R76). -/
theorem OthersAgree.agree_freeOrDisable (hs : OthersAgree true al fresh l s) (hquiet : QuietRecord (s.lane l)) :
    LanesAgree true al fresh (freeOrDisable l s) := by
  unfold freeOrDisable
  split
  · refine (hs.keeps_modLane rfl).close ?_ ?_ ?_ <;> rw [lane_modLane_same]
    · exact (recordAgrees_idle rfl (by simp)).2 ⟨allows_up (by simp), rfl, hquiet⟩
    · exact hquiet.1
    · simp
  · next hp => exact hs.agree_joinFreeList hquiet (Bool.not_eq_true _ ▸ hp)

end change

section loosen
variable {up : Bool} {al : LaneNo → Bool} {fresh : Option LaneNo} {s : State} {l : LaneNo}

/-- A lane that is not FREE and has no holder is in nobody's hands. -/
theorem LanesAgree.others_of_unheld (hs : LanesAgree up al fresh s) (hn : (s.lane l).holder = none)
    (hf : (s.lane l).state ≠ .free) : OthersAgree up al fresh l s :=
  ⟨hs.trunk, fun k _ => hs.lane k, (hs.lane l).aligned, hs.unheld hn, (hs.lane l).unlisted hf⟩

/-- A lane that loses its holder is in nobody's hands (R62). -/
theorem LanesAgree.others_clearHolder (hs : LanesAgree up al fresh s) {i : StreamNo} (hi : (s.lane l).holder = some i)
    {f : LaneRec → LaneRec} (hf : (f (s.lane l)).aligned = (s.lane l).aligned) :
    OthersAgree up al fresh l (clearHolder l i (s.modLane l f)) := by
  have hheld : (s.stream i).heldLane = some l := ((hs.lane l).holder i).1 hi
  have hstate : (s.lane l).state ≠ .free := fun h => by
    obtain ⟨-, -, hn, -⟩ := hs.isFree h
    simp [hi] at hn
  have hstream (j : StreamNo) : ((clearHolder l i (s.modLane l f)).stream j).heldLane =
      if i = j then none else (s.stream j).heldLane := by
    rw [clearHolder, stream_modStream]
    split <;> rfl
  refine ⟨hs.trunk, fun k hk => (hs.lane k).of_eq ?_ (fun j => ?_) fun _ => rfl, ?_, fun j hj => ?_,
    (hs.lane l).unlisted hstate⟩
  · rw [clearHolder, modStream_lane, modLane_modLane, lane_modLane_ne _ hk]
  · rw [hstream]
    split
    · next h =>
      subst h
      simp [hheld, hk]
    · rfl
  · rw [clearHolder, modStream_lane, modLane_modLane, lane_modLane_same]
    exact hf.trans (hs.lane l).aligned
  · rw [hstream] at hj
    split at hj
    · contradiction
    · next h => exact h (Option.some.inj ((((hs.lane l).holder j).2 hj).symm.trans hi)).symm

end loosen

/-! ### The arbiter and the lane judgements -/

section arbiter
variable {up : Bool} {al : LaneNo → Bool} {fresh : Option LaneNo} {s : State}

theorem LanesAgree.keeps_startRelease (hs : LanesAgree up al fresh s) (l : LaneNo) :
    LanesAgree up al fresh (startRelease l s) := by
  unfold startRelease
  split
  · next hb =>
    obtain ⟨hup, hbound⟩ := hs.bound hb
    exact hs.keeps_modLane l ((recordAgrees_handshake rfl).2 ⟨hup, hbound.holder, rfl, rfl, rfl, rfl⟩) ⟨rfl, rfl, rfl⟩
      (by simp [LaneRec.begin, hb])
  · exact hs

/-- A BOUND lane's hold deadline is set or cleared (R93). -/
theorem LanesAgree.keeps_holdDeadline (hs : LanesAgree up al fresh s) {l : LaneNo} (hb : (s.lane l).state = .bound)
    (d : Option PaceCount) : LanesAgree up al fresh (s.modLane l fun r => { r with holdDeadline := d }) := by
  obtain ⟨hup, hholder, hout, hanswer, hpending, hcell, hlaunch⟩ := hs.bound hb
  exact hs.keeps_modLane l
    ((recordAgrees_bound (by exact hb)).2 ⟨hup, hholder, hout, hanswer, hpending, hcell, hlaunch⟩) ⟨rfl, rfl, rfl⟩ .rfl

theorem LanesAgree.keeps_holdGrace (hs : LanesAgree up al fresh s) {l : LaneNo} (hb : (s.lane l).state = .bound)
    (h : StreamRec) : LanesAgree up al fresh (holdGrace l h s) := by
  unfold holdGrace
  dsimp only
  split
  · exact hs.keeps_startRelease l
  · split
    · exact hs.keeps_startRelease l
    · split
      · exact hs.keeps_holdDeadline hb _
      · exact hs

theorem LanesAgree.keeps_judgeLane (hs : LanesAgree up al fresh s) (l : LaneNo) :
    LanesAgree up al fresh (judgeLane l s) := by
  unfold judgeLane
  dsimp only
  split
  · next hb _ =>
    split
    · exact hs.keeps_startRelease l
    · split
      · exact hs.keeps_holdDeadline hb none
      · exact hs.keeps_holdGrace hb _
  · exact hs

theorem LanesAgree.keeps_judgeHeld (hs : LanesAgree up al fresh s) (i : StreamNo) :
    LanesAgree up al fresh (judgeHeld i s) := by
  unfold judgeHeld
  split
  · exact hs.keeps_judgeLane _
  · exact hs

/-- What each operation of a fold keeps, the fold keeps. -/
theorem LanesAgree.keeps_foldl {α : Type} {f : State → α → State} (hs : LanesAgree up al fresh s)
    (hf : ∀ t a, LanesAgree up al fresh t → LanesAgree up al fresh (f t a)) (as : List α) :
    LanesAgree up al fresh (as.foldl f s) := Arbiter.ClaimInvariant.keeps_foldl hf as hs

theorem LanesAgree.keeps_judgeGroup (hs : LanesAgree up al fresh s) (g : GroupNo) :
    LanesAgree up al fresh (judgeGroup g s) := hs.keeps_foldl (fun _ l ht => ht.keeps_judgeLane l) _

theorem LanesAgree.keeps_removeEntry (hs : LanesAgree up al fresh s) (i : StreamNo) :
    LanesAgree up al fresh (removeEntry i s) := hs.of_view (laneView_removeEntry s i)

theorem LanesAgree.keeps_joinList (hs : LanesAgree up al fresh s) (e : RequestEntry) :
    LanesAgree up al fresh (joinList e s) := by
  unfold joinList
  dsimp only
  split
  · refine LanesAgree.keeps_judgeGroup ?_ _
    exact hs.of_view rfl
  · exact hs.of_view rfl

/-- A granted claim takes the head lane, FREE until then, for a stream that holds none (R50, R58). -/
theorem LanesAgree.keeps_grantBind (hs : LanesAgree up al fresh s) {e : RequestEntry} {l : LaneNo} {rest : List LaneNo}
    (hfree : s.freeLanes.read e.group = l :: rest) (hheld : (s.stream e.stream).heldLane = none) :
    LanesAgree up al fresh (grantBind e l rest s) := by
  have hlisted := (hs.lane l).listed e.group
  have hstands : (s.lane l).state = .free ∧ (s.lane l).group = e.group := by
    by_contra hn
    simp [hfree, hn] at hlisted
  have hrest : rest.count l = 0 := by simpa [hfree, hstands] using hlisted
  obtain ⟨hup, -, hnone, -⟩ := hs.isFree hstands.1
  have hlane (k : LaneNo) : (grantBind e l rest s).lane k =
      if l = k then { (s.lane l).begin .bind .binding e.stream with holder := some e.stream } else s.lane k :=
    lane_modLane (s.setFree e.group rest) l k fun r => { r.begin .bind .binding e.stream with holder := some e.stream }
  have hstream (j : StreamNo) : ((grantBind e l rest s).stream j).heldLane =
      if e.stream = j then some l else (s.stream j).heldLane := by
    refine (congrArg StreamRec.heldLane (stream_modStream _ e.stream j fun r =>
      { r with heldLane := some l, keptTime := some e.time }) :).trans ?_
    split <;> rfl
  have hlist (g : GroupNo) : (grantBind e l rest s).freeLanes.read g =
      if e.group = g then rest else s.freeLanes.read g := Table.read_write _ _ _ _
  refine hs.confined l rfl (fun k hk => by rw [hlane, if_neg hk]) (fun k hk j => ?_) (fun k hk g => ?_)
    ⟨?_, ?_, fun j => ?_, fun g => ?_⟩
  · rw [hstream]
    split
    · next h => simp [← h, hheld, hk]
    · rfl
  · rw [hlist]
    split
    · next h => rw [← h, hfree, List.count_cons_of_ne hk]
    · rfl
  · rw [hlane, if_pos rfl]
    exact (recordAgrees_handshake rfl).2 ⟨hup, rfl, rfl, rfl, rfl, rfl⟩
  · rw [hlane, if_pos rfl]
    exact (hs.lane l).aligned
  · rw [hlane, if_pos rfl, hstream]
    split
    · next h => simp [h]
    · next h => simp [h, hs.unheld hnone j]
  · simp only [hlane, hlist, LaneRec.begin, if_true, reduceCtorEq, false_and, if_false]
    split
    · exact hrest
    · next h => rw [(hs.lane l).listed g, if_neg fun hg => h (hstands.2.symm.trans hg.2)]

theorem LanesAgree.keeps_indicateNotWaiting (hs : LanesAgree up al fresh s) (g : GroupNo) :
    LanesAgree up al fresh (indicateNotWaiting g s) := by
  rw [Arbiter.indicateNotWaiting_eq]
  exact hs.of_view rfl

theorem LanesAgree.keeps_dropTurn (hs : LanesAgree up al fresh s) : LanesAgree up al fresh s.dropTurn := hs.of_view rfl

theorem LanesAgree.keeps_afterGrant (hs : LanesAgree up al fresh s) (g : GroupNo) :
    LanesAgree up al fresh (afterGrant g s) := by
  unfold afterGrant
  dsimp only [takeTurn_eq]
  split
  · split
    · exact hs.keeps_judgeGroup g
    · split
      · exact (hs.keeps_dropTurn.keeps_judgeGroup g).keeps_indicateNotWaiting g
      · exact (hs.keeps_dropTurn.keeps_indicateNotWaiting g).keeps_judgeGroup g
  · exact hs.keeps_indicateNotWaiting g

/-- A claim for a stream that holds no lane, or one that finds no lane at all (R50). -/
theorem LanesAgree.keeps_takeClaim (hs : LanesAgree up al fresh s) {e : RequestEntry} (marked : List GroupNo)
    (hclaim : s.freeLanes.read e.group = [] ∨ (s.stream e.stream).heldLane = none) :
    LanesAgree up al fresh (takeClaim e marked s).2 := by
  cases hf : s.freeLanes.read e.group with
  | nil => rwa [takeClaim_refused hf]
  | cons l rest =>
    rw [takeClaim_granted hf]
    exact (hs.keeps_grantBind hf (hclaim.resolve_left (by simp [hf]))).keeps_afterGrant _

/-- A stream that wants a lane holds none (R33). -/
theorem heldLane_of_wantsLane {now : PaceCount} {r : StreamRec} (h : r.wantsLane now = true) : r.heldLane = none :=
  ((Pacing.wantsLane_iff now r).1 h).2.1

theorem LanesAgree.keeps_passLoop (hs : LanesAgree up al fresh s) (n : Nat) (marked : List GroupNo) :
    LanesAgree up al fresh (passLoop n marked s) := by
  induction n generalizing s marked with
  | zero => exact hs
  | succ n ih =>
    unfold passLoop
    split
    · exact hs
    · split
      · exact hs
      · split
        · exact ih (hs.keeps_removeEntry _) _
        · next hw => exact ih (hs.keeps_takeClaim _ (.inr (heldLane_of_wantsLane (by simpa using hw)))) _

theorem LanesAgree.keeps_pass (hs : LanesAgree up al fresh s) : LanesAgree up al fresh (pass s) :=
  hs.keeps_passLoop _ _

theorem LanesAgree.keeps_callPass (hs : LanesAgree up al fresh s) : LanesAgree up al fresh (callPass s) := by
  cases ht : s.turn with
  | true => rw [callPass_later ht]; exact hs.keeps_dropTurn
  | false => rw [callPass_now ht]; exact hs.keeps_dropTurn.keeps_pass

/-- The claim that an event comes before is for a stream that holds no lane. -/
theorem passUntil_heldLane {n : Nat} {marked marked' : List GroupNo} {t : State} {e : RequestEntry}
    (h : passUntil n marked s = (some (e, marked'), t)) : (t.stream e.stream).heldLane = none := by
  induction n generalizing s marked with
  | zero => simp [passUntil] at h
  | succ n ih =>
    unfold passUntil at h
    split at h
    · simp at h
    · split at h
      · simp at h
      · split at h
        · exact ih h
        · next hw =>
          dsimp only [takeTurn_eq] at h
          split at h
          · simp only [Prod.mk.injEq, Option.some.injEq] at h
            obtain ⟨⟨rfl, -⟩, rfl⟩ := h
            exact heldLane_of_wantsLane (by simpa using hw)
          · exact ih h

theorem LanesAgree.keeps_passUntil (hs : LanesAgree up al fresh s) (n : Nat) (marked : List GroupNo) :
    LanesAgree up al fresh (passUntil n marked s).2 := by
  induction n generalizing s marked with
  | zero => exact hs
  | succ n ih =>
    unfold passUntil
    split
    · exact hs
    · split
      · exact hs
      · split
        · exact ih (hs.keeps_removeEntry _) _
        · next hw =>
          dsimp only [takeTurn_eq]
          split
          · exact hs.keeps_dropTurn
          · exact ih (hs.keeps_dropTurn.keeps_takeClaim _ (.inr (heldLane_of_wantsLane (by simpa using hw)))) _

/-- The event leaves no lane to be granted, or the held lane of the stream that a claim is sent for (R50). -/
def SparesHolders (event : State → State) : Prop :=
  ∀ s : State, Arbiter.NoFreeLane (event s) ∨ (event s).streams = s.streams

/-- An event in the midst of a pass, which may take the trunk link down. -/
theorem LanesAgree.keeps_duringPass {up' : Bool} {event : State → State} (hs : LanesAgree up al fresh s)
    (hevent : ∀ t, LanesAgree up al fresh t → LanesAgree up' al fresh (event t)) (hspares : SparesHolders event) :
    LanesAgree up' al fresh (duringPass event s) := by
  have hu := hs.keeps_dropTurn.keeps_passUntil (s.dropTurn.requests.length + 4) []
  unfold duringPass
  dsimp only [takeTurn_eq]
  split
  · split
    · split
      · next e marked t hp =>
        rw [hp] at hu
        refine ((hevent t hu).keeps_takeClaim marked ?_).keeps_passLoop _ _
        refine (hspares t).imp (fun h => h e.group) fun h => ?_
        rw [State.stream, h]
        exact passUntil_heldLane hp
      · next t hp =>
        rw [hp] at hu
        exact hevent t hu
    · exact hevent _ hs.keeps_dropTurn
  · exact hevent s hs

theorem settleKeptTime_heldLane (kind : NotifyKind) (now : PaceCount) (r : StreamRec) :
    (settleKeptTime kind now r).heldLane = r.heldLane := by
  unfold settleKeptTime
  split <;> rfl

theorem LanesAgree.keeps_notify (hs : LanesAgree up al fresh s) (kind : NotifyKind) (i : StreamNo) :
    LanesAgree up al fresh (notify kind i s) := by
  have hm : LanesAgree up al fresh (s.modStream i (settleKeptTime kind s.paceCount)) :=
    hs.of_view (laneView_modStream s i (settleKeptTime_heldLane kind _))
  unfold notify
  dsimp only
  split
  · split
    · exact hm.of_view rfl
    · exact hm.keeps_removeEntry i
  · split
    · exact (hm.keeps_joinList _).keeps_callPass
    · exact hm

theorem LanesAgree.keeps_demandChanged (hs : LanesAgree up al fresh s) (i : StreamNo) :
    LanesAgree up al fresh (demandChanged i s) := (hs.keeps_notify .demandChange i).keeps_judgeHeld i

end arbiter

/-! ### Streams, queues and images -/

section streams
variable {up : Bool} {al : LaneNo → Bool} {fresh : Option LaneNo} {s : State}

theorem LanesAgree.keeps_modStream (hs : LanesAgree up al fresh s) (i : StreamNo) {f : StreamRec → StreamRec}
    (hf : ∀ r, (f r).heldLane = r.heldLane := by intro; rfl) : LanesAgree up al fresh (s.modStream i f) :=
  hs.of_view (laneView_modStream s i hf)

theorem LanesAgree.keeps_raise (hs : LanesAgree up al fresh s) (pt : CausePoint) :
    LanesAgree up al fresh (raise pt s) := hs.of_view (laneView_raise s pt)

theorem LanesAgree.keeps_changePacing (hs : LanesAgree up al fresh s) (i : StreamNo) {f : StreamRec → StreamRec}
    (hf : ∀ r, (f r).heldLane = r.heldLane := by intro; rfl) : LanesAgree up al fresh (changePacing i f s) := by
  unfold changePacing
  dsimp only
  split
  · exact (hs.keeps_modStream i hf).keeps_demandChanged i
  · exact hs.keeps_modStream i hf

theorem LanesAgree.keeps_consumeCredit (hs : LanesAgree up al fresh s) (i : StreamNo) :
    LanesAgree up al fresh (consumeCredit i s).2 := by
  unfold consumeCredit
  split
  · exact hs
  · exact hs.keeps_changePacing i

theorem LanesAgree.keeps_emptinessChanged (hs : LanesAgree up al fresh s) (i : StreamNo) (wasEmpty : Bool) :
    LanesAgree up al fresh (emptinessChanged i wasEmpty s) := by
  unfold emptinessChanged
  split
  · exact hs
  · exact hs.keeps_demandChanged i

/-- A change of a stream's queue, with the free buffers that it takes or returns. -/
theorem LanesAgree.keeps_queue (hs : LanesAgree up al fresh s) (i : StreamNo) (free : Nat)
    (f : StreamRec → List TrafficCell) :
    LanesAgree up al fresh ({ s with freeBuffers := free }.modStream i fun r => { r with queue := f r }) :=
  by
  refine LanesAgree.keeps_modStream ?_ i
  exact hs.of_view rfl

theorem LanesAgree.keeps_appendCell (hs : LanesAgree up al fresh s) (i : StreamNo) (c : TrafficCell) :
    LanesAgree up al fresh (appendCell i c s) := by
  refine LanesAgree.keeps_emptinessChanged ?_ i _
  split
  · exact (hs.keeps_queue i _ _).keeps_raise _
  · exact hs.keeps_queue i _ _

theorem LanesAgree.keeps_takeHead (hs : LanesAgree up al fresh s) (i : StreamNo) :
    LanesAgree up al fresh (takeHead i s).2 := by
  unfold takeHead
  split
  · exact hs
  · exact (hs.keeps_queue i _ _).keeps_emptinessChanged i _

theorem LanesAgree.keeps_flush (hs : LanesAgree up al fresh s) (i : StreamNo) : LanesAgree up al fresh (flush i s) := by
  unfold flush
  dsimp only
  split
  · exact hs
  · exact (hs.keeps_queue i _ _).keeps_demandChanged i

theorem LanesAgree.keeps_setLife (hs : LanesAgree up al fresh s) (i : StreamNo) (life : Life) :
    LanesAgree up al fresh (setLife i life s) := (hs.keeps_modStream i).keeps_demandChanged i

theorem LanesAgree.keeps_enterClosed (hs : LanesAgree up al fresh s) (i : StreamNo) :
    LanesAgree up al fresh (enterClosed i s) :=
  ((((hs.keeps_modStream i).keeps_changePacing i).keeps_flush i).keeps_removeEntry
    i).keeps_demandChanged i

theorem LanesAgree.keeps_judgeDrain (hs : LanesAgree up al fresh s) (i : StreamNo) :
    LanesAgree up al fresh (judgeDrain i s) := by
  unfold judgeDrain
  split
  · exact hs.keeps_enterClosed i
  · exact hs

theorem LanesAgree.keeps_openStream (hs : LanesAgree up al fresh s) (i : StreamNo) :
    LanesAgree up al fresh (openStream i s).2 := by
  unfold openStream
  dsimp only
  split
  · exact ((hs.keeps_modStream i).keeps_changePacing i).keeps_demandChanged i
  · exact hs

theorem LanesAgree.keeps_closeDiscarding (hs : LanesAgree up al fresh s) (i : StreamNo) :
    LanesAgree up al fresh (closeDiscarding i s) := by
  have hflushed := (hs.keeps_flush i).keeps_removeEntry i
  unfold closeDiscarding
  dsimp only
  split
  · exact hflushed.keeps_enterClosed i
  · exact hflushed.keeps_setLife i _

theorem LanesAgree.keeps_closePlain (hs : LanesAgree up al fresh s) (i : StreamNo) :
    LanesAgree up al fresh (closePlain i s).2 := by
  unfold closePlain
  split <;> dsimp only
  · exact (hs.keeps_setLife i _).keeps_judgeDrain i
  · exact (hs.keeps_flush i).keeps_enterClosed i
  · exact hs
  · exact hs

theorem LanesAgree.keeps_closeDiscard (hs : LanesAgree up al fresh s) (i : StreamNo) :
    LanesAgree up al fresh (closeDiscard i s).2 := by
  unfold closeDiscard
  split <;> dsimp only
  · exact hs.keeps_closeDiscarding i
  · exact (hs.keeps_flush i).keeps_enterClosed i
  · exact hs.keeps_closeDiscarding i
  · exact hs
  · exact hs

theorem LanesAgree.keeps_clearHold (hs : LanesAgree up al fresh s) (i : StreamNo) :
    LanesAgree up al fresh (clearHold i s).2 := by
  unfold clearHold
  split
  · exact (hs.keeps_modStream i).keeps_setLife i _
  · exact hs

theorem LanesAgree.keeps_refusalLimitReached (hs : LanesAgree up al fresh s) (i : StreamNo) :
    LanesAgree up al fresh (refusalLimitReached i s) := by
  unfold refusalLimitReached
  split
  · exact ((hs.keeps_modStream i).keeps_raise _).keeps_demandChanged i
  · exact ((hs.keeps_raise _).keeps_flush i).keeps_enterClosed i
  · exact hs
  · exact hs
  · exact hs

theorem LanesAgree.keeps_bindRefused (hs : LanesAgree up al fresh s) (i : StreamNo) :
    LanesAgree up al fresh (bindRefused i s) := by
  unfold bindRefused
  dsimp only
  split
  · split
    · exact (hs.keeps_modStream i).keeps_refusalLimitReached i
    · exact hs.keeps_modStream i
  · exact hs

theorem LanesAgree.keeps_judgeDevicePart (hs : LanesAgree up al fresh s) :
    LanesAgree up al fresh (judgeDevicePart s) := by
  unfold judgeDevicePart
  split
  · next d _ =>
    split
    · have happlied : LanesAgree up al fresh (applyDevice d s) := hs.of_view (laneView_applyDevice s d)
      exact happlied.keeps_callPass.of_view (laneView_judgeCompletion _)
    · exact hs
  · exact hs

theorem LanesAgree.keeps_lossClaims (hs : LanesAgree up al fresh s) (kind : NotifyKind) (i : StreamNo) :
    LanesAgree up al fresh (lossClaims kind i s) :=
  ((hs.keeps_judgeDrain i).of_view (laneView_commitLoss _ i)).keeps_notify kind i

theorem LanesAgree.keeps_tellStroke (hs : LanesAgree up al fresh s) (before : StreamRec) (i : StreamNo) :
    LanesAgree up al fresh (tellStroke before i s) := by
  have hraised : LanesAgree up al fresh (if before.saturates then raise (.stream i .creditSaturated) s else s) := by
    split
    · exact hs.keeps_raise _
    · exact hs
  unfold tellStroke
  dsimp only
  split
  · exact hraised.keeps_demandChanged i
  · exact hraised

theorem struck_heldLane (r : StreamRec) : r.struck.heldLane = r.heldLane := by rw [Pacing.struck_eq]; split <;> rfl

theorem LanesAgree.keeps_countStreams (hs : LanesAgree up al fresh s) : LanesAgree up al fresh (countStreams s) := by
  have hcounted : LanesAgree up al fresh (Pacing.counting s) := hs.of_view (laneView_mapStreams s struck_heldLane)
  exact hcounted.keeps_foldl (fun _ i ht => ht.keeps_tellStroke (s.stream i) i) _

theorem LanesAgree.keeps_countFirst (hs : LanesAgree up al fresh s) : LanesAgree up al fresh (countFirst s) := by
  unfold countFirst
  split
  · exact hs.keeps_countStreams
  · exact hs

theorem LanesAgree.keeps_stroke (hs : LanesAgree up al fresh s) : LanesAgree up al fresh (stroke s) := by
  have hadvanced : LanesAgree up al fresh (advance s).dropTurn := hs.of_view rfl
  unfold stroke
  dsimp only [takeTurn_eq]
  split
  · exact hs.keeps_countStreams
  · split
    · exact hadvanced
    · exact hadvanced.keeps_countStreams

end streams

/-! ### Handshakes and their ends -/

section handshakes
variable {up : Bool} {al : LaneNo → Bool} {fresh : Option LaneNo} {s : State}

/-- The lane whose outstanding request an answer matches is in that handshake. -/
theorem LanesAgree.awaits (hs : LanesAgree up al fresh s) (l : LaneNo) :
    (s.lane l).outstanding = (s.lane l).state.awaits := (hs.lane l).record.1.1

theorem LanesAgree.keeps_staleCell (hs : LanesAgree up al fresh s) (l : LaneNo) :
    LanesAgree up al fresh (staleCell l s) :=
  LanesAgree.keeps_raise (hs.of_view (laneView_modLane s l (by intro; rfl))) _

theorem LanesAgree.keeps_strayCell (hs : LanesAgree up al fresh s) (l : LaneNo) :
    LanesAgree up al fresh (strayCell l s) := hs.keeps_raise _

theorem LanesAgree.keeps_takeAnswer (hs : LanesAgree up al fresh s) (kind : Handshake) (l : LaneNo) (tag : Byte)
    {matching : State → State}
    (hm : (s.lane l).state.awaits = some kind → LanesAgree up al fresh (matching s)) :
    LanesAgree up al fresh (takeAnswer kind l tag matching s) := by
  unfold takeAnswer
  split
  · exact hs.keeps_staleCell l
  · split
    · next h => exact hm ((hs.awaits l).symm.trans h)
    · exact hs.keeps_strayCell l

theorem LanesAgree.keeps_takeUnknownAnswer (hs : LanesAgree up al fresh s) (l : LaneNo) (tag : Byte) :
    LanesAgree up al fresh (takeUnknownAnswer l tag s) := by
  unfold takeUnknownAnswer
  split
  · exact hs.keeps_staleCell l
  · exact hs.keeps_strayCell l

theorem LanesAgree.keeps_takePause (hs : LanesAgree up al fresh s) (paused : Bool) (l : LaneNo) (tag : Byte) :
    LanesAgree up al fresh (takePause paused l tag s) := by
  unfold takePause
  split
  · exact hs.keeps_staleCell l
  · split
    · next hb =>
      obtain ⟨hup, hholder, hout, hanswer, hpending, hcell, hlaunch⟩ := hs.bound hb
      exact hs.keeps_modLane l
        ((recordAgrees_bound (by exact hb)).2 ⟨hup, hholder, hout, hanswer, hpending, hcell, hlaunch⟩)
        ⟨rfl, rfl, rfl⟩ .rfl
    · exact hs.keeps_strayCell l

theorem LanesAgree.freshen (hs : LanesAgree up al none s) (l : LaneNo) : LanesAgree up al (some l) s where
  trunk := hs.trunk
  lane k :=
    have hk := hs.lane k
    ⟨hk.record.mono nofun, hk.aligned, hk.holder, hk.listed⟩

/-- The judgement of the fresh lane releases it where a disable is pending, so that no lane is fresh any more (R65, R92
test 1). -/
theorem LanesAgree.agree_judgeLane_fresh {l : LaneNo} (hs : LanesAgree up al (some l) s) :
    LanesAgree up al none (judgeLane l s) := by
  have settle {t : State} (ht : LanesAgree up al (some l) t)
      (hl : (t.lane l).state = .bound → (t.lane l).disablePending = false) : LanesAgree up al none t := by
    refine ⟨ht.trunk, fun k => ?_⟩
    obtain ⟨⟨hfields, hpending, htrunk⟩, haligned, hholder, hlisted⟩ := ht.lane k
    refine ⟨⟨hfields, fun hp => (hpending hp).imp_right fun ⟨hb, hk⟩ => ?_, htrunk⟩, haligned, hholder, hlisted⟩
    obtain rfl : l = k := Option.some.inj hk
    simp [hl hb] at hp
  by_cases hb : (s.lane l).state = .bound
  · obtain ⟨-, hbound⟩ := hs.bound hb
    obtain ⟨i, hi⟩ := Option.isSome_iff_exists.1 hbound.holder
    by_cases hp : (s.lane l).disablePending = true
    · have hreleased : judgeLane l s = startRelease l s := by simp [judgeLane, hb, hi, endsAtOnce, hp]
      rw [hreleased]
      refine settle (hs.keeps_startRelease l) fun h => ?_
      simp [startRelease, hb, LaneRec.begin] at h
    · exact (settle hs fun _ => Bool.not_eq_true _ ▸ hp).keeps_judgeLane l
  · exact (settle hs fun h => absurd h hb).keeps_judgeLane l

theorem LanesAgree.keeps_bindAcceptMatched (hs : LanesAgree up al none s) (l : LaneNo)
    (ha : (s.lane l).state.awaits = some .bind) : LanesAgree up al none (bindAcceptMatched l s) := by
  have hstate : (s.lane l).state = .binding := by cases h : (s.lane l).state <;> simp_all [LaneState.awaits]
  obtain ⟨hup, hrecord⟩ := hs.inHandshake (l := l) (by rw [hstate]; rfl)
  have hbound : LanesAgree up al (some l) (s.modLane l fun r =>
      { r.endHandshake with
        state := .bound, paused := false, holdDeadline := none, bindsAccepted := r.bindsAccepted + 1 }) := by
    refine (hs.freshen l).keeps_modLane l ((recordAgrees_bound rfl).2 ⟨hup, ?_, rfl, rfl, fun _ => rfl, rfl, ?_⟩)
      ⟨rfl, rfl, rfl⟩ (by simp [hstate])
    · exact hrecord.holder.trans (by rw [hstate]; rfl)
    · intro i hi
      exact absurd (hrecord.launching.symm.trans hi) nofun
  unfold bindAcceptMatched
  dsimp only
  refine LanesAgree.keeps_judgeDevicePart (LanesAgree.agree_judgeLane_fresh ?_)
  split
  · exact (hbound.keeps_modStream _).keeps_notify _ _
  · exact hbound

/-- Nothing is under way on a lane whose handshake has ended and whose holder, if it had one, has lost it. -/
theorem quietRecord_endHandshake {r : LaneRec} (h : HandshakeRecord r) :
    QuietRecord { r.endHandshake with holder := none } :=
  ⟨rfl, rfl, rfl, h.holdDeadline, h.paused, rfl, h.launching⟩

theorem quietRecord_ended {r r' : LaneRec} (h : HandshakeRecord r) (hr : bareRecord r' = bareRecord r.endHandshake) :
    QuietRecord { r' with holder := none } := by
  have hbare : QuietRecord { bareRecord r.endHandshake with holder := none } := quietRecord_endHandshake (r := r) h
  rw [← hr] at hbare
  exact hbare

/-- At the end of a handshake the lane is handed back by its holder (R66, R69). -/
theorem LanesAgree.keeps_handBack (hs : LanesAgree up al fresh s) {l : LaneNo} {i : StreamNo}
    (hh : (s.lane l).state.inHandshake = true) (hi : (s.lane l).holder = some i) {f : LaneRec → LaneRec}
    (hf : ∀ r, bareRecord (f r) = bareRecord r.endHandshake := by intro; rfl) :
    LanesAgree up al fresh (handBack l i (s.modLane l f)) := by
  obtain ⟨rfl, hrecord⟩ := hs.inHandshake hh
  have hal : (f (s.lane l)).aligned = (s.lane l).aligned := (congrArg LaneRec.aligned (hf _) :)
  refine (hs.others_clearHolder hi hal).agree_freeOrDisable ?_
  rw [clearHolder, modStream_lane, modLane_modLane, lane_modLane_same]
  exact quietRecord_ended hrecord (hf _)

/-- At the end of a handshake a lane without a holder becomes FREE or DISABLED (R72). -/
theorem LanesAgree.keeps_freeOrDisable (hs : LanesAgree up al fresh s) {l : LaneNo}
    (hh : (s.lane l).state.inHandshake = true) (hn : (s.lane l).holder = none) {f : LaneRec → LaneRec}
    (hf : ∀ r, bareRecord (f r) = bareRecord r.endHandshake := by intro; rfl) :
    LanesAgree up al fresh (freeOrDisable l (s.modLane l f)) := by
  obtain ⟨rfl, hrecord⟩ := hs.inHandshake hh
  have hal : (f (s.lane l)).aligned = (s.lane l).aligned := (congrArg LaneRec.aligned (hf _) :)
  have hholder : (f (s.lane l)).holder = none := (congrArg LaneRec.holder (hf _) :).trans hn
  have hfree : (s.lane l).state ≠ .free := fun h => by simp [h, LaneState.inHandshake] at hh
  refine ((hs.others_of_unheld hn hfree).keeps_modLane hal).agree_freeOrDisable ?_
  rw [lane_modLane_same]
  obtain ⟨-, hquiet⟩ := quietRecord_ended hrecord (hf _)
  exact ⟨hholder, hquiet⟩

/-- A lane in recovery has no holder (R57). -/
theorem LanesAgree.holder_of_recovering (hs : LanesAgree up al fresh s) {l : LaneNo}
    (hl : (s.lane l).state = .recovering) : (s.lane l).holder = none := by
  have hholder := (hs.inHandshake (l := l) (by rw [hl]; rfl)).2.holder
  rw [hl] at hholder
  exact Option.isNone_iff_eq_none.1 (Option.isSome_eq_false_iff.1 hholder)

theorem LanesAgree.keeps_passOnJoin (hs : LanesAgree up al fresh s) (joined : Bool) :
    LanesAgree up al fresh (passOnJoin joined s) := by
  unfold passOnJoin
  split
  · exact hs.keeps_callPass
  · exact hs

theorem LanesAgree.keeps_refusalReports (hs : LanesAgree up al fresh s) (i : StreamNo) (joined : Bool) :
    LanesAgree up al fresh (refusalReports i joined s) := by
  unfold refusalReports
  dsimp only [takeTurn_eq]
  split
  · split
    · exact hs.keeps_dropTurn.keeps_callPass.keeps_notify _ i
    · exact (hs.keeps_dropTurn.keeps_notify _ i).keeps_callPass
  · exact hs.keeps_notify _ i

theorem LanesAgree.keeps_bindRefuseMatched (hs : LanesAgree up al fresh s) (l : LaneNo)
    (ha : (s.lane l).state.awaits = some .bind) : LanesAgree up al fresh (bindRefuseMatched l s) := by
  have hh := inHandshake_of_awaits ha
  unfold bindRefuseMatched
  dsimp only
  simp only [lane_modLane_same]
  split
  · next i hi =>
    refine (LanesAgree.keeps_refusalReports ?_ i _).keeps_judgeDevicePart
    exact (((hs.keeps_handBack hh hi).keeps_bindRefused i).keeps_judgeDrain i).of_view (laneView_commitLoss _ i)
  · next hn => exact ((hs.keeps_freeOrDisable hh hn).keeps_passOnJoin _).keeps_judgeDevicePart

theorem LanesAgree.keeps_releaseAckMatched (hs : LanesAgree up al fresh s) (l : LaneNo)
    (ha : (s.lane l).state.awaits = some .release) : LanesAgree up al fresh (releaseAckMatched l s) := by
  have hh := inHandshake_of_awaits ha
  unfold releaseAckMatched
  dsimp only
  simp only [lane_modLane_same]
  split
  · next i hi =>
    exact (((hs.keeps_handBack hh hi).keeps_lossClaims _ i).keeps_passOnJoin _).keeps_judgeDevicePart
  · next hn => exact ((hs.keeps_freeOrDisable hh hn).keeps_passOnJoin _).keeps_judgeDevicePart

theorem LanesAgree.keeps_resetAckMatched (hs : LanesAgree up al fresh s) (l : LaneNo)
    (ha : (s.lane l).state.awaits = some .laneReset) : LanesAgree up al fresh (resetAckMatched l s) := by
  have hstate : (s.lane l).state = .recovering := by cases h : (s.lane l).state <;> simp_all [LaneState.awaits]
  have hh := inHandshake_of_awaits ha
  have hn : (s.lane l).holder = none := hs.holder_of_recovering hstate
  exact ((hs.keeps_freeOrDisable hh hn).keeps_passOnJoin _).keeps_judgeDevicePart

/-- The lane at an answer timeout, once its holder, if it had one, has lost it (R63). -/
theorem recordAgrees_timedOut {p : Prop} {r : LaneRec} (h : HandshakeRecord r) :
    RecordAgrees true p { r.timedOut with holder := none } := by
  have hquiet : QuietRecord { r.timedOut with holder := none } := quietRecord_endHandshake (r := r) h
  cases hp : r.disablePending with
  | true =>
    have hstate : r.timedOut.state = .disabled := if_pos hp
    exact (recordAgrees_idle (by rw [hstate]; rfl) (by simp [hstate])).2 ⟨allows_up (by simp [hstate]), rfl, hquiet⟩
  | false =>
    have hstate : r.timedOut.state = .quarantined := if_neg (by simp [hp])
    exact (recordAgrees_idle (by rw [hstate]; rfl) (by simp [hstate])).2 ⟨allows_up (by simp [hstate]), rfl, hquiet⟩

theorem timedOut_not_free (r : LaneRec) : r.timedOut.state ≠ .free := by
  simp only [LaneRec.timedOut]
  split <;> simp

theorem laneView_clearHolder (s : State) (l : LaneNo) (i : StreamNo) :
    laneView (clearHolder l i s) =
      { laneView s with
        lanes := (laneView s).lanes.write l { (laneView s).lanes.read l with holder := none }
        held := (laneView s).held.write i none } := by
  simp only [laneView, clearHolder, State.modStream, State.setStream, State.modLane, State.setLane, Table.mapAll_write,
    Table.read_mapAll]
  rfl

/-- A holder loses a lane at an answer timeout, whatever has been raised before (R63). -/
theorem LanesAgree.keeps_loseLane (hs : LanesAgree up al fresh s) {l : LaneNo} {i : StreamNo}
    (hh : (s.lane l).state.inHandshake = true) (hi : (s.lane l).holder = some i) (kind : NotifyKind) {t : State}
    (ht : laneView t = laneView (s.modLane l LaneRec.timedOut)) : LanesAgree up al fresh (loseLane kind l i t) := by
  obtain ⟨rfl, hrecord⟩ := hs.inHandshake hh
  have hcleared : laneView (clearHolder l i t) = laneView (clearHolder l i (s.modLane l LaneRec.timedOut)) := by
    rw [laneView_clearHolder, laneView_clearHolder, ht]
  have hlane : (clearHolder l i (s.modLane l LaneRec.timedOut)).lane l =
      { (s.lane l).timedOut with holder := none } := by
    rw [clearHolder, modStream_lane, modLane_modLane, lane_modLane_same]
  refine LanesAgree.keeps_lossClaims (.of_view ?_ hcleared) kind i
  refine (hs.others_clearHolder hi rfl).close ?_ ?_ ?_ <;> rw [hlane]
  · exact recordAgrees_timedOut hrecord
  · exact timedOut_not_free _

/-- A lane without a holder at an answer timeout. -/
theorem LanesAgree.keeps_timedOut (hs : LanesAgree up al fresh s) {l : LaneNo}
    (hh : (s.lane l).state.inHandshake = true) (hn : (s.lane l).holder = none) :
    LanesAgree up al fresh (s.modLane l LaneRec.timedOut) := by
  obtain ⟨rfl, hrecord⟩ := hs.inHandshake hh
  have hfree : (s.lane l).state ≠ .free := fun h => by simp [h, LaneState.inHandshake] at hh
  refine hs.keeps_modLane l ?_ ⟨rfl, rfl, rfl⟩ (iff_of_false (timedOut_not_free _) hfree)
  have hsame : { (s.lane l).timedOut with holder := none } = (s.lane l).timedOut := by
    rw [← show (s.lane l).timedOut.holder = none from hn]
  exact hsame ▸ recordAgrees_timedOut hrecord

theorem LanesAgree.keeps_answerTimeout (hs : LanesAgree up al fresh s) (l : LaneNo) :
    LanesAgree up al fresh (answerTimeout l s) := by
  unfold answerTimeout
  dsimp only
  split
  · next hstate =>
    have hh : (s.lane l).state.inHandshake = true := by rw [hstate]; rfl
    split
    · next i hi => exact (hs.keeps_loseLane hh hi _ (by simp)).keeps_judgeDevicePart
    · next hn => exact ((hs.keeps_timedOut hh hn).keeps_raise _).keeps_judgeDevicePart
  · next hstate =>
    have hh : (s.lane l).state.inHandshake = true := by rw [hstate]; rfl
    refine LanesAgree.keeps_judgeDevicePart ?_
    have hholder : ((raise (.lane l .answerTimeout) (s.modLane l LaneRec.timedOut)).lane l).holder =
        (s.lane l).holder := by
      refine (congrArg LaneRec.holder (lane_of_view (laneView_raise _ _) l) :).trans ?_
      rw [lane_modLane_same]
      rfl
    unfold loseHolder
    rw [hholder]
    split
    · next i hi => exact hs.keeps_loseLane hh hi _ (by simp)
    · next hn => exact (hs.keeps_timedOut hh hn).keeps_raise _
  · next hstate =>
    have hh : (s.lane l).state.inHandshake = true := by rw [hstate]; rfl
    have hn : (s.lane l).holder = none := hs.holder_of_recovering hstate
    exact ((hs.keeps_timedOut hh hn).keeps_raise _).keeps_judgeDevicePart
  · exact hs
  · exact hs
  · exact hs
  · exact hs
  · exact hs

end handshakes

/-! ### LANE-CONTROL and the trunk link -/

section control
variable {up : Bool} {al : LaneNo → Bool} {fresh : Option LaneNo} {s : State}

/-- A FREE lane becomes DISABLED, out of its list (R60, R75). -/
theorem LanesAgree.keeps_disable_free (hs : LanesAgree up al fresh s) {l : LaneNo} (hf : (s.lane l).state = .free) :
    LanesAgree up al fresh (leaveFreeList l (s.modLane l fun r => { r with state := .disabled })) := by
  obtain ⟨hup, hp, hquiet⟩ := hs.isFree hf
  have hset : LanesAgree up al fresh ((s.modLane l fun r => { r with state := .disabled }).setFree (s.lane l).group
      ((s.freeLanes.read (s.lane l).group).filter (· != l))) := by
    have hlist (k : LaneNo) (g : GroupNo) :
        (((s.freeLanes.write (s.lane l).group ((s.freeLanes.read (s.lane l).group).filter (· != l))).read g).count k) =
          if l = k ∧ (s.lane l).group = g then 0 else (s.freeLanes.read g).count k := by
      rw [Table.read_write]
      by_cases hg : (s.lane l).group = g
      · by_cases hk : l = k
        · subst hk
          simp [hg, List.count_eq_zero]
        · simp [hg, hk, List.count_filter, Ne.symm hk]
      · simp [hg]
    refine hs.confined l rfl (fun k hk => by rw [setFree_lane, lane_modLane_ne _ hk]) (fun _ _ _ => .rfl)
      (fun k hk g => ?_) ⟨?_, ?_, fun i => ?_, fun g => ?_⟩
    · exact (hlist k g).trans (if_neg fun h => hk h.1)
    · rw [setFree_lane, lane_modLane_same]
      exact (recordAgrees_idle rfl (by simp)).2 ⟨hup ▸ allows_up (by simp), hp, hquiet⟩
    · rw [setFree_lane, lane_modLane_same]
      exact (hs.lane l).aligned
    · rw [setFree_lane, lane_modLane_same]
      exact (hs.lane l).holder i
    · refine (hlist l g).trans ?_
      simp only [setFree_lane, lane_modLane_same, reduceCtorEq, false_and, if_false]
      have hl := (hs.lane l).listed g
      split
      · rfl
      · next hg => rw [hl, if_neg fun h => hg ⟨trivial, h.2⟩]
  unfold leaveFreeList
  dsimp only
  simp only [lane_modLane_same, modLane_freeLanes]
  split
  · exact hset.keeps_judgeGroup _
  · exact hset

/-- An idle lane that is not FREE takes another idle state (R75, R77). -/
theorem LanesAgree.keeps_idleState (hs : LanesAgree up al fresh s) {l : LaneNo} {st : LaneState}
    (hh : (s.lane l).state.inHandshake = false) (hb : (s.lane l).state ≠ .bound) (hf : (s.lane l).state ≠ .free)
    (hst : st.inHandshake = false ∧ st ≠ .bound ∧ st ≠ .free) (hup : allows up st) :
    LanesAgree up al fresh (s.modLane l fun r => { r with state := st }) := by
  obtain ⟨-, hp, hquiet⟩ := hs.idle hh hb
  obtain ⟨hsth, hstb, hstf⟩ := hst
  exact hs.keeps_modLane l ((recordAgrees_idle hsth hstb).2 ⟨hup, hp, hquiet⟩) ⟨rfl, rfl, rfl⟩ (iff_of_false hstf hf)

theorem allows_disabled (up : Bool) : allows up .disabled := by cases up <;> simp [allows]

/-- A disable waits for the end of a handshake (R75). -/
theorem LanesAgree.keeps_pendDisable (hs : LanesAgree up al fresh s) {l : LaneNo}
    (hh : (s.lane l).state.inHandshake = true) :
    LanesAgree up al fresh (s.modLane l fun r => { r with disablePending := true }) := by
  obtain ⟨hup, hholder, hout, hhold, hpaused, hlaunch⟩ := hs.inHandshake hh
  exact hs.keeps_modLane l
    ((recordAgrees_handshake (by exact hh)).2 ⟨hup, hholder, hout, hhold, hpaused, hlaunch⟩) ⟨rfl, rfl, rfl⟩ .rfl

/-- A recovery begins on an idle lane that is not FREE, with the trunk UP (R71, R77, R78). -/
theorem LanesAgree.keeps_startRecovery (hs : LanesAgree up al fresh s) {l : LaneNo} (hup : up = true)
    (hh : (s.lane l).state.inHandshake = false) (hb : (s.lane l).state ≠ .bound) (hf : (s.lane l).state ≠ .free) :
    LanesAgree up al fresh (startRecovery l s) := by
  obtain ⟨-, -, hn, -⟩ := hs.idle hh hb
  refine hs.keeps_modLane l ((recordAgrees_handshake rfl).2 ⟨hup, ?_, rfl, rfl, rfl, rfl⟩) ⟨rfl, rfl, rfl⟩
    (iff_of_false (by simp [LaneRec.beginRecovery, LaneRec.begin]) hf)
  exact congrArg Option.isSome hn

theorem LanesAgree.keeps_laneDisable (hs : LanesAgree up al fresh s) (l : LaneNo) :
    LanesAgree up al fresh (laneDisable l s).2 := by
  have idle (hstate : (s.lane l).state = .down ∨ (s.lane l).state = .quarantined) :
      LanesAgree up al fresh (s.modLane l fun r => { r with state := .disabled }) := by
    obtain h | h := hstate <;>
      exact hs.keeps_idleState (by rw [h]; rfl) (by simp [h]) (by simp [h]) ⟨rfl, by simp, by simp⟩ (allows_disabled up)
  have pend (hstate : (s.lane l).state = .binding ∨ (s.lane l).state = .unbinding ∨ (s.lane l).state = .recovering) :
      LanesAgree up al fresh (s.modLane l fun r => { r with disablePending := true }) := by
    obtain h | h | h := hstate <;> exact hs.keeps_pendDisable (by rw [h]; rfl)
  unfold laneDisable
  dsimp only
  split <;> dsimp only
  · next h => exact hs.keeps_disable_free h
  · next h => exact idle (.inl h)
  · next h => exact idle (.inr h)
  · next h => exact pend (.inl h)
  · next h =>
    refine (hs.keeps_startRelease l).keeps_pendDisable ?_
    rw [Arbiter.startRelease_of_bound h, lane_modLane_same]
    rfl
  · next h => exact pend (.inr (.inl h))
  · next h => exact pend (.inr (.inr h))
  · exact hs

theorem startRelease_streams (s : State) (l : LaneNo) : (startRelease l s).streams = s.streams := by
  obtain ⟨f, hf⟩ := Arbiter.startRelease_eq_modLane s l
  rw [hf]
  rfl

theorem judgeGroup_streams (s : State) (g : GroupNo) : (judgeGroup g s).streams = s.streams :=
  foldl_keeps s (fun t l => by
    obtain ⟨f, hf⟩ := Arbiter.judgeLane_eq_modLane t l
    rw [hf]
    rfl) _

theorem laneDisable_streams (s : State) (l : LaneNo) : (laneDisable l s).2.streams = s.streams := by
  unfold laneDisable leaveFreeList
  dsimp only
  split <;> dsimp only
  · split
    · exact judgeGroup_streams _ _
    · rfl
  · rfl
  · rfl
  · rfl
  · exact startRelease_streams s l
  · rfl
  · rfl

theorem LanesAgree.keeps_disableLane (hs : LanesAgree up al fresh s) (l : LaneNo) :
    LanesAgree up al fresh (disableLane l s).2 := by
  unfold disableLane
  split
  · exact hs.keeps_duringPass (fun t ht => ht.keeps_laneDisable l) fun t => .inr (laneDisable_streams t l)
  · exact hs.keeps_laneDisable l

theorem LanesAgree.keeps_laneEnable (hs : LanesAgree up al fresh s) (l : LaneNo) :
    LanesAgree up al fresh (laneEnable l s).2 := by
  unfold laneEnable
  split
  · next h =>
    split
    · next hup => exact hs.keeps_startRecovery (hs.trunk.symm.trans hup) (by rw [h]; rfl) (by simp [h]) (by simp [h])
    · next hup =>
      obtain rfl : up = false := hs.trunk.symm.trans (Bool.not_eq_true _ ▸ hup)
      exact hs.keeps_idleState (by rw [h]; rfl) (by simp [h]) (by simp [h]) ⟨rfl, by simp, by simp⟩ (.inl rfl)
  · exact hs

theorem LanesAgree.keeps_laneRetire (hs : LanesAgree up al fresh s) (l : LaneNo) :
    LanesAgree up al fresh (laneRetire l s).2 := by
  unfold laneRetire
  split
  · exact hs.keeps_startRelease l
  · exact hs

theorem LanesAgree.keeps_laneRecover (hs : LanesAgree up al fresh s) (l : LaneNo) :
    LanesAgree up al fresh (laneRecover l s).2 := by
  unfold laneRecover
  split
  · next h =>
    have hup := up_of_allows (hs.lane l).record.2.2 (by simp [h]) (by simp [h])
    exact hs.keeps_startRecovery hup (by rw [h]; rfl) (by simp [h]) (by simp [h])
  · exact hs

/-- With every lane judged, a disable is pending in a handshake alone, so that this command finds nothing to do. -/
theorem LanesAgree.applyPendingDisable_eq (hs : LanesAgree up al none s) (l : LaneNo) :
    applyPendingDisable l s = s := by
  refine if_neg fun h => ?_
  rw [Bool.and_eq_true, Option.isNone_iff_eq_none] at h
  obtain ⟨hp, hout⟩ := h
  have hh := ((hs.lane l).record.2.1 hp).resolve_right fun h => by simp at h
  have hawaits := awaits_isSome hh
  rw [← hs.awaits l, hout] at hawaits
  exact Bool.false_ne_true hawaits

theorem lane_dropLanes (s : State) (l : LaneNo) :
    (dropLanes s).lane l = { (s.lane l).dropped with holder := none } := Table.read_mapAll _ _ _

/-- Once every lane is dropped, the lanes agree with a trunk that is DOWN (R79, R83). -/
theorem laneAgrees_dropLanes {p : Prop} (s : State) (l : LaneNo) :
    LaneAgrees false (s.lane l).aligned p (dropLanes s) l := by
  have hheld (i : StreamNo) : ((dropLanes s).stream i).heldLane = none :=
    (congrArg StreamRec.heldLane (Table.read_mapAll _ s.streams i) :)
  have hstate : ((dropLanes s).lane l).state = .disabled ∨ ((dropLanes s).lane l).state = .down := by
    rw [lane_dropLanes]
    exact ite_eq_or_eq _ _ _
  have hquiet : QuietRecord ((dropLanes s).lane l) := by
    rw [lane_dropLanes]
    exact ⟨rfl, rfl, rfl, rfl, rfl, rfl, rfl⟩
  have hp : ((dropLanes s).lane l).disablePending = false := by rw [lane_dropLanes]; rfl
  refine ⟨?_, by rw [lane_dropLanes]; rfl, fun i => ?_, fun g => ?_⟩
  · obtain h | h := hstate
    · exact (recordAgrees_idle (by rw [h]; rfl) (by simp [h])).2 ⟨.inr h, hp, hquiet⟩
    · exact (recordAgrees_idle (by rw [h]; rfl) (by simp [h])).2 ⟨.inl h, hp, hquiet⟩
  · rw [hquiet.1, hheld i]
    simp
  · have hlist : (dropLanes s).freeLanes.read g = [] := Table.read_const _ _
    rw [hlist, if_neg fun h => by obtain h' | h' := hstate <;> simp [h'] at h]
    rfl

theorem LanesAgree.keeps_trunkLoss (hs : LanesAgree up al fresh s) (before : LaneRec) :
    LanesAgree up al fresh (trunkLoss before s) := by
  unfold trunkLoss
  split
  · dsimp only
    split
    · exact (hs.keeps_raise _).keeps_lossClaims _ _
    · exact hs.keeps_lossClaims _ _
  · exact hs

/-- The trunk link goes DOWN, whatever agreed before (R79). -/
theorem LanesAgree.agree_trunkDown (hs : LanesAgree up al fresh s) : LanesAgree false al fresh (trunkDown s) := by
  have hv := laneView_raise { s with trunkUp := false } (.device .trunkDown)
  have hdropped : LanesAgree false al fresh (dropLanes (raise (.device .trunkDown) { s with trunkUp := false })) := by
    refine ⟨trunkUp_of_view hv, fun l => ?_⟩
    have hal : ((raise (.device .trunkDown) { s with trunkUp := false }).lane l).aligned = al l :=
      (congrArg LaneRec.aligned (lane_of_view hv l) :).trans (hs.lane l).aligned
    exact hal ▸ laneAgrees_dropLanes _ l
  exact (hdropped.keeps_foldl (fun _ l ht => ht.keeps_trunkLoss (s.lane l)) _).keeps_judgeDevicePart

theorem lane_recoverDownLanes (s : State) (l : LaneNo) :
    (recoverDownLanes s).lane l = if (s.lane l).state = .down then (s.lane l).beginRecovery else s.lane l :=
  Table.read_mapAll _ _ _

/-- With the trunk UP again, a recovery begins on every DOWN lane (R80, R83). -/
theorem LaneAgrees.agree_recoverDownLanes {p : Prop} {a : Bool} {l : LaneNo} (h : LaneAgrees false a p s l) :
    LaneAgrees true a p (recoverDownLanes s) l := by
  obtain ⟨hrecord, haligned, hholder, hlisted⟩ := h
  have hstate : (s.lane l).state = .down ∨ (s.lane l).state = .disabled := hrecord.2.2
  by_cases hd : (s.lane l).state = .down
  · have hlane := (lane_recoverDownLanes s l).trans (if_pos hd)
    obtain ⟨-, -, hn, -⟩ := (recordAgrees_idle (by rw [hd]; rfl) (by simp [hd])).1 hrecord
    refine ⟨?_, ?_, fun i => ?_, fun g => (hlisted g).trans ?_⟩ <;> rw [hlane]
    · exact (recordAgrees_handshake rfl).2 ⟨rfl, congrArg Option.isSome hn, rfl, rfl, rfl, rfl⟩
    · exact haligned
    · exact hholder i
    · rw [if_neg (by simp [hd]), if_neg (by simp [LaneRec.beginRecovery, LaneRec.begin])]
  · have hlane := (lane_recoverDownLanes s l).trans (if_neg hd)
    refine ⟨?_, ?_, fun i => ?_, fun g => (hlisted g).trans ?_⟩ <;> rw [hlane]
    · exact ⟨hrecord.1, hrecord.2.1, hd⟩
    · exact haligned
    · exact hholder i

/-- The trunk link comes UP (R80, R162). -/
theorem LanesAgree.agree_trunkUp (hs : LanesAgree false al fresh s) : LanesAgree true al fresh (trunkUp s) where
  trunk := rfl
  lane l := by
    have hl : LaneAgrees false (al l) (fresh = some l) { s with trunkUp := true } l :=
      (hs.lane l).of_eq rfl (fun _ => .rfl) fun _ => rfl
    exact hl.agree_recoverDownLanes

/-- A lane's receive side gains or loses alignment (R162). -/
theorem LanesAgree.agree_aligned (hs : LanesAgree up al fresh s) (l : LaneNo) (b : Bool) :
    LanesAgree up (Function.update al l b) fresh
      (s.modLane l fun r => { r with aligned := b, failures := 0, passes := 0 }) where
  trunk := hs.trunk
  lane k := by
    by_cases hk : l = k
    · subst hk
      obtain ⟨hrecord, -, hholder, hlisted⟩ := hs.lane l
      rw [Function.update_self]
      refine ⟨?_, ?_, ?_, ?_⟩ <;> rw [lane_modLane_same]
      · exact hrecord
      · exact hholder
      · exact hlisted
    · rw [Function.update_of_ne (Ne.symm hk)]
      exact (hs.lane k).of_eq (congrArg bareRecord (lane_modLane_ne s hk _)) (fun _ => .rfl) fun _ => rfl

theorem allAligned_iff (s : State) : s.allAligned = true ↔ ∀ l, (s.lane l).aligned = true := Table.all_toList _ _

end control

/-! ### Slots, launches and the loss of the trunk -/

section slots
variable {up : Bool} {al : LaneNo → Bool} {fresh : Option LaneNo} {s : State}

/-- A cell that leaves ends a launch, which no agreement needs. -/
theorem LanesAgree.keeps_sendOnLane (hs : LanesAgree up al fresh s) (l : LaneNo) (c : Cell) :
    LanesAgree up al fresh (sendOnLane l c s) := by
  obtain ⟨⟨hout, hholder, hpaused, hhold, hp, hanswer, hcell, -⟩, hpending, htrunk⟩ := (hs.lane l).record
  exact hs.keeps_modLane l ⟨⟨hout, hholder, hpaused, hhold, hp, hanswer, hcell, nofun⟩, hpending, htrunk⟩
    ⟨rfl, rfl, rfl⟩ .rfl

/-- A control cell waits for a handshake's answer, whose deadline now runs (R61). -/
theorem LanesAgree.keeps_sendControl (hs : LanesAgree up al fresh s) {l : LaneNo} {c : ControlCell}
    (hc : (s.lane l).waitingCell = some c) : LanesAgree up al fresh (sendControl l c s) := by
  have hout : (s.lane l).outstanding.isSome = true := by
    obtain ⟨⟨-, -, -, -, -, -, hcell, -⟩, -⟩ := (hs.lane l).record
    exact hcell (by simp [hc])
  obtain ⟨kind, hkind⟩ := Option.isSome_iff_exists.1 hout
  have hh := inHandshake_of_awaits ((hs.awaits l).symm.trans hkind)
  obtain ⟨hup, hholder, hrequest, hhold, hpaused, hlaunch⟩ := hs.inHandshake hh
  refine LanesAgree.keeps_sendOnLane ?_ l _
  exact hs.keeps_modLane l
    ((recordAgrees_handshake (by exact hh)).2 ⟨hup, hholder, hrequest, hhold, hpaused, hlaunch⟩) ⟨rfl, rfl, rfl⟩ .rfl

/-- A launch begins on a BOUND lane, for its holder (R87). -/
theorem LanesAgree.keeps_beginLaunch (hs : LanesAgree up al fresh s) {l : LaneNo} {i : StreamNo}
    (hb : (s.lane l).state = .bound) (hi : (s.lane l).holder = some i) :
    LanesAgree up al fresh (beginLaunch l i s) := by
  obtain ⟨hup, hholder, hout, hanswer, hpending, hcell, -⟩ := hs.bound hb
  refine hs.keeps_modLane l ((recordAgrees_bound (by exact hb)).2 ⟨hup, hholder, hout, hanswer, hpending, hcell, ?_⟩)
    ⟨rfl, rfl, rfl⟩ .rfl
  rintro j ⟨⟩
  exact hi

theorem LanesAgree.keeps_launchCell (hs : LanesAgree up al fresh s) (l : LaneNo) (i : StreamNo) :
    LanesAgree up al fresh (launchCell l i s) := by
  have htaken := hs.keeps_takeHead i
  unfold launchCell
  split
  · next heq =>
    rw [heq] at htaken
    exact htaken.keeps_sendOnLane l _
  · next c t heq =>
    rw [heq] at htaken
    have hjudged : LanesAgree up al fresh (if (t.stream i).queue.isEmpty then judgeDrain i t else t) := by
      split
      · exact htaken.keeps_judgeDrain i
      · exact htaken
    exact (hjudged.keeps_sendOnLane l _).keeps_modStream i

theorem LanesAgree.keeps_launchCredit (hs : LanesAgree up al fresh s) (l : LaneNo) (i : StreamNo) :
    LanesAgree up al fresh (launchCredit l i s) := by
  have hclaimed := hs.keeps_consumeCredit i
  unfold launchCredit
  split
  · next heq =>
    rw [heq] at hclaimed
    exact hclaimed.keeps_sendOnLane l _
  · next heq =>
    rw [heq] at hclaimed
    exact hclaimed.keeps_launchCell l i

theorem bound_of_launchable {r : LaneRec} {h : StreamRec} {b : Bool} (hl : launchable b r h = true) :
    r.state = .bound := by
  simp only [launchable, launchLane, Bool.and_eq_true, beq_iff_eq] at hl
  obtain ⟨⟨⟨⟨⟨-, hb⟩, -⟩, -⟩, -⟩, -⟩ := hl
  exact hb

theorem LanesAgree.keeps_readSlot (hs : LanesAgree up al fresh s) (l : LaneNo) :
    LanesAgree up al fresh (readSlot l s) := by
  unfold readSlot
  dsimp only [takeTurn_eq]
  split
  · split
    · next hc => exact hs.keeps_sendControl hc
    · next i _ hi =>
      split
      · next hl =>
        have hbegun := hs.keeps_dropTurn.keeps_beginLaunch (bound_of_launchable hl) hi
        split
        · exact hbegun
        · exact hbegun.keeps_launchCredit l i
      · exact hs.keeps_sendOnLane l _
    · exact hs.keeps_sendOnLane l _
  · exact hs.keeps_sendOnLane l _

theorem LanesAgree.keeps_laneSlot (hs : LanesAgree up al fresh s) (l : LaneNo) :
    LanesAgree up al fresh (laneSlot l s) := by
  unfold laneSlot
  split
  · split
    · exact hs.keeps_launchCredit l _
    · exact hs.keeps_readSlot l
  · exact hs.keeps_readSlot l

theorem LanesAgree.keeps_chargeLaunches (hs : LanesAgree up al fresh s) (flights : List (LaneNo × StreamNo)) :
    LanesAgree up al fresh (chargeLaunches flights s).2 := by
  induction flights generalizing s with
  | nil => exact hs
  | cons f fs ih =>
    unfold chargeLaunches
    dsimp only [takeTurn_eq]
    split
    · exact ih hs
    · split
      · exact ih (hs.keeps_dropTurn.keeps_consumeCredit f.2)
      · exact ih hs.keeps_dropTurn

theorem LanesAgree.keeps_endLaunch (hs : LanesAgree up al fresh s) (charged : List (LaneNo × StreamNo))
    (f : LaneNo × StreamNo) : LanesAgree up al fresh (endLaunch charged s f) := by
  unfold endLaunch
  split
  · exact hs.keeps_launchCell f.1 f.2
  · split
    · exact hs.keeps_sendOnLane f.1 _
    · exact hs

/-- An event among the claims of launches, which may take the trunk link down. -/
theorem LanesAgree.keeps_duringLaunches {up' : Bool} {event : State → State} (hs : LanesAgree up al fresh s)
    (which : StreamNo → Bool) (hevent : ∀ t, LanesAgree up al fresh t → LanesAgree up' al fresh (event t)) :
    LanesAgree up' al fresh (duringLaunches which event s) :=
  (hevent _ (hs.keeps_chargeLaunches _)).keeps_foldl (fun _ f ht => ht.keeps_endLaunch _ f) _

theorem LanesAgree.keeps_beforeCredit {event : State → State} (hs : LanesAgree up al fresh s)
    (which : StreamNo → Bool) (hevent : ∀ t, LanesAgree up al fresh t → LanesAgree up al fresh (event t)) :
    LanesAgree up al fresh (beforeCredit which event s) :=
  (hevent s hs).keeps_foldl (fun _ f ht => ht.keeps_endLaunch _ f) _

theorem LanesAgree.agree_loseTrunk (hs : LanesAgree up al fresh s) : LanesAgree false al fresh (loseTrunk s) :=
  hs.keeps_duringLaunches _ fun _ ht =>
    ht.keeps_duringPass (fun _ hu => hu.agree_trunkDown) fun u => .inl (Arbiter.trunkDown_noFreeLane u)

end slots

/-! ### Edge ports and admission -/

section edge
variable {up : Bool} {al : LaneNo → Bool} {fresh : Option LaneNo} {s : State}

theorem LanesAgree.keeps_modPort (hs : LanesAgree up al fresh s) (p : PortNo) (f : PortRec → PortRec) :
    LanesAgree up al fresh (s.modPort p f) := hs.of_view rfl

theorem LanesAgree.keeps_edgeSlot (hs : LanesAgree up al fresh s) (p : PortNo) :
    LanesAgree up al fresh (edgeSlot p s) := by
  unfold edgeSlot
  dsimp only
  split
  · split
    · exact hs.of_view rfl
    · split
      · split
        · exact hs.of_view rfl
        · exact hs.of_view rfl
      · exact hs.of_view rfl
  · exact hs

theorem LanesAgree.keeps_misrouted (hs : LanesAgree up al fresh s) (p : PortNo) (i : StreamNo) :
    LanesAgree up al fresh (misrouted p i s) := (hs.keeps_modPort p _).keeps_raise _

theorem LanesAgree.keeps_queueDropped (hs : LanesAgree up al fresh s) (i : StreamNo) :
    LanesAgree up al fresh (queueDropped i s) := (hs.keeps_modStream i).keeps_raise _

theorem LanesAgree.keeps_duplicateDropped (hs : LanesAgree up al fresh s) (i : StreamNo) :
    LanesAgree up al fresh (duplicateDropped i s) := (hs.keeps_modStream i).keeps_raise _

theorem LanesAgree.keeps_admitted (hs : LanesAgree up al fresh s) (gap : Bool) (i : StreamNo) :
    LanesAgree up al fresh (admitted gap i s) := by
  unfold admitted
  dsimp only
  split
  · exact ((hs.keeps_modStream i).keeps_modStream i).keeps_raise _
  · exact hs.keeps_modStream i

theorem LanesAgree.keeps_offerCell (hs : LanesAgree up al fresh s) (p : PortNo) (a : Arrival) :
    LanesAgree up al fresh (offerCell p a s) := by
  unfold offerCell
  dsimp only
  split
  · exact (hs.keeps_appendCell _ _).keeps_admitted _ _
  · exact hs.keeps_queueDropped _
  · exact hs.keeps_queueDropped _
  · exact hs.keeps_misrouted p _

theorem LanesAgree.keeps_offerArrival (hs : LanesAgree up al fresh s) (p : PortNo) (a : Arrival) :
    LanesAgree up al fresh (offerArrival p a s) := (hs.keeps_modPort p _).keeps_offerCell p a

theorem LanesAgree.keeps_admitArrival (hs : LanesAgree up al fresh s) (p : PortNo) (c : TrafficCell) :
    LanesAgree up al fresh (admitArrival p c s) := by
  unfold admitArrival
  dsimp only [takeTurn_eq]
  split
  · exact hs.keeps_misrouted p _
  · split
    · exact hs.keeps_misrouted p _
    · split
      · exact hs.keeps_duplicateDropped _
      · have hsettled := ((hs.keeps_modStream c.stream
          (f := fun r => { r with expected := some (c.sequence + 1) })).keeps_dropTurn)
        split
        · exact hsettled.keeps_modPort p _
        · exact (hsettled.keeps_modPort p _).keeps_offerArrival p _

theorem LanesAgree.keeps_onEdgeCell (hs : LanesAgree up al fresh s) (p : PortNo) {take : State → State}
    (htake : ∀ t, LanesAgree up al fresh t → LanesAgree up al fresh (take t)) :
    LanesAgree up al fresh (onEdgeCell p take s) := by
  unfold onEdgeCell
  split
  · exact htake _ (hs.keeps_modPort p _)
  · exact hs.keeps_modPort p _

theorem LanesAgree.keeps_trafficCell (hs : LanesAgree up al fresh s) (p : PortNo) (c : TrafficCell) :
    LanesAgree up al fresh (trafficCell p c s) := by
  unfold trafficCell
  dsimp only
  split
  · next a _ =>
    split
    · exact hs.keeps_offerArrival p a
    · exact (hs.keeps_offerArrival p a).keeps_onEdgeCell p fun _ ht => ht.keeps_admitArrival p c
  · exact hs.keeps_onEdgeCell p fun _ ht => ht.keeps_admitArrival p c

theorem LanesAgree.keeps_edgeLinkUp (hs : LanesAgree up al fresh s) (p : PortNo) :
    LanesAgree up al fresh (edgeLinkUp p s) := by
  unfold edgeLinkUp
  split
  · exact hs.keeps_modPort p _
  · exact hs

theorem laneView_admissionLoss (s : State) (p : PortNo) : laneView (admissionLoss p s) = laneView s :=
  laneView_mapStreams s fun r => by split <;> rfl

theorem LanesAgree.keeps_edgeLinkDown (hs : LanesAgree up al fresh s) (p : PortNo) :
    LanesAgree up al fresh (edgeLinkDown p s) := by
  unfold edgeLinkDown
  dsimp only
  split
  · refine LanesAgree.of_view ?_ (laneView_admissionLoss _ p)
    exact ((hs.keeps_modPort p _).keeps_raise _).of_view rfl
  · exact hs

theorem LanesAgree.keeps_badKind (hs : LanesAgree up al fresh s) (p : PortNo) : LanesAgree up al fresh (badKind p s) :=
  (hs.keeps_modPort p _).keeps_raise _

theorem LanesAgree.keeps_failedEdgeCell (hs : LanesAgree up al fresh s) (p : PortNo) :
    LanesAgree up al fresh (failedEdgeCell p s) := by
  unfold failedEdgeCell
  dsimp only
  split
  · split
    · exact ((hs.keeps_modPort p _).keeps_raise _).keeps_edgeLinkDown p
    · exact (hs.keeps_modPort p _).keeps_raise _
  · exact hs.keeps_modPort p _

theorem LanesAgree.keeps_requestArrival (hs : LanesAgree up al fresh s) (p : PortNo) (q : Request) :
    LanesAgree up al fresh (requestArrival p q s) := by
  unfold requestArrival
  dsimp only
  split
  · exact hs.keeps_modPort p _
  · split
    · exact hs.keeps_modPort p _
    · exact hs.keeps_raise _

end edge

/-! ### The agent and its commands -/

section agent
variable {up : Bool} {al : LaneNo → Bool} {fresh : Option LaneNo} {s : State}

theorem LanesAgree.keeps_conclude (hs : LanesAgree up al fresh s) (p : PortNo) (q : Request) {act : Action}
    (hact : ∀ t, LanesAgree up al fresh t → LanesAgree up al fresh (act t).2) :
    LanesAgree up al fresh (conclude p q act s) := by
  have hclaimed := hact s hs
  unfold conclude
  split
  · next heq =>
    rw [heq] at hclaimed
    exact hclaimed.of_view (laneView_respond _ p q _)
  · next heq =>
    rw [heq] at hclaimed
    exact hclaimed.of_view rfl

theorem LanesAgree.keeps_claimOnly (hs : LanesAgree up al fresh s) (p : PortNo) {act : Action}
    (hact : ∀ t, LanesAgree up al fresh t → LanesAgree up al fresh (act t).2) :
    LanesAgree up al fresh (claimOnly p act s) := by
  have hclaimed := hact s hs
  unfold claimOnly
  split
  · next heq =>
    rw [heq] at hclaimed
    exact hclaimed.of_view rfl
  · next heq =>
    rw [heq] at hclaimed
    exact hclaimed.of_view rfl

theorem LanesAgree.keeps_startExecution (hs : LanesAgree up al fresh s) (p : PortNo) (q : Request) {act : Action}
    (hact : ∀ t, LanesAgree up al fresh t → LanesAgree up al fresh (act t).2) :
    LanesAgree up al fresh (startExecution p q act s) := by
  unfold startExecution
  dsimp only [takeTurn_eq]
  split
  · split
    · exact hs.keeps_dropTurn.keeps_claimOnly p hact
    · exact hs.keeps_dropTurn
  · exact hs.keeps_dropTurn.keeps_conclude p q hact

theorem LanesAgree.keeps_serve (hs : LanesAgree up al fresh s) (row : Request → Bool) {body : Body}
    (hbody : ∀ p q, Arbiter.KeepsAction (LanesAgree up al fresh) (body p q)) :
    LanesAgree up al fresh (serve row body s) := by
  have taken (p : PortNo) (q : Request) : LanesAgree up al fresh (takeRequest p q s) := hs.of_view rfl
  unfold serve takeAndCheck goOn
  dsimp only
  split
  · split
    · split
      · exact hs.of_view (laneView_respond _ _ _ _)
      · split
        · exact hs.of_view (laneView_respond _ _ _ _)
        · next hact => exact hs.keeps_claimOnly _ (hbody _ _ _ hact)
    · exact hs
  · split
    · next p q _ =>
      split
      · split
        · exact (taken p q).of_view (laneView_refuseRequest _ _ _ _)
        · split
          · exact (taken p q).of_view (laneView_refuseRequest _ _ _ _)
          · next hact => exact (taken p q).keeps_startExecution p q (hbody p q _ hact)
      · exact hs
    · exact hs

theorem LanesAgree.keeps_timerControl (hs : LanesAgree up al fresh s) (i : StreamNo) {f : StreamRec → StreamRec}
    (hf : ∀ r, (f r).heldLane = r.heldLane) : LanesAgree up al fresh (timerControl i f s).2 := by
  unfold timerControl
  split
  · exact hs
  · exact hs.keeps_changePacing i hf

theorem LanesAgree.keeps_presetTimer (hs : LanesAgree up al fresh s) (clear : Bool) (i : StreamNo) :
    LanesAgree up al fresh (presetTimer clear i s).2 := by
  unfold presetTimer
  split
  · exact hs
  · exact hs.keeps_beforeCredit _ fun _ ht => ht.keeps_changePacing i

theorem LanesAgree.keeps_discardClose (hs : LanesAgree up al fresh s) (i : StreamNo) :
    LanesAgree up al fresh (discardClose i s).2 := hs.keeps_duringLaunches _ fun _ ht => ht.keeps_closeDiscard i

theorem LanesAgree.keeps_stageDevice (hs : LanesAgree up al fresh s) (img : Option DeviceParams) :
    LanesAgree up al fresh (stageDevice img s).2 := by
  cases img with
  | none => exact hs
  | some d => exact hs.of_view rfl

theorem LanesAgree.keeps_stagePort (hs : LanesAgree up al fresh s) (p : PortNo) (img : Option PortRecord) :
    LanesAgree up al fresh (stagePort p img s).2 := by
  cases img with
  | none => exact hs
  | some r => exact hs.of_view rfl

theorem LanesAgree.keeps_stageStream (hs : LanesAgree up al fresh s) (i : StreamNo) (img : Option StreamImage) :
    LanesAgree up al fresh (stageStream i img s).2 := by
  cases img with
  | none => exact hs
  | some m => exact hs.of_view (laneView_modStream s i fun _ => rfl)

theorem LanesAgree.keeps_discardDevice (hs : LanesAgree up al fresh s) : LanesAgree up al fresh (discardDevice s) := by
  unfold discardDevice
  dsimp only
  split
  · refine LanesAgree.keeps_callPass ?_
    exact hs.of_view rfl
  · exact hs.of_view rfl

theorem laneView_discardImages (s : State) :
    laneView { s with
      streams := s.streams.mapAll StreamRec.discarded
      ports := s.ports.mapAll fun r => { r with staged := none } } = laneView s :=
  laneView_mapStreams s fun _ => rfl

theorem LanesAgree.keeps_discard (hs : LanesAgree up al fresh s) (scope : DiscardScope) :
    LanesAgree up al fresh (discard scope s).2 := by
  cases scope with
  | stream i => exact LanesAgree.of_view (hs.keeps_modStream i) (laneView_judgeCompletion _)
  | device => exact hs.keeps_discardDevice.of_view (laneView_judgeCompletion _)
  | port p => exact hs.of_view rfl
  | all =>
    refine LanesAgree.of_view (LanesAgree.keeps_discardDevice ?_) (laneView_judgeCompletion _)
    exact hs.of_view (laneView_discardImages s)

theorem LanesAgree.keeps_commitFree (hs : LanesAgree up al fresh s) (i : StreamNo) :
    LanesAgree up al fresh (commitFree i s) := by
  unfold commitFree
  split
  · exact hs.of_view (laneView_applyRecord s i _)
  · exact hs

theorem LanesAgree.keeps_commitDevice (hs : LanesAgree up al fresh s) (quiet : Bool) :
    LanesAgree up al fresh (commitDevice quiet s) := by
  unfold commitDevice
  split
  · exact hs
  · split
    · exact hs.of_view rfl
    · exact hs.of_view rfl

theorem LanesAgree.keeps_commitClaims (hs : LanesAgree up al fresh s) (free holders : List StreamNo)
    (deviceApplied : Bool) : LanesAgree up al fresh (commitClaims free holders deviceApplied s) := by
  have hjudged := hs.keeps_foldl (fun _ i ht => ht.keeps_judgeHeld i) holders
  refine LanesAgree.keeps_foldl ?_ (fun _ i ht => ht.keeps_demandChanged i) _
  split
  · exact hjudged.keeps_callPass
  · exact hjudged

theorem LanesAgree.keeps_takeCommit (hs : LanesAgree up al fresh s) (p : PortNo) (q : Request) (scope : CommitScope) :
    LanesAgree up al fresh (takeCommit p q scope s).2 := by
  unfold takeCommit
  split
  · exact hs
  · split
    · exact hs
    · extract_lets quiet named free holders opened t₁ t₂ t₃ t₄ t₅ deviceApplied
      have hopened : LanesAgree up al fresh t₁ := hs.of_view rfl
      have hports : LanesAgree up al fresh t₂ := by
        simp only [t₂]
        split
        · exact hopened.of_view rfl
        · exact hopened
      have hfree : LanesAgree up al fresh t₃ := hports.keeps_foldl (fun _ i ht => ht.keeps_commitFree i) _
      have hholders : LanesAgree up al fresh t₄ :=
        hfree.keeps_foldl (fun _ i ht => (ht.keeps_modStream i).of_view (laneView_modRecord _ _)) _
      have hdevice : LanesAgree up al fresh t₅ := by
        simp only [t₅]
        split
        · exact hholders.keeps_commitDevice quiet
        · exact hholders
      split
      · split
        · refine LanesAgree.keeps_commitClaims ?_ _ _ _
          exact hdevice.of_view rfl
        · exact hdevice.keeps_commitClaims _ _ _
      · exact hdevice

/-! #### RESTART -/

theorem restartLife_heldLane (r : StreamRec) : (restartLife r).heldLane = r.heldLane := by
  unfold restartLife
  split <;> rfl

theorem restartImage_heldLane (now : PaceCount) (interval : Nat) (r : StreamRec) :
    (restartImage now interval r).heldLane = r.heldLane := by
  unfold restartImage
  split <;> rfl

theorem laneView_restartCommit (s : State) : laneView (restartCommit s) = laneView s := by
  unfold restartCommit
  extract_lets before t₁ t₂ t₃
  have hstreams : laneView t₂ = laneView s := laneView_mapStreams s (restartImage_heldLane _ _)
  have hdevice : laneView t₃ = laneView s := by
    simp only [t₃]
    split
    · exact (laneView_applyDevice _ _).trans hstreams
    · exact hstreams
  split
  · exact (laneView_closeRecord _ _ _ _).trans hdevice
  · exact hdevice

theorem laneView_restartNotices (s : State) : laneView (restartNotices s) = laneView s := laneView_sansNotices s

/-- Between the dropping of the lanes and the recoveries, a restart leaves what the lanes agree about (R155). -/
theorem laneView_restart (s : State) :
    laneView (restartNotices (restartCommit (restartStreams (restartQueues (restartArbiter s))))) = laneView s := by
  have hlife (t : State) : laneView (restartStreams t) = laneView t :=
    laneView_mapStreams t fun r => (restartLife_heldLane r :)
  have hqueues (t : State) : laneView (restartQueues t) = laneView t := laneView_mapStreams t fun _ => rfl
  have harbiter (t : State) : laneView (restartArbiter t) = laneView t := laneView_mapStreams t fun _ => rfl
  rw [laneView_restartNotices, laneView_restartCommit, hlife, hqueues, harbiter]

theorem LanesAgree.keeps_deviceRestart (hs : LanesAgree up al fresh s) :
    LanesAgree up al fresh (deviceRestart s) := by
  have hv := laneView_restart (dropLanes s)
  unfold deviceRestart restartRecoveries
  generalize restartNotices (restartCommit (restartStreams (restartQueues (restartArbiter (dropLanes s))))) = t at hv
  have hup : t.trunkUp = up := (trunkUp_of_view hv).trans hs.trunk
  have hdropped (l : LaneNo) : LaneAgrees false (al l) (fresh = some l) t l :=
    LaneAgrees.of_view ((hs.lane l).aligned ▸ laneAgrees_dropLanes s l) hv
  split
  · next h =>
    obtain rfl : up = true := hup.symm.trans h
    exact ⟨hup, fun l => (hdropped l).agree_recoverDownLanes⟩
  · next h =>
    obtain rfl : up = false := hup.symm.trans (Bool.not_eq_true _ ▸ h)
    exact ⟨hup, hdropped⟩

end agent

/-! ### The trunk's cells and the gain and loss of alignment -/

section trunk
variable {up : Bool} {al : LaneNo → Bool} {fresh : Option LaneNo} {s : State} {l : LaneNo}

theorem LanesAgree.keeps_failures (hs : LanesAgree up al fresh s) (l : LaneNo) (n : LaneRec → Nat) :
    LanesAgree up al fresh (s.modLane l fun r => { r with failures := n r }) :=
  hs.of_view (laneView_modLane s l (by intro; rfl))

theorem LanesAgree.keeps_passes (hs : LanesAgree up al fresh s) (l : LaneNo) (n : LaneRec → Nat) :
    LanesAgree up al fresh (s.modLane l fun r => { r with passes := n r }) :=
  hs.of_view (laneView_modLane s l (by intro; rfl))

theorem LanesAgree.keeps_onTrunkCell (hs : LanesAgree up al fresh s) (l : LaneNo) {take : State → State}
    (htake : ∀ t, LanesAgree up al fresh t → LanesAgree up al fresh (take t)) :
    LanesAgree up al fresh (onTrunkCell l take s) := by
  unfold onTrunkCell
  dsimp only
  split
  · split
    · exact htake _ (hs.keeps_failures l _)
    · exact hs.keeps_failures l _
  · exact hs.keeps_passes l _

theorem LanesInv.of_agree {t : State} (hs : LanesInv s)
    (h : ∀ {up : Bool} {al : LaneNo → Bool}, LanesAgree up al none s → LanesAgree up al none t) : LanesInv t := by
  obtain ⟨up, al, hagree, hal⟩ := hs
  exact ⟨up, al, h hagree, hal⟩

/-- The last lane that gains alignment takes the trunk UP (R80, R162). -/
theorem LanesInv.keeps_alignLane (hs : LanesInv s) (l : LaneNo) : LanesInv (alignLane l s) := by
  obtain ⟨up, al, hagree, hal⟩ := hs
  unfold alignLane
  dsimp only
  split
  · exact ⟨up, al, hagree, hal⟩
  · next hl =>
    have hup : up = false := by
      refine Bool.not_eq_true _ ▸ fun h => hl ?_
      exact (hagree.lane l).aligned.trans (hal.1 h l)
    subst hup
    split
    · have ht := hagree.agree_aligned l true
      have hall : (s.modLane l fun r => { r with aligned := true, failures := 0, passes := 0 }).allAligned = true ↔
          ∀ k, Function.update al l true k = true := by
        rw [allAligned_iff]
        exact forall_congr' fun k => by rw [(ht.lane k).aligned]
      split
      · next h =>
        rw [Bool.and_eq_true, hall] at h
        exact ⟨true, _, ht.agree_trunkUp, iff_of_true rfl h.1⟩
      · next h =>
        rw [Bool.and_eq_true, hall, ht.trunk] at h
        exact ⟨false, _, ht, iff_of_false Bool.false_ne_true fun hk => h ⟨hk, rfl⟩⟩
    · exact ⟨false, al, hagree, hal⟩

/-- A lane that loses alignment takes an UP trunk DOWN (R79, R162). -/
theorem LanesInv.keeps_loseAlignment (hs : LanesInv s) (l : LaneNo) : LanesInv (loseAlignment l s) := by
  obtain ⟨up, al, hagree, hal⟩ := hs
  have ht := hagree.agree_aligned l false
  have hnot : false = true ↔ ∀ k, Function.update al l false k = true :=
    iff_of_false Bool.false_ne_true fun h => by simpa using h l
  unfold loseAlignment
  dsimp only
  split
  · split
    · exact ⟨false, _, ht.agree_loseTrunk, hnot⟩
    · next h =>
      rw [ht.trunk, Bool.not_eq_true] at h
      subst h
      exact ⟨false, _, ht, hnot⟩
  · exact ⟨up, al, hagree, hal⟩

theorem LanesInv.keeps_failedTrunkCell (hs : LanesInv s) (l : LaneNo) : LanesInv (failedTrunkCell l s) := by
  have hcounted : LanesInv (s.modLane l fun r => { r with failures := r.failures + 1 }) :=
    hs.of_agree fun h => h.keeps_failures l _
  unfold failedTrunkCell
  dsimp only
  split
  · split
    · exact hcounted.keeps_loseAlignment l
    · exact hcounted
  · exact hs.of_agree fun h => h.keeps_passes l _

/-- At power-on reset every lane is DOWN and HUNTING, and so is the trunk (R56, R162). -/
theorem lanesInv_powerOnState (pin : Bool) (s : State) : LanesInv (powerOnState pin s) := by
  have hlane (l : LaneNo) : (powerOnState pin s).lane l = LaneRec.reset (resetGroupMap.read l) :=
    Table.read_mapAll _ _ _
  have hstream (i : StreamNo) : (powerOnState pin s).stream i = .reset := Table.read_const _ _
  have hlist (g : GroupNo) : (powerOnState pin s).freeLanes.read g = [] := Table.read_const _ _
  refine ⟨false, fun _ => false, ⟨rfl, fun l => ⟨?_, ?_, fun i => ?_, fun g => ?_⟩⟩,
    iff_of_false Bool.false_ne_true fun h => Bool.false_ne_true (h 0)⟩
  · rw [hlane]
    exact (recordAgrees_idle rfl (by simp [LaneRec.reset])).2 ⟨.inl rfl, rfl, rfl, rfl, rfl, rfl, rfl, rfl, rfl⟩
  · rw [hlane]
    rfl
  · rw [hlane, hstream]
    simp [LaneRec.reset, StreamRec.reset]
  · rw [hlane, hlist]
    simp [LaneRec.reset]

end trunk

/-! ### Every command keeps the agreement -/

section commands
variable {up : Bool} {al : LaneNo → Bool} {s t : State}

theorem LanesAgree.keeps_holdExpiry (hs : LanesAgree up al none s) (l : LaneNo) :
    LanesAgree up al none (holdExpiry l s) := by
  unfold holdExpiry
  split
  · exact hs.keeps_startRelease l
  · exact hs

theorem LanesAgree.keeps_answerExpiry (hs : LanesAgree up al none s) (l : LaneNo) :
    LanesAgree up al none (answerExpiry l s) := by
  unfold answerExpiry
  split
  · exact hs.keeps_answerTimeout l
  · exact hs

theorem LanesAgree.keeps_settleExpiry (hs : LanesAgree up al none s) (i : StreamNo) :
    LanesAgree up al none (settleExpiry i s) := by
  unfold settleExpiry
  split
  · exact (hs.keeps_modStream i).keeps_notify _ i
  · exact hs

theorem LanesAgree.keeps_commitExpiry (hs : LanesAgree up al none s) : LanesAgree up al none (commitExpiry s) := by
  unfold commitExpiry
  split
  · split
    · exact (hs.of_view (laneView_closeRecord s _ _ _)).keeps_raise _
    · exact hs
  · exact hs

theorem LanesAgree.keeps_budgetAgeOut (hs : LanesAgree up al none s) : LanesAgree up al none (budgetAgeOut s) := by
  unfold budgetAgeOut
  split
  · split
    · refine LanesAgree.keeps_pass ?_
      exact hs.of_view rfl
    · exact hs
  · exact hs

theorem LanesAgree.keeps_spacingExpiry (hs : LanesAgree up al none s) : LanesAgree up al none (spacingExpiry s) := by
  unfold spacingExpiry
  split
  · refine LanesAgree.keeps_pass ?_
    exact hs.of_view rfl
  · exact hs

theorem LanesAgree.keeps_imageApplication (hs : LanesAgree up al none s) (i : StreamNo) :
    LanesAgree up al none (imageApplication i s) := by
  unfold imageApplication
  dsimp only
  split
  · exact (hs.of_view (laneView_commitLoss s i)).keeps_demandChanged i
  · exact hs

theorem LanesInv.keeps_atStroke {f : State → State}
    (hf : ∀ {up al u}, LanesAgree up al none u → LanesAgree up al none (f u)) :
    atStroke f s = .next t → LanesInv s → LanesInv t :=
  Arbiter.StepInvariant.keeps_atStroke fun hu => hu.of_agree hf

theorem LanesInv.keeps_running_of_inv {f : State → State} (hf : ∀ {u}, LanesInv u → LanesInv (f u)) :
    running f s = .next t → LanesInv s → LanesInv t :=
  Arbiter.StepInvariant.keeps_atStroke fun hu => hf (hu.of_agree fun h => h.keeps_countFirst)

theorem LanesInv.keeps_running {f : State → State}
    (hf : ∀ {up al u}, LanesAgree up al none u → LanesAgree up al none (f u)) :
    running f s = .next t → LanesInv s → LanesInv t := keeps_running_of_inv fun hu => hu.of_agree hf

theorem LanesInv.keeps_running_serve {row : Request → Bool} {body : Body}
    (hbody : ∀ {up al} p q, Arbiter.KeepsAction (LanesAgree up al none) (body p q)) :
    running (serve row body) s = .next t → LanesInv s → LanesInv t :=
  keeps_running fun hu => hu.keeps_serve row hbody

theorem keepsAction_bodyDiscard (p : PortNo) (q : Request) :
    Arbiter.KeepsAction (LanesAgree up al none) (bodyDiscard p q) := by
  unfold bodyDiscard
  split
  · exact Arbiter.keepsAction_answering fun _ h => h.keeps_discard _
  · exact Arbiter.keepsAction_error _

theorem keepsAction_bodyCommit (p : PortNo) (q : Request) :
    Arbiter.KeepsAction (LanesAgree up al none) (bodyCommit p q) := by
  unfold bodyCommit
  split
  · exact Arbiter.keepsAction_ok fun _ h => h.keeps_takeCommit p q _
  · exact Arbiter.keepsAction_error _

open Arbiter in
/-- Every command keeps the agreement of the lanes and of the trunk link. -/
theorem LanesInv.keeps_exec (c : Instr) : exec c s = .next t → LanesInv s → LanesInv t := by
  cases c with
  | powerOnReset => rintro ⟨⟩ _; exact lanesInv_powerOnState false s
  | resetPinAsserted => rintro ⟨⟩ _; exact lanesInv_powerOnState true s
  | stroke => exact keeps_atStroke fun h => h.keeps_stroke
  | answerDeadlineExpiry l => exact keeps_atStroke fun h => h.keeps_answerExpiry l
  | holdDeadlineExpiry l => exact keeps_atStroke fun h => h.keeps_holdExpiry l
  | settleDeadlineExpiry i => exact keeps_atStroke fun h => h.keeps_settleExpiry i
  | commitDeadlineExpiry => exact keeps_atStroke fun h => h.keeps_commitExpiry
  | budgetEntryAgeOut => exact keeps_atStroke fun h => h.keeps_budgetAgeOut
  | spacingExpiry => exact keeps_atStroke fun h => h.keeps_spacingExpiry
  | arbiterPass => exact keeps_running fun h => h.keeps_pass
  | laneSlot l => exact keeps_running fun h => h.keeps_laneSlot l
  | drainCompletion i => exact keeps_running fun h => h.keeps_judgeDrain i
  | edgeSlot p => exact keeps_running fun h => h.keeps_edgeSlot p
  | edgeLinkUp p => exact keeps_running fun h => h.keeps_edgeLinkUp p
  | edgeLinkDown p => exact keeps_running fun h => h.keeps_edgeLinkDown p
  | laneAligned l => exact keeps_running_of_inv fun h => h.keeps_alignLane l
  | laneAlignmentLost l => exact keeps_running_of_inv fun h => h.keeps_loseAlignment l
  | trafficCellArrival p c => exact keeps_running fun h => h.keeps_trafficCell p c
  | requestCellArrival p q => exact keeps_running fun h => h.keeps_onEdgeCell p fun _ ht => ht.keeps_requestArrival p q
  | edgeFillCell p => exact keeps_running fun h => h.keeps_onEdgeCell p fun _ ht => ht
  | edgeBadKindCell p kind => exact keeps_running fun h => h.keeps_onEdgeCell p fun _ ht => ht.keeps_badKind p
  | edgeBadCheckCell p => exact keeps_running fun h => h.keeps_failedEdgeCell p
  | bindAckAccept l tag =>
    exact keeps_running fun h => h.keeps_onTrunkCell l fun _ ht =>
      ht.keeps_takeAnswer .bind l tag (ht.keeps_bindAcceptMatched l)
  | bindAckRefuse l tag =>
    exact keeps_running fun h => h.keeps_onTrunkCell l fun _ ht =>
      ht.keeps_takeAnswer .bind l tag (ht.keeps_bindRefuseMatched l)
  | bindAckUnknownCode l tag code =>
    exact keeps_running fun h => h.keeps_onTrunkCell l fun _ ht => ht.keeps_takeUnknownAnswer l tag
  | releaseAck l tag =>
    exact keeps_running fun h => h.keeps_onTrunkCell l fun _ ht =>
      ht.keeps_takeAnswer .release l tag (ht.keeps_releaseAckMatched l)
  | resetAck l tag =>
    exact keeps_running fun h => h.keeps_onTrunkCell l fun _ ht =>
      ht.keeps_takeAnswer .laneReset l tag (ht.keeps_resetAckMatched l)
  | pause l tag => exact keeps_running fun h => h.keeps_onTrunkCell l fun _ ht => ht.keeps_takePause true l tag
  | resume l tag => exact keeps_running fun h => h.keeps_onTrunkCell l fun _ ht => ht.keeps_takePause false l tag
  | trunkOtherKindCell l kind => exact keeps_running fun h => h.keeps_onTrunkCell l fun _ ht => ht.keeps_strayCell l
  | trunkFillCell l => exact keeps_running fun h => h.keeps_onTrunkCell l fun _ ht => ht
  | trunkBadCheckCell l => exact keeps_running_of_inv fun h => h.keeps_failedTrunkCell l
  | disablePendingApplied l => exact keeps_running fun h => (h.applyPendingDisable_eq l).symm ▸ h
  | streamImageApplication i => exact keeps_running fun h => h.keeps_imageApplication i
  | deviceApplication => exact keeps_running fun h => h.keeps_judgeDevicePart
  | commitResponse => exact keeps_running fun h => h.of_view (laneView_takeCommitAnswer _)
  | readDevice => exact keeps_running_serve fun _ _ => keepsAction_withPart _
  | readPort => exact keeps_running_serve fun _ _ => keepsAction_withTarget fun _ => keepsAction_withPart _
  | readLane => exact keeps_running_serve fun _ _ => keepsAction_withTarget fun _ => keepsAction_withPart _
  | readStream => exact keeps_running_serve fun _ _ => keepsAction_withTarget fun _ => keepsAction_withPart _
  | readNotices => exact keeps_running_serve fun _ _ => keepsAction_withTarget fun _ => keepsAction_reading _
  | stageDevice =>
    exact keeps_running_serve fun _ _ => keepsAction_answering fun _ h => h.keeps_stageDevice _
  | stagePort =>
    exact keeps_running_serve fun _ _ => keepsAction_withTarget fun p =>
      keepsAction_answering fun _ h => h.keeps_stagePort p _
  | stageStream =>
    exact keeps_running_serve fun _ _ => keepsAction_withTarget fun i =>
      keepsAction_answering fun _ h => h.keeps_stageStream i _
  | discard => exact keeps_running_serve keepsAction_bodyDiscard
  | commit => exact keeps_running_serve keepsAction_bodyCommit
  | openStream =>
    exact keeps_running_serve fun _ _ => keepsAction_withTarget fun i =>
      keepsAction_answering fun _ h => h.keeps_openStream i
  | closeStream =>
    exact keeps_running_serve fun _ _ => keepsAction_withTarget fun i => keepsAction_withSelector
      (keepsAction_answering fun _ h => h.keeps_closePlain i)
  | closeStreamDiscard =>
    exact keeps_running_serve fun _ _ => keepsAction_withTarget fun i => keepsAction_withSelector
      (keepsAction_answering fun _ h => h.keeps_discardClose i)
  | clearHold =>
    exact keeps_running_serve fun _ _ => keepsAction_withTarget fun i =>
      keepsAction_answering fun _ h => h.keeps_clearHold i
  | timerControlRun =>
    exact keeps_running_serve fun _ _ => keepsAction_withTarget fun i => keepsAction_withSelector
      (keepsAction_answering fun _ h => h.keeps_timerControl i fun _ => rfl)
  | timerControlStop =>
    exact keeps_running_serve fun _ _ => keepsAction_withTarget fun i => keepsAction_withSelector
      (keepsAction_answering fun _ h => h.keeps_timerControl i fun r => by rw [Pacing.timerStop_eq])
  | timerControlPreset =>
    exact keeps_running_serve fun _ _ => keepsAction_withTarget fun i => keepsAction_withSelector
      (keepsAction_answering fun _ h => h.keeps_presetTimer _ i)
  | ackNotice =>
    exact keeps_running_serve fun _ _ => keepsAction_withTarget fun n =>
      keepsAction_answering fun s h => h.of_view (laneView_ackNotice s n _)
  | laneControlEnable =>
    exact keeps_running_serve fun _ _ => keepsAction_withTarget fun l => keepsAction_withSelector
      (keepsAction_answering fun _ h => h.keeps_laneEnable l)
  | laneControlDisable =>
    exact keeps_running_serve fun _ _ => keepsAction_withTarget fun l => keepsAction_withSelector
      (keepsAction_answering fun _ h => h.keeps_disableLane l)
  | laneControlRetire =>
    exact keeps_running_serve fun _ _ => keepsAction_withTarget fun l => keepsAction_withSelector
      (keepsAction_answering fun _ h => h.keeps_laneRetire l)
  | laneControlRecover =>
    exact keeps_running_serve fun _ _ => keepsAction_withTarget fun l => keepsAction_withSelector
      (keepsAction_answering fun _ h => h.keeps_laneRecover l)
  | restart =>
    exact keeps_running_serve fun _ _ => keepsAction_ok fun _ h =>
      h.keeps_duringLaunches _ fun _ ht => ht.keeps_deviceRestart
  | unknownCommandCode => exact keeps_running_serve fun _ _ => keepsAction_error _

end commands

/-- Settles O60: the statement's invariants are the agreement of every lane, which every command keeps. -/
theorem stepKeepsLanes : Obligations.StepKeepsLanes := by
  intro s t hstep hs
  rw [lanesInv_iff] at hs ⊢
  unfold step at hstep
  split at hstep
  · cases hstep
    exact hs
  · next c rest _ =>
    have hwaiting : LanesInv { s with pending := rest } := hs.of_agree fun h => h.of_view rfl
    exact LanesInv.keeps_exec c hstep hwaiting

/-! ### Alignment (R80, R160, R162) -/

section alignment
variable {s : State} {l : LaneNo}

/-- Fewer than six passes align no lane. -/
theorem alignLane_early (h : (s.lane l).passes < 6) : alignLane l s = s := by
  have hfew : ¬ Config.cellsToAlign ≤ (s.lane l).passes := Nat.not_le.2 h
  simp [alignLane, hfew]

theorem alignLane_aligns (hl : (s.lane l).aligned = false) (h : 6 ≤ (s.lane l).passes) :
    alignLane l s =
      let t := s.modLane l fun r => { r with aligned := true, failures := 0, passes := 0 }
      if t.allAligned && !t.trunkUp then trunkUp t else t := by
  have hsix : Config.cellsToAlign ≤ (s.lane l).passes := h
  simp [alignLane, hl, hsix]

/-- With one lane aligned, all are exactly when the others are. -/
theorem allAligned_modLane {f : LaneRec → LaneRec} (hf : (f (s.lane l)).aligned = true) :
    (s.modLane l f).allAligned = true ↔ ∀ k, k ≠ l → (s.lane k).aligned = true := by
  rw [allAligned_iff]
  refine forall_congr' fun k => ?_
  by_cases hk : k = l
  · subst hk
    simp [hf]
  · simp [hk, Ne.symm hk]

end alignment

/-- Settles O18, by the lanes that are still HUNTING. -/
theorem laneAlignedBringsTrunkUp : Obligations.LaneAlignedBringsTrunkUp := by
  intro s l hpin hcount hl aligned
  have run : exec (.laneAligned l) s = .next (alignLane l s) := running_counted hpin hcount
  have hall : aligned.allAligned = true ↔ ∀ k, k ≠ l → (s.lane k).aligned = true := allAligned_modLane rfl
  refine ⟨fun h => ?_, fun h hnot => ?_, fun h hothers hdown => ?_⟩
  · rw [run, alignLane_early h]
  · have hstays : ¬ (aligned.allAligned && !aligned.trunkUp) = true := by
      rw [Bool.and_eq_true, hall]
      rintro ⟨hothers, hdown⟩
      obtain ⟨k, hk, hkl⟩ | hup := hnot
      · simp [hothers k hk] at hkl
      · simp [aligned, hup] at hdown
    rw [run, alignLane_aligns hl h]
    exact congrArg _ (if_neg hstays)
  · have hcomes : (aligned.allAligned && !aligned.trunkUp) = true := by
      rw [Bool.and_eq_true, hall]
      exact ⟨hothers, by simp [aligned, hdown]⟩
    rw [run, alignLane_aligns hl h]
    exact congrArg _ (if_pos hcomes)

/-! ### The trunk's cells (R64, R74, R163) -/

section cells
variable {s : State} {l : LaneNo}

section running
variable (hpin : s.resetPin = false) (hcount : s.uncounted = false) (take : State → State)
include hpin hcount

/-- A cell that passes on an aligned lane of an UP trunk ends the run of failures and is taken. -/
theorem running_onTrunkCell_up (hup : s.trunkUp = true) (hl : (s.lane l).aligned = true) :
    running (onTrunkCell l take) s = .next (take (s.modLane l fun r => { r with failures := 0 })) := by
  rw [running_counted hpin hcount]
  simp [onTrunkCell, hl, hup]

/-- While the trunk is DOWN the cell is not taken. -/
theorem running_onTrunkCell_down (hdown : s.trunkUp = false) (hl : (s.lane l).aligned = true) :
    running (onTrunkCell l take) s = .next (s.modLane l fun r => { r with failures := 0 }) := by
  rw [running_counted hpin hcount]
  simp [onTrunkCell, hl, hdown]

/-- On a HUNTING lane the cell counts toward the six. -/
theorem running_onTrunkCell_hunting (hl : (s.lane l).aligned = false) :
    running (onTrunkCell l take) s = .next (s.modLane l fun r => { r with passes := min 6 (r.passes + 1) }) := by
  rw [running_counted hpin hcount]
  simp only [onTrunkCell, hl, Bool.false_eq_true, if_false]
  rfl

end running

/-- The commands of the cells that pass their check on a lane. -/
theorem exec_onTrunkCell (kind : BitVec 4) (tag code : Byte) :
    ∀ c ∈ [Instr.trunkFillCell l, .trunkOtherKindCell l kind, .bindAckAccept l tag, .bindAckRefuse l tag,
        .bindAckUnknownCode l tag code, .releaseAck l tag, .resetAck l tag, .pause l tag, .resume l tag],
      ∃ take, ∀ s, exec c s = running (onTrunkCell l take) s := by
  simp only [List.forall_mem_cons, List.not_mem_nil, false_implies, implies_true, and_true]
  exact ⟨⟨_, fun _ => rfl⟩, ⟨_, fun _ => rfl⟩, ⟨_, fun _ => rfl⟩, ⟨_, fun _ => rfl⟩, ⟨_, fun _ => rfl⟩,
    ⟨_, fun _ => rfl⟩, ⟨_, fun _ => rfl⟩, ⟨_, fun _ => rfl⟩, ⟨_, fun _ => rfl⟩⟩

section taken
variable {tag : Byte} {kind : Handshake} {matching : State → State}

theorem takeAnswer_stale (h : tag ≠ (s.lane l).tag) : takeAnswer kind l tag matching s = staleCell l s := if_pos h

theorem takeAnswer_matching (h : tag = (s.lane l).tag) (ho : (s.lane l).outstanding = some kind) :
    takeAnswer kind l tag matching s = matching s := by simp [takeAnswer, h, ho]

theorem takeAnswer_stray (h : tag = (s.lane l).tag) (ho : (s.lane l).outstanding ≠ some kind) :
    takeAnswer kind l tag matching s = strayCell l s := by simp [takeAnswer, h, ho]

theorem takeUnknownAnswer_stale (h : tag ≠ (s.lane l).tag) : takeUnknownAnswer l tag s = staleCell l s := if_pos h

theorem takeUnknownAnswer_stray (h : tag = (s.lane l).tag) : takeUnknownAnswer l tag s = strayCell l s := by
  simp [takeUnknownAnswer, h]

theorem takePause_stale (paused : Bool) (h : tag ≠ (s.lane l).tag) : takePause paused l tag s = staleCell l s :=
  if_pos h

theorem takePause_bound (paused : Bool) (h : tag = (s.lane l).tag) (hb : (s.lane l).state = .bound) :
    takePause paused l tag s = s.modLane l fun r => { r with paused := paused } := by simp [takePause, h, hb]

theorem takePause_stray (paused : Bool) (h : tag = (s.lane l).tag) (hb : (s.lane l).state ≠ .bound) :
    takePause paused l tag s = strayCell l s := by simp [takePause, h, hb]

end taken

/-- The end of a run of failures leaves the rest of the lane. -/
theorem lane_passed (s : State) (l : LaneNo) :
    (s.modLane l fun r => { r with failures := 0 }).lane l = { s.lane l with failures := 0 } := lane_modLane_same s l _

end cells

/-- Settles O20: every one of these cells is taken by its tag, then by the outstanding request or the state. -/
theorem staleAndStrayCells : Obligations.StaleAndStrayCells := by
  intro s l tag code hpin hcount hup hl passed
  have run (take : State → State) : running (onTrunkCell l take) s = .next (take passed) :=
    running_onTrunkCell_up hpin hcount take hup hl
  have hlane : passed.lane l = { s.lane l with failures := 0 } := lane_passed s l
  have htag : (passed.lane l).tag = (s.lane l).tag := by rw [hlane]
  refine ⟨fun h => ?_, fun h => ?_⟩
  · rw [← htag] at h
    have stale {take : State → State} (ht : take passed = staleCell l passed) :
        running (onTrunkCell l take) s = .next (staleCell l passed) := by rw [run, ht]
    simp only [List.forall_mem_cons, List.not_mem_nil, false_implies, implies_true, and_true]
    exact ⟨stale (takeAnswer_stale h), stale (takeAnswer_stale h), stale (takeUnknownAnswer_stale h),
      stale (takeAnswer_stale h), stale (takeAnswer_stale h), stale (takePause_stale true h),
      stale (takePause_stale false h)⟩
  · rw [← htag] at h
    intro stray
    have stray {take : State → State} (ht : take passed = strayCell l passed) :
        running (onTrunkCell l take) s = stray := by rw [run, ht]; rfl
    have hout : (passed.lane l).outstanding = (s.lane l).outstanding := by rw [hlane]
    have hstate : (passed.lane l).state = (s.lane l).state := by rw [hlane]
    rw [← hout, ← hstate]
    exact ⟨fun ho => ⟨stray (takeAnswer_stray h ho), stray (takeAnswer_stray h ho)⟩,
      fun ho => stray (takeAnswer_stray h ho), fun ho => stray (takeAnswer_stray h ho),
      stray (takeUnknownAnswer_stray h),
      fun hb => ⟨stray (takePause_stray true h hb), stray (takePause_stray false h hb)⟩⟩

section failed
variable {s : State} {l : LaneNo}

/-- A failed check on an aligned lane counts; the seventh in a row loses alignment. -/
theorem failedTrunkCell_aligned (hl : (s.lane l).aligned = true) :
    failedTrunkCell l s =
      let t := s.modLane l fun r => { r with failures := r.failures + 1 }
      if (s.lane l).failures + 1 < 7 then t else loseAlignment l t := by
  have hseven : Config.failuresToLose ≤ (s.lane l).failures + 1 ↔ ¬ (s.lane l).failures + 1 < 7 := Nat.not_lt.symm
  simp only [failedTrunkCell, hl, if_true, lane_modLane_same, hseven, ite_not]

theorem failedTrunkCell_hunting (hl : (s.lane l).aligned = false) :
    failedTrunkCell l s = s.modLane l fun r => { r with passes := 0 } := by simp [failedTrunkCell, hl]

end failed

/-- Settles O21: what each cell does on an aligned lane, by the trunk link, and on a HUNTING one. -/
theorem pauseAndOtherTrunkCells : Obligations.PauseAndOtherTrunkCells := by
  refine ⟨fun s l tag hpin hcount hup hl hb htag => ?_, fun s l kind hpin hcount hl => ?_,
    fun s l kind tag code hpin hcount hl => ⟨fun c hc => ?_, ?_⟩⟩
  · have pause (paused : Bool) : running (onTrunkCell l (takePause paused l tag)) s =
        .next (s.modLane l fun r => { r with failures := 0, paused := paused }) := by
      have hlane := lane_passed s l
      rw [running_onTrunkCell_up hpin hcount _ hup hl,
        takePause_bound paused (htag.trans (by rw [hlane])) (by rw [hlane]; exact hb), modLane_modLane]
    exact ⟨pause true, pause false⟩
  · intro passed failed
    refine ⟨?_, fun hup => ?_, fun hdown tag code c hc => ?_, ?_⟩
    · cases hup : s.trunkUp with
      | true => exact running_onTrunkCell_up hpin hcount _ hup hl
      | false => exact running_onTrunkCell_down hpin hcount _ hup hl
    · exact running_onTrunkCell_up hpin hcount _ hup hl
    · obtain ⟨take, htake⟩ := exec_onTrunkCell kind tag code c (.tail _ hc)
      rw [htake, running_onTrunkCell_down hpin hcount take hdown hl]
    · have run : exec (.trunkBadCheckCell l) s = .next (failedTrunkCell l s) := running_counted hpin hcount
      have lost : exec (.laneAlignmentLost l) failed = .next (loseAlignment l failed) :=
        running_counted (s := failed) hpin hcount
      rw [run, failedTrunkCell_aligned hl, lost]
      exact apply_ite _ _ _ _
  · obtain ⟨take, htake⟩ := exec_onTrunkCell kind tag code c hc
    rw [htake, running_onTrunkCell_hunting hpin hcount take hl]
  · exact (running_counted hpin hcount).trans (congrArg _ (failedTrunkCell_hunting hl))

/-! ### The ends of a handshake (R62 to R66, R69, R72, R76) -/

section ends
variable {s : State} {l : LaneNo} {i : StreamNo}

theorem bindAcceptMatched_held (hi : (s.lane l).holder = some i) :
    bindAcceptMatched l s =
      judgeDevicePart (judgeLane l (notify .bindAccepted i (bindAccepted i (s.modLane l fun r =>
        { r.endHandshake with
          state := .bound, paused := false, holdDeadline := none, bindsAccepted := r.bindsAccepted + 1 })))) := by
  have hheld : (s.lane l).endHandshake.holder = some i := hi
  simp only [bindAcceptMatched, lane_modLane_same, hheld]

theorem releaseAckMatched_held (hi : (s.lane l).holder = some i) :
    releaseAckMatched l s =
      judgeDevicePart (passOnJoin (!(s.lane l).disablePending)
        (lossClaims .releaseCompleted i (handBack l i (s.modLane l LaneRec.endHandshake)))) := by
  have hheld : (s.lane l).endHandshake.holder = some i := hi
  simp only [releaseAckMatched, lane_modLane_same, hheld]
  rfl

theorem resetAckMatched_eq (l : LaneNo) (s : State) :
    resetAckMatched l s =
      judgeDevicePart
        (passOnJoin (!(s.lane l).disablePending) (freeOrDisable l (s.modLane l LaneRec.endHandshake))) := by
  simp only [resetAckMatched, lane_modLane_same]
  rfl

theorem passOnJoin_not (pending : Bool) (s : State) :
    passOnJoin (!pending) s = if pending = true then s else callPass s := by cases pending <;> rfl

/-- What a lane becomes at the end of a handshake that frees it, by its pending disable (R76). -/
theorem freeOrDisable_eq {pending : Bool} (hp : (s.lane l).disablePending = pending) :
    freeOrDisable l s =
      if pending = true then s.modLane l fun r => { r with state := .disabled, disablePending := false }
      else
        let g := s.params.groupMap.read l
        (s.modLane l fun r => { r with state := .free, group := g }).setFree g (s.freeLanes.read g ++ [l]) := by
  subst hp
  rfl

end ends

/-- Settles O22: the four steps of the acceptance are those of `bindAcceptMatched`. -/
theorem bindAccepted : Obligations.BindAccepted := by
  intro s l i tag hpin hcount hup hl htag hout hi bound
  have hlane := lane_passed s l
  have run : exec (.bindAckAccept l tag) s = _ := running_onTrunkCell_up hpin hcount _ hup hl
  rw [run, takeAnswer_matching (htag.trans (by rw [hlane])) (by rw [hlane]; exact hout),
    bindAcceptMatched_held (by rw [hlane]; exact hi), modLane_modLane]
  rfl

/-- Settles O24: what the lane becomes, then the claims, the pass and the report. -/
theorem releaseAndRecoveryComplete : Obligations.ReleaseAndRecoveryComplete := by
  intro s l tag hpin hcount hup hl htag ended g back onJoin
  have hlane := lane_passed s l
  have hpending : ((s.modLane l fun r => { r with failures := 0 }).lane l).disablePending =
      (s.lane l).disablePending := by rw [hlane]
  have hended : (s.modLane l fun r => { r with failures := 0 }).modLane l LaneRec.endHandshake = ended :=
    modLane_modLane s l _ _
  have matched {kind : Handshake} (matching : State → State) (hout : (s.lane l).outstanding = some kind) :
      running (onTrunkCell l (takeAnswer kind l tag matching)) s =
        .next (matching (s.modLane l fun r => { r with failures := 0 })) := by
    rw [running_onTrunkCell_up hpin hcount _ hup hl,
      takeAnswer_matching (htag.trans (by rw [hlane])) (by rw [hlane]; exact hout)]
  have hjoin (t : State) : passOnJoin (!(s.lane l).disablePending) t = onJoin t := passOnJoin_not _ t
  refine ⟨fun i hout hi => ?_, fun hout => ?_⟩
  · have hback : handBack l i ended =
        back ((ended.modLane l fun r => { r with holder := none }).modStream i fun r =>
          { r with heldLane := none }) := by
      refine freeOrDisable_eq (s := clearHolder l i ended) ?_
      rw [clearHolder, modStream_lane, lane_modLane_same, lane_modLane_same]
    rw [show exec (.releaseAck l tag) s = _ from matched (releaseAckMatched l) hout,
      releaseAckMatched_held (by rw [hlane]; exact hi), hpending, hended, hback, hjoin]
  · have hback : freeOrDisable l ended = back ended := freeOrDisable_eq (by rw [lane_modLane_same])
    rw [show exec (.resetAck l tag) s = _ from matched (resetAckMatched l) hout, resetAckMatched_eq, hpending, hended,
      hback, hjoin]

section timeout
variable {s : State} {l : LaneNo} {i : StreamNo}

theorem answerTimeout_recovering (h : (s.lane l).state = .recovering) :
    answerTimeout l s = judgeDevicePart (raise (.lane l .recoveryFailed) (s.modLane l LaneRec.timedOut)) := by
  simp only [answerTimeout, h]

theorem answerTimeout_binding (h : (s.lane l).state = .binding) (hi : (s.lane l).holder = some i) :
    answerTimeout l s =
      judgeDevicePart (loseLane .bindTimeout l i
        (raise (.stream i .laneLost) (raise (.lane l .answerTimeout) (s.modLane l LaneRec.timedOut)))) := by
  simp only [answerTimeout, h, hi]

theorem answerTimeout_unbinding (h : (s.lane l).state = .unbinding) (hi : (s.lane l).holder = some i) :
    answerTimeout l s =
      judgeDevicePart (loseLane .releaseTimeout l i
        (raise (.lane l .answerTimeout) (s.modLane l LaneRec.timedOut))) := by
  have hholder : ((raise (.lane l .answerTimeout) (s.modLane l LaneRec.timedOut)).lane l).holder = some i := by
    refine (congrArg LaneRec.holder (lane_of_view (laneView_raise _ _) l) :).trans ?_
    rw [lane_modLane_same]
    exact hi
  simp only [answerTimeout, h, loseHolder, hholder]

theorem applyPendingDisable_idle (h : (s.lane l).disablePending = false ∨ (s.lane l).outstanding ≠ none) :
    applyPendingDisable l s = s := by
  refine if_neg ?_
  rw [Bool.and_eq_true, Option.isNone_iff_eq_none]
  rintro ⟨hp, hout⟩
  simp [hp, hout] at h

/-- A pending disable, outside a handshake, by the lane's state (R76). -/
theorem applyPendingDisable_pending (hp : (s.lane l).disablePending = true) (hout : (s.lane l).outstanding = none) :
    applyPendingDisable l s =
      if (s.lane l).state = .bound then startRelease l s
      else if (s.lane l).state = .free then leaveFreeList l (becomeDisabled l s)
      else becomeDisabled l s := if_pos (by simp [hp, hout])

end timeout

/-- Settles O26, by the lane's state at the deadline and at the pending disable. -/
theorem answerTimeoutAndPendingDisable : Obligations.AnswerTimeoutAndPendingDisable := by
  refine ⟨fun s l hpin => ?_, fun s l hpin hcount => ?_⟩
  · intro expired lost
    have run : exec (.answerDeadlineExpiry l) s = .next (answerExpiry l s) := Pacing.atStroke_running _ hpin
    refine ⟨fun d hd hpast => ?_, fun h => ?_⟩
    · have hdue : answerExpiry l s = answerTimeout l s := by rw [answerExpiry, hd, if_pos (Pacing.due_some hpast)]
      rw [run, hdue]
      refine ⟨fun hst => ?_, fun i hst hi => ?_, fun i hst hi => ?_⟩
      · rw [answerTimeout_recovering hst]
        rfl
      · rw [answerTimeout_binding hst hi]
        rfl
      · rw [answerTimeout_unbinding hst hi]
        rfl
    · rw [run, answerExpiry, Pacing.due_eq_false h, if_neg Bool.false_ne_true]
  · have run : exec (.disablePendingApplied l) s = .next (applyPendingDisable l s) := running_counted hpin hcount
    rw [run]
    refine ⟨fun hp hout => ⟨fun hb hf => ?_, fun i hb hi => ?_, fun hf => ?_⟩, fun h => ?_⟩
    · rw [applyPendingDisable_pending hp hout, if_neg hb, if_neg hf]
      rfl
    · rw [applyPendingDisable_pending hp hout, if_pos hb, Pacing.startRelease_bound hb hi]
      rfl
    · have hlane : (becomeDisabled l s).lane l = { s.lane l with state := .disabled, disablePending := false } :=
        lane_modLane_same s l _
      rw [applyPendingDisable_pending hp hout, if_neg (by simp [hf]), if_pos hf, Arbiter.leaveFreeList_eq, hlane]
      rfl
    · rw [applyPendingDisable_idle h]
end Sys2Proof.Proofs.Lanes

/-! The statements of launch, hold and release: a lane's slot with no launch in flight, the judgement of a BOUND lane,
and a COMMIT that is taken, which releases the lanes of its holders. -/

namespace Sys2Proof.Proofs.Holding

open Sys2Proof Sys2Proof.Machine

/-! ### A lane's slot (R61, R85 to R87) -/

section slot
variable {s : State} {l : LaneNo}

theorem readSlot_control {c : ControlCell} (hup : s.trunkUp = true) (hc : (s.lane l).waitingCell = some c) :
    readSlot l s = sendControl l c s := by simp [readSlot, hup, hc]

theorem readSlot_down (hdown : s.trunkUp = false) : readSlot l s = sendFill l s := by simp [readSlot, hdown]

/-- No control cell, and no holder that the launch conditions let launch: FILL (R87). -/
theorem readSlot_idle (hc : (s.lane l).waitingCell = none)
    (hlaunch : ∀ i, (s.lane l).holder = some i → launchable s.trunkUp (s.lane l) (s.stream i) = false) :
    readSlot l s = sendFill l s := by
  cases hi : (s.lane l).holder with
  | none => simp [readSlot, hc, hi]
  | some i => simp [readSlot, hc, hi, hlaunch i hi]

theorem launchable_eq_false_iff (up : Bool) (r : LaneRec) (h : StreamRec) :
    launchable up r h = false ↔
      up = false ∨ r.state ≠ .bound ∨ r.paused = true ∨ r.waitingCell ≠ none ∨ h.credit = 0 ∨ h.queue = [] := by
  simp only [launchable, launchLane, StreamRec.creditInput, Bool.and_eq_false_iff, beq_eq_false_iff_ne,
    Bool.not_eq_eq_eq_not, Bool.not_false, Option.isNone_eq_false_iff, Option.isSome_iff_ne_none,
    decide_eq_false_iff_not, Nat.not_le, Nat.lt_one_iff, List.isEmpty_iff, or_assoc]

theorem sendFill_eq (h : (s.lane l).launching = none) :
    sendFill l s = s.modLane l fun r => { r with sent := some (fillCell l.val) } :=
  Pacing.modLane_congr (f := fun r => { r with sent := _, launching := none }) (by rw [← h])

theorem sendControl_eq (c : ControlCell) (h : (s.lane l).launching = none) :
    sendControl l c s = s.modLane l fun r =>
      { r with
        waitingCell := none
        answerDeadline := some (deadlineAfter s.paceCount s.params.answerTimeout)
        sent := some (c.cell l) } := by
  rw [sendControl, sendOnLane, modLane_modLane]
  exact Pacing.modLane_congr (by rw [← h])

end slot

/-- The kinds of the three control cells as octets (R167). -/
theorem controlKind_eq (k : Handshake) :
    k.kind = match k with | .bind => 0x8 | .release => 0x9 | .laneReset => 0xA := by cases k <;> rfl

/-- Settles O10, by the trunk link, the waiting control cell and the launch conditions. -/
theorem laneSlotSendsControlOrFill : Obligations.LaneSlotSendsControlOrFill := by
  intro s l hpin hcount hnone
  have run : exec (.laneSlot l) s = .next (readSlot l s) :=
    (running_counted hpin hcount).trans (congrArg _ (laneSlot_first hnone))
  refine ⟨fun c hup hc => ?_, fun hidle => ?_⟩
  · rw [run, readSlot_control hup hc, sendControl_eq c hnone, ControlCell.cell, controlKind_eq]
    rfl
  · have hfill : readSlot l s = sendFill l s := by
      obtain hdown | ⟨hc, hlaunch⟩ := hidle
      · exact readSlot_down hdown
      · refine readSlot_idle hc fun i hi => (launchable_eq_false_iff _ _ _).2 (.inr ?_)
        obtain hb | hp | hh := hlaunch
        · exact .inl hb
        · exact .inr (.inl hp)
        · exact .inr (.inr (.inr (hh i hi)))
    rw [run, hfill, sendFill_eq hnone]
    rfl

/-! ### The judgement of a BOUND lane (R91 to R94) -/

theorem endsAtOnce_iff (r : LaneRec) (h : StreamRec) :
    endsAtOnce r h = true ↔
      r.disablePending = true ∨ h.life = .draining .discard ∨ (h.life = .draining .plain ∧ h.queue = [])
        ∨ h.commitPending = true := by
  simp [endsAtOnce, or_assoc]

theorem cutShort_iff (s : State) (r : LaneRec) :
    s.cutShort r = true ↔ s.waiting.read r.group = true ∧ s.freeLanes.read r.group = [] := by
  simp [State.cutShort]

section judgement
variable {s : State} {l : LaneNo} {i : StreamNo}

/-- A lane that is not BOUND is not judged. -/
theorem judgeLane_idle (hb : (s.lane l).state ≠ .bound) : judgeLane l s = s := by
  unfold judgeLane
  dsimp only
  split
  · next h _ => exact absurd h hb
  · rfl

theorem judgeLane_vacant (hi : (s.lane l).holder = none) : judgeLane l s = s := by
  unfold judgeLane
  dsimp only
  split
  · next h => exact absurd (hi.symm.trans h) nofun
  · rfl

section bound
variable (hb : (s.lane l).state = .bound) (hi : (s.lane l).holder = some i)
include hb hi

theorem judgeLane_bound :
    judgeLane l s =
      if endsAtOnce (s.lane l) (s.stream i) then startRelease l s
      else if (s.stream i).demand then s.modLane l fun r => { r with holdDeadline := none }
      else holdGrace l (s.stream i) s := by
  simp only [judgeLane, hb, hi]

/-- Tests 1 to 4: the lane is released at once. -/
theorem judgeLane_atOnce (h : endsAtOnce (s.lane l) (s.stream i) = true) :
    judgeLane l s = s.modLane l (LaneRec.begin .release .unbinding i) := by
  rw [judgeLane_bound hb hi, if_pos h, Pacing.startRelease_bound hb hi]

/-- Test 5: a holder with demand keeps its lane. -/
theorem judgeLane_demand (h : endsAtOnce (s.lane l) (s.stream i) = false) (hd : (s.stream i).demand = true) :
    judgeLane l s = s.modLane l fun r => { r with holdDeadline := none } := by
  rw [judgeLane_bound hb hi, h, if_neg Bool.false_ne_true, if_pos hd]

/-- Test 6: hold grace. -/
theorem judgeLane_grace (h : endsAtOnce (s.lane l) (s.stream i) = false) (hd : (s.stream i).demand = false) :
    judgeLane l s = holdGrace l (s.stream i) s := by
  rw [judgeLane_bound hb hi, h, if_neg Bool.false_ne_true, hd, if_neg Bool.false_ne_true]

end bound

section grace
variable {h : StreamRec}

/-- A hold time of 0 has no grace to begin. -/
theorem holdGrace_noHoldTime (hd : (s.lane l).holdDeadline = none) (ht : h.config.holdTime = 0) :
    holdGrace l h s = startRelease l s := by simp [holdGrace, hd, ht]

/-- The cut-short ends the grace, begun or not (R94). -/
theorem holdGrace_cutShort (hc : s.cutShort (s.lane l) = true) : holdGrace l h s = startRelease l s := by
  simp [holdGrace, hc]

theorem holdGrace_begins (hd : (s.lane l).holdDeadline = none) (ht : h.config.holdTime ≠ 0)
    (hc : s.cutShort (s.lane l) = false) :
    holdGrace l h s =
      s.modLane l fun r => { r with holdDeadline := some (deadlineAfter s.paceCount h.config.holdTime) } := by
  simp [holdGrace, hd, ht, hc]

theorem holdGrace_runsOn (hd : (s.lane l).holdDeadline ≠ none) (hc : s.cutShort (s.lane l) = false) :
    holdGrace l h s = s := by simp [holdGrace, hd, hc]

end grace

section other
variable {k : LaneNo} (hk : l ≠ k) (f : LaneRec → LaneRec)
include hk

theorem lane_modLane_modLane_ne (g : LaneRec → LaneRec) :
    ((s.modLane l f).modLane k g).lane k = (s.modLane k g).lane k := by
  rw [lane_modLane_same, lane_modLane_same, lane_modLane_ne s hk]

theorem lane_startRelease_modLane_ne : (startRelease k (s.modLane l f)).lane k = (startRelease k s).lane k := by
  unfold startRelease
  rw [lane_modLane_ne s hk]
  split
  · exact lane_modLane_modLane_ne hk f _
  · exact lane_modLane_ne s hk f

theorem lane_holdGrace_modLane_ne (h : StreamRec) :
    (holdGrace k h (s.modLane l f)).lane k = (holdGrace k h s).lane k := by
  have hcut (r : LaneRec) : (s.modLane l f).cutShort r = s.cutShort r := rfl
  unfold holdGrace
  dsimp only
  rw [lane_modLane_ne s hk, hcut]
  split
  · exact lane_startRelease_modLane_ne hk f
  · split
    · exact lane_startRelease_modLane_ne hk f
    · split
      · exact lane_modLane_modLane_ne hk f _
      · exact lane_modLane_ne s hk f

/-- A judgement reads no lane but its own. -/
theorem lane_judgeLane_modLane_ne : (judgeLane k (s.modLane l f)).lane k = (judgeLane k s).lane k := by
  have hlane : (s.modLane l f).lane k = s.lane k := lane_modLane_ne s hk f
  by_cases hb : (s.lane k).state = .bound
  · cases hi : (s.lane k).holder with
    | none => rw [judgeLane_vacant hi, judgeLane_vacant (hlane ▸ hi), hlane]
    | some i =>
      rw [judgeLane_bound hb hi, judgeLane_bound (hlane ▸ hb) (hlane ▸ hi), hlane, modLane_stream]
      split
      · exact lane_startRelease_modLane_ne hk f
      · split
        · exact lane_modLane_modLane_ne hk f _
        · exact lane_holdGrace_modLane_ne hk f _
  · rw [judgeLane_idle hb, judgeLane_idle (hlane ▸ hb), hlane]

end other

theorem lane_judgeLane_ne {k : LaneNo} (hk : l ≠ k) : (judgeLane l s).lane k = s.lane k := by
  obtain ⟨f, hf⟩ := Arbiter.judgeLane_eq_modLane s l
  rw [hf, lane_modLane_ne s hk]

/-- Lanes judged once each are judged each by itself. -/
theorem lane_foldl_judgeLane {ls : List LaneNo} (hn : ls.Nodup) (k : LaneNo) :
    (ls.foldl (fun t l => judgeLane l t) s).lane k = if k ∈ ls then (judgeLane k s).lane k else s.lane k := by
  induction ls generalizing s with
  | nil => rfl
  | cons l ls ih =>
    obtain ⟨hl, hn⟩ := List.nodup_cons.1 hn
    rw [List.foldl_cons, ih hn]
    by_cases hk : l = k
    · subst hk
      simp [hl]
    · obtain ⟨f, hf⟩ := Arbiter.judgeLane_eq_modLane s l
      have hmem : k ∈ l :: ls ↔ k ∈ ls := by simp [Ne.symm hk]
      simp only [hmem, lane_judgeLane_ne hk]
      rw [hf, lane_judgeLane_modLane_ne hk]

end judgement

/-- A group's judgement changes lanes and nothing else. -/
theorem judgeGroup_eq_lanes (g : GroupNo) (s : State) :
    judgeGroup g s = { s with lanes := (judgeGroup g s).lanes } := by
  have hkeeps (t : State) (l : LaneNo) : { judgeLane l t with lanes := s.lanes } = { t with lanes := s.lanes } := by
    obtain ⟨f, hf⟩ := Arbiter.judgeLane_eq_modLane t l
    rw [hf]
    rfl
  have hrest : { judgeGroup g s with lanes := s.lanes } = s :=
    foldl_keeps (v := fun t => { t with lanes := s.lanes }) s hkeeps (s.boundLanes g)
  exact congrArg (fun t : State => { t with lanes := (judgeGroup g s).lanes }) hrest

theorem mem_boundLanes {s : State} {g : GroupNo} {l : LaneNo} :
    l ∈ s.boundLanes g ↔ (s.lane l).group = g ∧ (s.lane l).state = .bound := by
  simp [State.boundLanes, State.lane]

/-- Settles O29: the tests in their order, and the lanes of a group each by itself. -/
theorem judgementOfBoundLane : Obligations.JudgementOfBoundLane := by
  refine ⟨?_, fun s g => ⟨judgeGroup_eq_lanes g s, fun k => ?_⟩⟩
  · intro s l i hb hi h released cut demand atOnce
    have hatOnce : endsAtOnce (s.lane l) h = true ↔ atOnce := endsAtOnce_iff _ _
    have hdemand : h.demand = true ↔ demand := Pacing.demand_iff _
    have hcut : s.cutShort (s.lane l) = true ↔ cut := cutShort_iff _ _
    have hrelease : startRelease l s = released := Pacing.startRelease_bound hb hi
    rw [← hatOnce, ← hdemand, ← hcut, Bool.not_eq_true, Bool.not_eq_true, Bool.not_eq_true]
    refine ⟨judgeLane_atOnce hb hi, judgeLane_demand hb hi, fun hstays hidle => ?_⟩
    rw [judgeLane_grace hb hi hstays hidle]
    exact ⟨fun hd ht => (holdGrace_noHoldTime hd ht).trans hrelease, fun _ hc => (holdGrace_cutShort hc).trans hrelease,
      holdGrace_begins, holdGrace_runsOn⟩
  · refine (lane_foldl_judgeLane (Table.indicesWhere_nodup _ _) k).trans ?_
    exact if_congr mem_boundLanes rfl rfl

/-! ### A lane that is being released, and the arbiter (R50, R68, R92) -/

/-- A lane that is being released: UNBINDING, with this record, and in no free-lane list. -/
structure Leaving (l : LaneNo) (r : LaneRec) (s : State) : Prop where
  lane : s.lane l = r
  unbinding : r.state = .unbinding
  unlisted : ∀ g, l ∉ s.freeLanes.read g

theorem removeEntry_streams (i : StreamNo) (s : State) : (removeEntry i s).streams = s.streams := by
  obtain ⟨-, heq⟩ | ⟨e, -, -, heq⟩ := Arbiter.removeEntry_cases i s
  · rw [heq]
  · rw [heq, Arbiter.indicateNotWaiting_eq, setWaiting_streams]

theorem removeEntry_lanes (i : StreamNo) (s : State) : (removeEntry i s).lanes = s.lanes := by
  obtain ⟨-, heq⟩ | ⟨e, -, -, heq⟩ := Arbiter.removeEntry_cases i s
  · rw [heq]
  · rw [heq, Arbiter.indicateNotWaiting_eq, setWaiting_lanes]

theorem judgeLane_freeLanes (l : LaneNo) (s : State) : (judgeLane l s).freeLanes = s.freeLanes :=
  congrArg Arbiter.ArbiterView.freeLanes (Arbiter.view_judgeLane s l)

section leaving
variable {l : LaneNo} {r : LaneRec} {s t : State}

theorem Leaving.of_eq (h : Leaving l r s) (hlanes : t.lanes = s.lanes) (hfree : t.freeLanes = s.freeLanes) :
    Leaving l r t where
  lane := (congrArg (fun ls : Table 16 LaneRec => ls.read l) hlanes).trans h.lane
  unbinding := h.unbinding
  unlisted := by rw [hfree]; exact h.unlisted

theorem Leaving.keeps_judgeLane (h : Leaving l r s) (k : LaneNo) : Leaving l r (judgeLane k s) := by
  by_cases hk : k = l
  · subst hk
    rwa [judgeLane_idle (by rw [h.lane, h.unbinding]; simp)]
  · exact ⟨(lane_judgeLane_ne hk).trans h.lane, h.unbinding, by rw [judgeLane_freeLanes]; exact h.unlisted⟩

theorem Leaving.keeps_judgeHeld (h : Leaving l r s) (i : StreamNo) : Leaving l r (judgeHeld i s) := by
  unfold judgeHeld
  split
  · exact h.keeps_judgeLane _
  · exact h

theorem Leaving.keeps_judgeGroup (h : Leaving l r s) (g : GroupNo) : Leaving l r (judgeGroup g s) :=
  Arbiter.ClaimInvariant.keeps_foldl (fun _ k ht => ht.keeps_judgeLane k) _ h

theorem Leaving.keeps_removeEntry (h : Leaving l r s) (i : StreamNo) : Leaving l r (removeEntry i s) :=
  h.of_eq (removeEntry_lanes i s) (Arbiter.removeEntry_keeps i s).1

theorem Leaving.keeps_indicateNotWaiting (h : Leaving l r s) (g : GroupNo) :
    Leaving l r (indicateNotWaiting g s) := by
  rw [Arbiter.indicateNotWaiting_eq]
  exact h.of_eq rfl rfl

theorem Leaving.keeps_dropTurn (h : Leaving l r s) : Leaving l r s.dropTurn := h.of_eq rfl rfl

theorem Leaving.keeps_joinList (h : Leaving l r s) (e : RequestEntry) : Leaving l r (joinList e s) := by
  unfold joinList
  dsimp only
  split
  · refine Leaving.keeps_judgeGroup ?_ _
    exact h.of_eq rfl rfl
  · exact h.of_eq rfl rfl

theorem Leaving.keeps_afterGrant (h : Leaving l r s) (g : GroupNo) : Leaving l r (afterGrant g s) := by
  unfold afterGrant
  dsimp only [takeTurn_eq]
  split
  · split
    · exact h.keeps_judgeGroup g
    · split
      · exact (h.keeps_dropTurn.keeps_judgeGroup g).keeps_indicateNotWaiting g
      · exact (h.keeps_dropTurn.keeps_indicateNotWaiting g).keeps_judgeGroup g
  · exact h.keeps_indicateNotWaiting g

/-- A claim takes a lane from a list, which the leaving one is not in. -/
theorem Leaving.keeps_grantBind (h : Leaving l r s) {e : RequestEntry} {k : LaneNo} {rest : List LaneNo}
    (hfree : s.freeLanes.read e.group = k :: rest) : Leaving l r (grantBind e k rest s) := by
  have hlisted := h.unlisted e.group
  rw [hfree, List.mem_cons, not_or] at hlisted
  obtain ⟨hk, hrest⟩ := hlisted
  have hlane : (grantBind e k rest s).lane l = s.lane l :=
    lane_modLane_ne (s.setFree e.group rest) (Ne.symm hk) fun r =>
      { r.begin .bind .binding e.stream with holder := some e.stream }
  refine ⟨hlane.trans h.lane, h.unbinding, fun g => ?_⟩
  rw [show (grantBind e k rest s).freeLanes = s.freeLanes.write e.group rest from rfl, Table.read_write]
  split
  · exact hrest
  · exact h.unlisted g

theorem Leaving.keeps_takeClaim (h : Leaving l r s) (e : RequestEntry) (marked : List GroupNo) :
    Leaving l r (takeClaim e marked s).2 := by
  cases hf : s.freeLanes.read e.group with
  | nil => rwa [takeClaim_refused hf]
  | cons k rest =>
    rw [takeClaim_granted hf]
    exact (h.keeps_grantBind hf).keeps_afterGrant _

theorem Leaving.keeps_passLoop (h : Leaving l r s) (n : Nat) (marked : List GroupNo) :
    Leaving l r (passLoop n marked s) := by
  induction n generalizing s marked with
  | zero => exact h
  | succ n ih =>
    unfold passLoop
    split
    · exact h
    · split
      · exact h
      · split
        · exact ih (h.keeps_removeEntry _) _
        · exact ih (h.keeps_takeClaim _ _) _

theorem Leaving.keeps_callPass (h : Leaving l r s) : Leaving l r (callPass s) := by
  cases ht : s.turn with
  | true => rw [callPass_later ht]; exact h.keeps_dropTurn
  | false => rw [callPass_now ht]; exact h.keeps_dropTurn.keeps_passLoop _ _

theorem Leaving.keeps_notify (h : Leaving l r s) (kind : NotifyKind) (i : StreamNo) :
    Leaving l r (notify kind i s) := by
  have hm : Leaving l r (s.modStream i (settleKeptTime kind s.paceCount)) := h.of_eq rfl rfl
  unfold notify
  dsimp only
  split
  · split
    · exact hm.of_eq rfl rfl
    · exact hm.keeps_removeEntry i
  · split
    · exact (hm.keeps_joinList _).keeps_callPass
    · exact hm

theorem Leaving.keeps_demandChanged (h : Leaving l r s) (i : StreamNo) : Leaving l r (demandChanged i s) :=
  (h.keeps_notify .demandChange i).keeps_judgeHeld i

end leaving

/-! ### The claims of a COMMIT (R92, R119) -/

@[simp] theorem commitClaims_sansBinding (free holders : List StreamNo) (deviceApplied : Bool) (s : State) :
    (commitClaims free holders deviceApplied s).sansBinding = s.sansBinding := by
  have hjudged : (holders.foldl (fun t i => judgeHeld i t) s).sansBinding = s.sansBinding :=
    foldl_keeps s judgeHeld_sansBinding holders
  refine (foldl_keeps (v := State.sansBinding) _ demandChanged_sansBinding free).trans ?_
  split
  · rw [callPass_sansBinding, hjudged]
  · exact hjudged

theorem judgeHeld_streams (i : StreamNo) (s : State) : (judgeHeld i s).streams = s.streams := by
  unfold judgeHeld
  split
  · next l _ =>
    obtain ⟨f, hf⟩ := Arbiter.judgeLane_eq_modLane s l
    rw [hf, modLane_streams]
  · rfl

theorem judgeHeld_freeLanes (i : StreamNo) (s : State) : (judgeHeld i s).freeLanes = s.freeLanes :=
  congrArg Arbiter.ArbiterView.freeLanes (Arbiter.view_judgeHeld s i)

theorem lane_judgeHeld_ne {s : State} {i : StreamNo} {l : LaneNo} (h : (s.stream i).heldLane ≠ some l) :
    (judgeHeld i s).lane l = s.lane l := by
  unfold judgeHeld
  split
  · next k hk => exact lane_judgeLane_ne fun hkl => h (hkl ▸ hk)
  · rfl

section claims
variable {l : LaneNo} {i : StreamNo} {s : State}

/-- The judgement of a commit-pending holder releases its lane at once (R92, test 4). -/
theorem judgeHeld_commitPending (hb : (s.lane l).state = .bound) (hi : (s.lane l).holder = some i)
    (hheld : (s.stream i).heldLane = some l) (hpending : (s.stream i).commitPending = true) :
    judgeHeld i s = s.modLane l (LaneRec.begin .release .unbinding i) := by
  have honce : endsAtOnce (s.lane l) (s.stream i) = true := (endsAtOnce_iff _ _).2 (.inr (.inr (.inr hpending)))
  simp only [judgeHeld, hheld, judgeLane_atOnce hb hi honce]

/-- Among the judgements of the holders, that of the lane's own one releases it, and no other reaches it. -/
theorem leaving_foldl_judgeHeld {holders : List StreamNo} (hmem : i ∈ holders) (hb : (s.lane l).state = .bound)
    (hi : (s.lane l).holder = some i) (hheld : ∀ j, (s.stream j).heldLane = some l ↔ j = i)
    (hpending : (s.stream i).commitPending = true) (hunlisted : ∀ g, l ∉ s.freeLanes.read g) :
    Leaving l ((s.lane l).begin .release .unbinding i) (holders.foldl (fun t j => judgeHeld j t) s) := by
  induction holders generalizing s with
  | nil => cases hmem
  | cons j js ih =>
    rw [List.foldl_cons]
    by_cases hj : j = i
    · subst hj
      refine Arbiter.ClaimInvariant.keeps_foldl (fun _ k ht => ht.keeps_judgeHeld k) js ?_
      rw [judgeHeld_commitPending hb hi ((hheld j).2 rfl) hpending]
      exact ⟨lane_modLane_same s l _, rfl, hunlisted⟩
    · have hlane : (judgeHeld j s).lane l = s.lane l := lane_judgeHeld_ne fun h => hj ((hheld j).1 h)
      have hstream (k : StreamNo) : (judgeHeld j s).stream k = s.stream k :=
        congrArg (fun rs : Table 512 StreamRec => rs.read k) (judgeHeld_streams j s)
      rw [← hlane]
      refine ih ((List.mem_cons.1 hmem).resolve_left (Ne.symm hj)) ?_ ?_ ?_ ?_ ?_
      · rw [hlane]; exact hb
      · rw [hlane]; exact hi
      · simpa only [hstream] using hheld
      · rw [hstream]; exact hpending
      · rw [judgeHeld_freeLanes]; exact hunlisted

/-- The BOUND lane of a commit-pending holder is released, and the claims that follow leave it so. -/
theorem lane_commitClaims {free holders : List StreamNo} (deviceApplied : Bool) (hmem : i ∈ holders)
    (hb : (s.lane l).state = .bound) (hi : (s.lane l).holder = some i)
    (hheld : ∀ j, (s.stream j).heldLane = some l ↔ j = i) (hpending : (s.stream i).commitPending = true)
    (hunlisted : ∀ g, l ∉ s.freeLanes.read g) :
    (commitClaims free holders deviceApplied s).lane l = (s.lane l).begin .release .unbinding i := by
  have hjudged := leaving_foldl_judgeHeld hmem hb hi hheld hpending hunlisted
  refine Leaving.lane (Arbiter.ClaimInvariant.keeps_foldl (fun _ k ht => ht.keeps_demandChanged k) free ?_)
  split
  · exact hjudged.keeps_callPass
  · exact hjudged

end claims

/-! ### The images that a COMMIT takes (R119, R120, R121) -/

/-- A stream after the application of its staged image, if it has one. -/
def committed (now : PaceCount) (interval : Nat) (r : StreamRec) : StreamRec :=
  match r.staged with
  | some m => r.applyImage now interval m
  | none => r

/-- The state without what the taking of stream images changes: streams, request list and group indications, open
record. -/
def sansImages (s : State) : State :=
  { s with
    streams := Table.const 512 .reset
    requests := []
    waiting := Table.const 4 false
    record := none }

theorem sansImages_removeEntry (i : StreamNo) (s : State) : sansImages (removeEntry i s) = sansImages s := by
  obtain ⟨-, heq⟩ | ⟨e, -, -, heq⟩ := Arbiter.removeEntry_cases i s
  · rw [heq]
  · rw [heq, Arbiter.indicateNotWaiting_eq]
    rfl

theorem sansImages_applyRecord (i : StreamNo) (m : StreamImage) (s : State) :
    sansImages (applyRecord i m s) = sansImages s := sansImages_removeEntry i _

theorem sansImages_commitFree (s : State) (i : StreamNo) : sansImages (commitFree i s) = sansImages s := by
  unfold commitFree
  split
  · exact sansImages_applyRecord i _ s
  · rfl

theorem sansImages_commitHolder (s : State) (i : StreamNo) : sansImages (commitHolder i s) = sansImages s := rfl

theorem stream_applyRecord (i j : StreamNo) (m : StreamImage) (s : State) :
    (applyRecord i m s).stream j =
      if i = j then (s.stream i).applyImage s.paceCount s.params.settleInterval m else s.stream j :=
  (congrArg (fun rs : Table 512 StreamRec => rs.read j) (removeEntry_streams i _)).trans (stream_modStream s i j _)

theorem stream_commitFree (s : State) (i j : StreamNo) :
    (commitFree i s).stream j =
      if i = j then committed s.paceCount s.params.settleInterval (s.stream i) else s.stream j := by
  cases hm : (s.stream i).staged with
  | some m =>
    simp only [commitFree, committed, hm]
    exact stream_applyRecord i j m s
  | none =>
    simp only [commitFree, committed, hm]
    split
    · subst_vars; rfl
    · rfl

theorem stream_commitHolder (s : State) (i j : StreamNo) :
    (commitHolder i s).stream j = if i = j then { s.stream i with commitPending := true } else s.stream j :=
  stream_modStream s i j fun r => { r with commitPending := true }

/-- A fold over streams, each once, that changes each stream by itself. -/
theorem stream_foldl {f : State → StreamNo → State} {g : State → StreamRec → StreamRec}
    (hf : ∀ t i j, (f t i).stream j = if i = j then g t (t.stream i) else t.stream j) (hg : ∀ t i, g (f t i) = g t)
    {is : List StreamNo} (hn : is.Nodup) (s : State) (j : StreamNo) :
    (is.foldl f s).stream j = if j ∈ is then g s (s.stream j) else s.stream j := by
  induction is generalizing s with
  | nil => rfl
  | cons i is ih =>
    obtain ⟨hi, hn⟩ := List.nodup_cons.1 hn
    rw [List.foldl_cons, ih hn, hg, hf]
    by_cases hij : i = j
    · subst hij
      simp [hi]
    · simp [hij, Ne.symm hij]

section images
variable {is : List StreamNo} {s : State}

theorem stream_foldl_commitFree (hn : is.Nodup) (j : StreamNo) :
    (is.foldl (fun t i => commitFree i t) s).stream j =
      if j ∈ is then committed s.paceCount s.params.settleInterval (s.stream j) else s.stream j :=
  stream_foldl (g := fun t => committed t.paceCount t.params.settleInterval) stream_commitFree
    (fun t i =>
      (congrArg (fun u : State => committed u.paceCount u.params.settleInterval) (sansImages_commitFree t i) :))
    hn s j

theorem stream_foldl_commitHolder (hn : is.Nodup) (j : StreamNo) :
    (is.foldl (fun t i => commitHolder i t) s).stream j =
      if j ∈ is then { s.stream j with commitPending := true } else s.stream j :=
  stream_foldl (g := fun _ r => { r with commitPending := true }) stream_commitHolder (fun _ _ => rfl) hn s j

/-- An image applied at once is counted; no stream is pending yet (R120). -/
theorem record_commitFree {i : StreamNo} {c : CommitRecord} (hs : (s.stream i).staged.isSome = true)
    (hc : s.record = some c) (hempty : c.streams = []) :
    (commitFree i s).record = some { c with applied := c.applied + 1 } := by
  obtain ⟨m, hm⟩ := Option.isSome_iff_exists.1 hs
  simp only [commitFree, hm, modRecord, applyRecord, removeEntry_record, modStream_record, hc, hempty, Option.map_some,
    List.filter_nil]

theorem record_foldl_commitFree (hn : is.Nodup) (hs : ∀ i ∈ is, (s.stream i).staged.isSome = true) {c : CommitRecord}
    (hc : s.record = some c) (hempty : c.streams = []) :
    (is.foldl (fun t i => commitFree i t) s).record = some { c with applied := c.applied + is.length } := by
  induction is generalizing s c with
  | nil => exact hc
  | cons i is ih =>
    obtain ⟨hi, hn⟩ := List.nodup_cons.1 hn
    have hrest : ∀ j ∈ is, ((commitFree i s).stream j).staged.isSome = true := fun j hj => by
      have hij : i ≠ j := fun h => hi (h ▸ hj)
      rw [stream_commitFree, if_neg hij]
      exact hs j (.tail _ hj)
    rw [List.foldl_cons, ih hn hrest (record_commitFree (hs i (.head _)) hc hempty) hempty]
    simp only [List.length_cons, Nat.add_assoc, Nat.add_comm 1]

theorem record_foldl_commitHolder {c : CommitRecord} (hc : s.record = some c) :
    (is.foldl (fun t i => commitHolder i t) s).record = some { c with streams := c.streams ++ is } := by
  induction is generalizing s c with
  | nil => rw [List.append_nil]; exact hc
  | cons i is ih =>
    have hjoined : (commitHolder i s).record = some { c with streams := c.streams ++ [i] } := by
      rw [show (commitHolder i s).record = s.record.map fun c => { c with streams := c.streams ++ [i] } from rfl, hc,
        Option.map_some]
    rw [List.foldl_cons, ih hjoined, List.append_assoc, List.singleton_append]

end images

/-! ### The event of a COMMIT (R118, R119) -/

/-- The streams that a stream part of a COMMIT names (R119). -/
def names : StreamPart → StreamNo → Prop
  | .absent, _ => False
  | .list is, i => i ∈ is
  | .allStaged, _ => True

section streams
variable (part : StreamPart) (s : State)

/-- The streams of a COMMIT that hold no lane. -/
def freeStreams : List StreamNo := (commitStreams part s).filter fun i => (s.stream i).heldLane.isNone

/-- The streams of a COMMIT that hold a lane. -/
def holderStreams : List StreamNo := (commitStreams part s).filter fun i => (s.stream i).heldLane.isSome

theorem commitStreams_nodup : (commitStreams part s).Nodup := by
  cases part with
  | absent => exact .nil
  | list is => exact (List.nodup_dedup is).filter _
  | allStaged => exact Table.indicesWhere_nodup _ _

variable {part s} {i : StreamNo}

theorem mem_commitStreams : i ∈ commitStreams part s ↔ names part i ∧ (s.stream i).staged.isSome = true := by
  cases part with
  | absent => simp [commitStreams, names]
  | list is => simp [commitStreams, names]
  | allStaged => simp [commitStreams, names, State.stream]

theorem mem_freeStreams :
    i ∈ freeStreams part s ↔ names part i ∧ (s.stream i).staged.isSome = true ∧ (s.stream i).heldLane = none := by
  simp [freeStreams, mem_commitStreams, and_assoc]

theorem mem_holderStreams :
    i ∈ holderStreams part s ↔ names part i ∧ (s.stream i).staged.isSome = true ∧ (s.stream i).heldLane ≠ none := by
  simp [holderStreams, mem_commitStreams, and_assoc, Option.isSome_iff_ne_none]

theorem freeStreams_nodup : (freeStreams part s).Nodup := (commitStreams_nodup part s).filter _

theorem holderStreams_nodup : (holderStreams part s).Nodup := (commitStreams_nodup part s).filter _

end streams

/-- The record that a COMMIT opens (R118; log 15). -/
def openedRecord (p : PortNo) (q : Request) (s : State) : CommitRecord where
  port := p
  tag := q.tag
  selector := octetAt q.payload 2
  streams := []
  devicePart := .none
  deadline := deadlineAfter s.paceCount s.params.commitTimeout
  applied := 0
  withdrawn := 0

/-- A COMMIT with its record opened and, with the ports flag, the staged port records applied (R119 steps 2 and 3). -/
def openCommit (p : PortNo) (q : Request) (scope : CommitScope) (s : State) : State :=
  { s with
    record := some (openedRecord p q s)
    ports :=
      if scope.ports then s.ports.mapAll fun r => { r with record := r.resulting, staged := none } else s.ports }

/-- A COMMIT up to its device part: the images of the free streams applied, the holders commit pending (R119 step 4). -/
def takeImages (p : PortNo) (q : Request) (scope : CommitScope) (s : State) : State :=
  (holderStreams scope.streams s).foldl (fun t i => commitHolder i t)
    ((freeStreams scope.streams s).foldl (fun t i => commitFree i t) (openCommit p q scope s))

/-- The event of a COMMIT, before its claims (R119). -/
def commitEvent (p : PortNo) (q : Request) (scope : CommitScope) (s : State) : State :=
  if scope.device then commitDevice s.lanesQuiet (takeImages p q scope s) else takeImages p q scope s

/-- A device set is staged and named (R119 step 5). -/
def namesDevice (scope : CommitScope) (s : State) : Bool := scope.device && s.stagedParams.isSome

/-- The device part of the record (R118, R123). -/
def devicePartOf (scope : CommitScope) (s : State) : DevicePart :=
  if namesDevice scope s then (if s.lanesQuiet then .applied else .pending) else .none

/-- The record as the event of a COMMIT leaves it. -/
def eventRecord (p : PortNo) (q : Request) (scope : CommitScope) (s : State) : CommitRecord :=
  { openedRecord p q s with
    streams := holderStreams scope.streams s
    devicePart := devicePartOf scope s
    applied := (freeStreams scope.streams s).length }

section event
variable {p : PortNo} {q : Request} {scope : CommitScope} {s : State}

/-- The images leave all but streams, request list, group indications and record. -/
theorem sansImages_takeImages : sansImages (takeImages p q scope s) = sansImages (openCommit p q scope s) :=
  (foldl_keeps (v := sansImages) _ sansImages_commitHolder _).trans (foldl_keeps _ sansImages_commitFree _)

/-- A stream that a COMMIT names is applied to or becomes commit pending, by whether it holds a lane (R120). -/
theorem stream_takeImages (j : StreamNo) :
    (takeImages p q scope s).stream j =
      if j ∈ holderStreams scope.streams s then { s.stream j with commitPending := true }
      else if j ∈ freeStreams scope.streams s then committed s.paceCount s.params.settleInterval (s.stream j)
      else s.stream j := by
  rw [takeImages, stream_foldl_commitHolder holderStreams_nodup, stream_foldl_commitFree freeStreams_nodup]
  by_cases hh : j ∈ holderStreams scope.streams s
  · have hf : j ∉ freeStreams scope.streams s := fun hf => (mem_holderStreams.1 hh).2.2 (mem_freeStreams.1 hf).2.2
    simp only [hh, if_true, hf, if_false]
    rfl
  · simp only [hh, if_false]
    rfl

theorem record_takeImages :
    (takeImages p q scope s).record =
      some { openedRecord p q s with
        streams := holderStreams scope.streams s
        applied := (freeStreams scope.streams s).length } := by
  have hstaged : ∀ i ∈ freeStreams scope.streams s, ((openCommit p q scope s).stream i).staged.isSome = true :=
    fun i hi => (mem_freeStreams.1 hi).2.1
  have happlied := record_foldl_commitFree freeStreams_nodup hstaged (c := openedRecord p q s) rfl rfl
  refine (record_foldl_commitHolder happlied).trans ?_
  simp [openedRecord]

/-- Two states that have their lanes, their free-lane lists and the agent's own part in common. -/
structure SameBlock (s t : State) : Prop where
  lanes : t.lanes = s.lanes
  freeLanes : t.freeLanes = s.freeLanes
  barred : t.barred = s.barred
  inExecution : t.inExecution = s.inExecution

theorem sameBlock_commitEvent : SameBlock s (commitEvent p q scope s) := by
  have himages : SameBlock s (takeImages p q scope s) := by
    have h := sansImages_takeImages (p := p) (q := q) (scope := scope) (s := s)
    exact ⟨(congrArg State.lanes h :), (congrArg State.freeLanes h :), (congrArg State.barred h :),
      (congrArg State.inExecution h :)⟩
  unfold commitEvent commitDevice
  split
  · split
    · exact himages
    · split
      · exact ⟨himages.lanes, himages.freeLanes, himages.barred, himages.inExecution⟩
      · exact ⟨himages.lanes, himages.freeLanes, himages.barred, himages.inExecution⟩
  · exact himages

theorem commitDevice_streams (quiet : Bool) (s : State) : (commitDevice quiet s).streams = s.streams := by
  unfold commitDevice
  split
  · rfl
  · split <;> rfl

theorem commitDevice_ports (quiet : Bool) (s : State) : (commitDevice quiet s).ports = s.ports := by
  unfold commitDevice
  split
  · rfl
  · split <;> rfl

theorem stream_commitEvent (j : StreamNo) :
    (commitEvent p q scope s).stream j = (takeImages p q scope s).stream j := by
  unfold commitEvent
  split
  · rw [State.stream, commitDevice_streams]
    rfl
  · rfl

theorem port_commitEvent (x : PortNo) :
    (commitEvent p q scope s).port x =
      if scope.ports then { s.port x with record := (s.port x).resulting, staged := none } else s.port x := by
  have hports : (commitEvent p q scope s).ports = (openCommit p q scope s).ports := by
    have h : (takeImages p q scope s).ports = _ := (congrArg State.ports sansImages_takeImages :)
    unfold commitEvent
    split
    · rw [commitDevice_ports, h]
      rfl
    · exact h
  rw [State.port, hports, openCommit]
  dsimp only
  split
  · exact Table.read_mapAll _ _ _
  · rfl

/-! #### The device part (R119 step 5, R123) -/

theorem stagedParams_takeImages : (takeImages p q scope s).stagedParams = s.stagedParams :=
  (congrArg State.stagedParams sansImages_takeImages :)

theorem namesDevice_iff : namesDevice scope s = true ↔ scope.device = true ∧ s.stagedParams.isSome = true := by
  simp [namesDevice]

theorem commitEvent_noDevice (h : namesDevice scope s = false) : commitEvent p q scope s = takeImages p q scope s := by
  unfold commitEvent
  split
  · next hd =>
    have hnone : s.stagedParams = none := by simpa [namesDevice, hd] using h
    simp only [commitDevice, stagedParams_takeImages, hnone]
  · rfl

theorem commitEvent_applies {d : DeviceParams} (hd : scope.device = true) (hs : s.stagedParams = some d)
    (hq : s.lanesQuiet = true) :
    commitEvent p q scope s =
      modRecord (fun c => { c with devicePart := .applied }) (applyDevice d (takeImages p q scope s)) := by
  simp only [commitEvent, hd, if_true, commitDevice, stagedParams_takeImages, hs, hq]

theorem commitEvent_waits {d : DeviceParams} (hd : scope.device = true) (hs : s.stagedParams = some d)
    (hq : s.lanesQuiet = false) :
    commitEvent p q scope s =
      modRecord (fun c => { c with devicePart := .pending })
        { takeImages p q scope s with trunkCommitPending := true } := by
  simp only [commitEvent, hd, if_true, commitDevice, stagedParams_takeImages, hs, hq, Bool.false_eq_true, if_false]

theorem record_commitEvent : (commitEvent p q scope s).record = some (eventRecord p q scope s) := by
  cases hn : namesDevice scope s with
  | false =>
    rw [commitEvent_noDevice hn, record_takeImages, eventRecord, devicePartOf, hn]
    rfl
  | true =>
    obtain ⟨hd, hs⟩ := namesDevice_iff.1 hn
    obtain ⟨d, hs⟩ := Option.isSome_iff_exists.1 hs
    cases hq : s.lanesQuiet with
    | false =>
      rw [commitEvent_waits hd hs hq]
      simp only [modRecord, record_takeImages, Option.map_some, eventRecord, devicePartOf, hn, hq]
      rfl
    | true =>
      rw [commitEvent_applies hd hs hq, Arbiter.applyDevice_eq]
      simp only [modRecord, record_takeImages, Option.map_some, eventRecord, devicePartOf, hn, hq]
      rfl

end event

/-! ### The conclusion of a COMMIT (R126, R147, R148) -/

/-- The event of a COMMIT with its claims, the record being left as `record`. -/
def claimed (p : PortNo) (q : Request) (scope : CommitScope) (record : Option CommitRecord) (s : State) : State :=
  commitClaims (freeStreams scope.streams s) (holderStreams scope.streams s) (namesDevice scope s && s.lanesQuiet)
    { commitEvent p q scope s with record := record }

section conclusion
variable {p : PortNo} {q : Request} {scope : CommitScope} {s : State}

theorem keepsFull_iff (s : State) : s.keepsFull = true ↔ ∃ x, (s.port x).resulting.level = .full := by
  simp only [State.keepsFull, Table.any_toList, beq_iff_eq]
  rfl

/-- A COMMIT that is taken answers at once where its record is complete, and else keeps its record open. -/
theorem takeCommit_taken (hrecord : s.record = none) (hfull : scope.ports = true → s.keepsFull = true) :
    takeCommit p q scope s =
      if (eventRecord p q scope s).complete then
        (some ⟨.done, (eventRecord p q scope s).doneResult⟩, claimed p q scope none s)
      else (none, claimed p q scope (some (eventRecord p q scope s)) s) := by
  have hrefused : ¬ (scope.ports && !s.keepsFull) = true := by simpa using hfull
  have hsame : { commitEvent p q scope s with record := some (eventRecord p q scope s) } = commitEvent p q scope s := by
    rw [← record_commitEvent]
  unfold takeCommit
  rw [hrecord, if_neg (by simp), if_neg hrefused]
  extract_lets quiet named free holders opened t₁ t₂ t₃ t₄ t₅ deviceApplied
  have hopened : t₂ = openCommit p q scope s := by
    simp only [t₂, openCommit]
    split <;> rfl
  have hevent : t₅ = commitEvent p q scope s := by
    simp only [t₅, t₄, t₃, hopened]
    rfl
  rw [hevent, record_commitEvent, claimed, claimed, hsame]
  rfl

/-- The record is complete where no stream and no device set is left pending (R126). -/
theorem complete_eventRecord :
    (eventRecord p q scope s).complete = true ↔
      holderStreams scope.streams s = [] ∧ devicePartOf scope s ≠ .pending := by
  simp [CommitRecord.complete, eventRecord]

theorem devicePartOf_pending :
    devicePartOf scope s = .pending ↔ scope.device = true ∧ s.stagedParams.isSome = true ∧ s.lanesQuiet = false := by
  rw [← and_assoc, ← namesDevice_iff, devicePartOf]
  cases namesDevice scope s <;> cases s.lanesQuiet <;> simp

/-- What the claims and the conclusion of a COMMIT leave as its event has made it. -/
structure Keeps (w t : State) : Prop where
  stream : ∀ i, (t.stream i).sansBinding = (w.stream i).sansBinding
  params : t.params = w.params
  stagedParams : t.stagedParams = w.stagedParams
  trunkCommitPending : t.trunkCommitPending = w.trunkCommitPending
  record : ∀ x, (t.port x).record = (w.port x).record
  staged : ∀ x, (t.port x).staged = (w.port x).staged

theorem Keeps.trans {u w t : State} (h : Keeps u w) (h' : Keeps w t) : Keeps u t where
  stream i := (h'.stream i).trans (h.stream i)
  params := h'.params.trans h.params
  stagedParams := h'.stagedParams.trans h.stagedParams
  trunkCommitPending := h'.trunkCommitPending.trans h.trunkCommitPending
  record x := (h'.record x).trans (h.record x)
  staged x := (h'.staged x).trans (h.staged x)

theorem keeps_of_sansBinding {w t : State} (h : t.sansBinding = w.sansBinding) : Keeps w t where
  stream := stream_of_sansBinding h
  params := params_of_sansBinding h
  stagedParams := stagedParams_of_sansBinding h
  trunkCommitPending := trunkCommitPending_of_sansBinding h
  record x := by rw [port_of_sansBinding h]
  staged x := by rw [port_of_sansBinding h]

theorem claimed_sansBinding (record : Option CommitRecord) :
    (claimed p q scope record s).sansBinding = { commitEvent p q scope s with record := record }.sansBinding :=
  commitClaims_sansBinding _ _ _ _

theorem keeps_claimed (record : Option CommitRecord) :
    Keeps (commitEvent p q scope s) (claimed p q scope record s) :=
  Keeps.trans (w := { commitEvent p q scope s with record := record })
    ⟨fun _ => rfl, rfl, rfl, rfl, fun _ => rfl, fun _ => rfl⟩ (keeps_of_sansBinding (claimed_sansBinding record))

/-- The placing of a response that is not void (R147). -/
theorem respond_notVoid {e : Execution} {a : Reply} (he : s.inExecution = some e) (hv : e.void = false) :
    respond p q a s =
      { placeReserved p ⟨q.tag, a.status, responsePayload q.code (selectorEcho q) a.result⟩ s with
        inExecution := none } := by
  simp only [respond, he, hv, Bool.false_eq_true, if_false]

theorem responses_placed (p : PortNo) (a : Response) (s : State) :
    ((placeReserved p a s).port p).responses = (s.port p).responses ++ [a] :=
  congrArg PortRec.responses
    (port_modPort_same s p fun r => { r with responses := r.responses ++ [a], reserved := false })

theorem keeps_placed (p : PortNo) (a : Response) (s : State) :
    Keeps s { placeReserved p a s with inExecution := none } :=
  ⟨fun _ => rfl, rfl, rfl, rfl,
    port_modPort_keeps s PortRec.record (f := fun r => { r with responses := r.responses ++ [a], reserved := false })
      (fun _ => rfl) p,
    port_modPort_keeps s PortRec.staged (f := fun r => { r with responses := r.responses ++ [a], reserved := false })
      (fun _ => rfl) p⟩

/-- A COMMIT that is complete at once is answered DONE with its counts (R126). -/
def answered (p : PortNo) (q : Request) (scope : CommitScope) (s : State) : State :=
  { placeReserved p
      ⟨q.tag, .done, responsePayload q.code (selectorEcho q) (eventRecord p q scope s).doneResult⟩
      (claimed p q scope none s) with
    inExecution := none }

/-- A COMMIT with parts pending bars its port (R148). -/
def leftOpen (p : PortNo) (q : Request) (scope : CommitScope) (s : State) : State :=
  barPort p (claimed p q scope (some (eventRecord p q scope s)) s)

section taken
variable {e : Execution} (hrecord : s.record = none) (hfull : scope.ports = true → s.keepsFull = true)
  (he : s.inExecution = some e) (hv : e.void = false)
include hrecord hfull he hv

theorem conclude_takeCommit :
    conclude p q (takeCommit p q scope) s =
      if (eventRecord p q scope s).complete then answered p q scope s else leftOpen p q scope s := by
  have hexecution : (claimed p q scope none s).inExecution = some e :=
    (inExecution_of_sansBinding (claimed_sansBinding none)).trans (sameBlock_commitEvent.inExecution.trans he)
  unfold conclude
  rw [takeCommit_taken hrecord hfull]
  cases (eventRecord p q scope s).complete with
  | true => exact respond_notVoid hexecution hv
  | false => rfl

theorem keeps_conclude :
    Keeps (commitEvent p q scope s) (conclude p q (takeCommit p q scope) s) := by
  rw [conclude_takeCommit hrecord hfull he hv]
  split
  · exact (keeps_claimed none).trans (keeps_placed _ _ _)
  · exact (keeps_claimed _).trans ⟨fun _ => rfl, rfl, rfl, rfl, fun _ => rfl, fun _ => rfl⟩

theorem lanes_conclude :
    ∃ record, (conclude p q (takeCommit p q scope) s).lanes = (claimed p q scope record s).lanes := by
  rw [conclude_takeCommit hrecord hfull he hv]
  split
  · exact ⟨none, rfl⟩
  · exact ⟨_, rfl⟩

end taken

/-! #### The streams, lanes and device set after a COMMIT -/

section after
variable {t : State} {i : StreamNo}

/-- An image is applied at once where its stream holds no lane (R121). -/
theorem stream_applied (h : Keeps (commitEvent p q scope s) t) {m : StreamImage} (hi : i ∈ freeStreams scope.streams s)
    (hm : (s.stream i).staged = some m) :
    (t.stream i).sansBinding = ((s.stream i).applyImage s.paceCount s.params.settleInterval m).sansBinding := by
  have hh : i ∉ holderStreams scope.streams s := fun hh => (mem_holderStreams.1 hh).2.2 (mem_freeStreams.1 hi).2.2
  rw [h.stream, stream_commitEvent, stream_takeImages, if_neg hh, if_pos hi, committed, hm]

/-- A stream that holds a lane becomes commit pending (R120). -/
theorem stream_pended (h : Keeps (commitEvent p q scope s) t) (hi : i ∈ holderStreams scope.streams s) :
    (t.stream i).sansBinding = { s.stream i with commitPending := true }.sansBinding := by
  rw [h.stream, stream_commitEvent, stream_takeImages, if_pos hi]

theorem stream_untouched (h : Keeps (commitEvent p q scope s) t) (hi : i ∉ commitStreams scope.streams s) :
    (t.stream i).sansBinding = (s.stream i).sansBinding := by
  have hf : i ∉ freeStreams scope.streams s := fun hf => hi (List.mem_of_mem_filter hf)
  have hh : i ∉ holderStreams scope.streams s := fun hh => hi (List.mem_of_mem_filter hh)
  rw [h.stream, stream_commitEvent, stream_takeImages, if_neg hh, if_neg hf]

theorem heldLane_commitEvent (i : StreamNo) :
    ((commitEvent p q scope s).stream i).heldLane = (s.stream i).heldLane := by
  rw [stream_commitEvent, stream_takeImages]
  split
  · rfl
  · split
    · unfold committed
      split <;> rfl
    · rfl

/-- The BOUND lane of a stream that becomes commit pending is released at once (R92, test 4). -/
theorem lane_claimed (hs : LaneInv s) {l : LaneNo} (hi : i ∈ holderStreams scope.streams s)
    (hheld : (s.stream i).heldLane = some l) (hb : (s.lane l).state = .bound) (record : Option CommitRecord) :
    (claimed p q scope record s).lane l = (s.lane l).begin .release .unbinding i := by
  obtain ⟨-, hholder, hlist, -⟩ := hs
  have hblock := sameBlock_commitEvent (p := p) (q := q) (scope := scope) (s := s)
  have hlane : (commitEvent p q scope s).lane l = s.lane l :=
    congrArg (fun ls : Table 16 LaneRec => ls.read l) hblock.lanes
  have hi' : (s.lane l).holder = some i := (hholder l i).2 hheld
  have hpending : ((commitEvent p q scope s).stream i).commitPending = true := by
    rw [stream_commitEvent, stream_takeImages, if_pos hi]
  have honly (j : StreamNo) : ((commitEvent p q scope s).stream j).heldLane = some l ↔ j = i := by
    rw [heldLane_commitEvent, ← hholder, hi', Option.some.injEq, eq_comm]
  have hunlisted (g : GroupNo) : l ∉ (commitEvent p q scope s).freeLanes.read g := by
    rw [hblock.freeLanes, hlist, hb]
    exact fun h => LaneState.noConfusion h.1
  rw [← hlane]
  exact lane_commitClaims (s := { commitEvent p q scope s with record := record }) _ hi (hlane ▸ hb) (hlane ▸ hi') honly
    hpending hunlisted

/-- A staged set that is named is applied at once with the lanes quiet (R123, R124). -/
theorem params_applied (h : Keeps (commitEvent p q scope s) t) {d : DeviceParams} (hd : scope.device = true)
    (hs : s.stagedParams = some d) (hq : s.lanesQuiet = true) :
    t.params = d ∧ t.stagedParams = none ∧ t.trunkCommitPending = false := by
  rw [h.params, h.stagedParams, h.trunkCommitPending, commitEvent_applies hd hs hq]
  exact ⟨rfl, rfl, rfl⟩

theorem sameParams_takeImages :
    (takeImages p q scope s).params = s.params ∧ (takeImages p q scope s).stagedParams = s.stagedParams
      ∧ (takeImages p q scope s).trunkCommitPending = s.trunkCommitPending := by
  have h := sansImages_takeImages (p := p) (q := q) (scope := scope) (s := s)
  exact ⟨(congrArg State.params h :), (congrArg State.stagedParams h :), (congrArg State.trunkCommitPending h :)⟩

/-- While a lane is in handshake it waits (R123). -/
theorem params_waiting (h : Keeps (commitEvent p q scope s) t) {d : DeviceParams} (hd : scope.device = true)
    (hs : s.stagedParams = some d) (hq : s.lanesQuiet = false) :
    t.params = s.params ∧ t.stagedParams = some d ∧ t.trunkCommitPending = true := by
  obtain ⟨hparams, hstaged, -⟩ := sameParams_takeImages (p := p) (q := q) (scope := scope) (s := s)
  rw [h.params, h.stagedParams, h.trunkCommitPending, commitEvent_waits hd hs hq]
  exact ⟨hparams, hstaged.trans hs, rfl⟩

theorem params_untouched (h : Keeps (commitEvent p q scope s) t)
    (hn : scope.device = false ∨ s.stagedParams = none) :
    t.params = s.params ∧ t.stagedParams = s.stagedParams ∧ t.trunkCommitPending = s.trunkCommitPending := by
  have hnone : namesDevice scope s = false := by
    obtain hn | hn := hn <;> simp [namesDevice, hn]
  rw [h.params, h.stagedParams, h.trunkCommitPending, commitEvent_noDevice hnone]
  exact sameParams_takeImages

theorem ports_applied (h : Keeps (commitEvent p q scope s) t) (x : PortNo) :
    (t.port x).record = (if scope.ports then (s.port x).staged.getD (s.port x).record else (s.port x).record)
      ∧ (t.port x).staged = if scope.ports then none else (s.port x).staged := by
  rw [h.record, h.staged, port_commitEvent]
  split <;> exact ⟨rfl, rfl⟩

end after

/-- A port's response queue, which no part of a COMMIT's event or claims changes. -/
theorem port_claimed (record : Option CommitRecord) (x : PortNo) :
    ((claimed p q scope record s).port x).responses = (s.port x).responses
      ∧ ((claimed p q scope record s).port x).reserved = (s.port x).reserved := by
  have hport : (claimed p q scope record s).port x = (commitEvent p q scope s).port x :=
    port_of_sansBinding (claimed_sansBinding record) x
  rw [hport, port_commitEvent]
  split <;> exact ⟨rfl, rfl⟩

theorem record_claimed (record : Option CommitRecord) : (claimed p q scope record s).record = record :=
  record_of_sansBinding (claimed_sansBinding record)

theorem barred_claimed (record : Option CommitRecord) : (claimed p q scope record s).barred = s.barred :=
  (barred_of_sansBinding (claimed_sansBinding record)).trans sameBlock_commitEvent.barred

/-- The agent's part after a COMMIT that is complete at once. -/
theorem agent_answered :
    (answered p q scope s).record = none ∧ (answered p q scope s).barred = s.barred
      ∧ ((answered p q scope s).port p).responses =
          (s.port p).responses ++
            [⟨q.tag, .done, responsePayload q.code (selectorEcho q) (eventRecord p q scope s).doneResult⟩] := by
  refine ⟨record_claimed none, barred_claimed none, (responses_placed p _ _).trans ?_⟩
  rw [(port_claimed none p).1]

/-- The agent's part after a COMMIT with parts pending. -/
theorem agent_leftOpen :
    (leftOpen p q scope s).record = some (eventRecord p q scope s) ∧ (leftOpen p q scope s).barred = some p
      ∧ ((leftOpen p q scope s).port p).responses = (s.port p).responses
      ∧ ((leftOpen p q scope s).port p).reserved = (s.port p).reserved :=
  ⟨record_claimed _, rfl, port_claimed (some (eventRecord p q scope s)) p⟩

end conclusion

/-! ### A COMMIT that is taken -/

section command
variable {s : State} {p : PortNo} {q : Request} {scope : CommitScope}

theorem ofCode_commit (hcode : q.code = 0x0A) : Command.ofCode q.code = some .commit := by rw [hcode]; rfl

/-- A COMMIT whose scope is good is taken and concluded in one step. -/
theorem exec_commit_taken (hpin : s.resetPin = false) (hcount : s.uncounted = false)
    (hnext : s.nextRequest = some (p, q)) (hturn : s.turn = false) (hfull : (s.port p).record.level = .full)
    (hcode : q.code = 0x0A) (hscope : commitScopeOf q = .ok scope) :
    exec .commit s = .next (conclude p q (takeCommit p q scope) (takeRequest p q s).dropTurn) := by
  have hbody : bodyCommit p q = .ok (takeCommit p q scope) := by simp only [bodyCommit, hscope]
  have run : exec .commit s = .next (serve (isCommand .commit) bodyCommit s) := running_counted hpin hcount
  rw [run, serve_takes hnext (Pacing.isCommand_of_ofCode (ofCode_commit hcode)),
    takeAndCheck_ok (hfull ▸ Pacing.privilegeFailure_full (ofCode_commit hcode)) hbody hturn]

/-- The streams that hold no lane are counted as applied (R120). -/
theorem ncard_freeStreams (part : StreamPart) (s : State) :
    {i : StreamNo | names part i ∧ (s.stream i).staged.isSome = true ∧ (s.stream i).heldLane = none}.ncard =
      (freeStreams part s).length := by
  have hset : {i : StreamNo | names part i ∧ (s.stream i).staged.isSome = true ∧ (s.stream i).heldLane = none} =
      ((freeStreams part s).toFinset : Set StreamNo) := by
    ext i
    simp only [Set.mem_ofPred_eq, List.coe_toFinset, mem_freeStreams]
  rw [hset, Set.ncard_coe_finset, List.toFinset_card_of_nodup freeStreams_nodup]

theorem holderStreams_eq_nil_iff (part : StreamPart) (s : State) :
    holderStreams part s = [] ↔
      ¬ ∃ i, names part i ∧ (s.stream i).staged.isSome = true ∧ (s.stream i).heldLane ≠ none := by
  simp only [List.eq_nil_iff_forall_not_mem, mem_holderStreams, not_exists]

/-- The response to a COMMIT echoes its selector (R168) and gives the applied and the withdrawn count (R173). -/
theorem commitPayload_eq (hcode : q.code = 0x0A) :
    responsePayload q.code (selectorEcho q) (eventRecord p q scope s).doneResult =
      octetTable 56 ([0x0A, octetAt q.payload 2] ++ octets2 (freeStreams scope.streams s).length ++ octets2 0) := by
  have hecho : selectorEcho q = octetAt q.payload 2 := by
    simp only [selectorEcho, ofCode_commit hcode, Command.hasSelector, if_true]
  rw [hecho, hcode]
  rfl

/-- The taking of a request reserves its port a response place (R145), and leaves its responses. -/
theorem port_taken_self (s : State) (p : PortNo) (q : Request) :
    (takeRequest p q s).dropTurn.port p = { s.port p with requests := (s.port p).requests.tail, reserved := true } :=
  port_modPort_same s p fun r => { r with requests := r.requests.tail, reserved := true }

theorem resulting_taken (s : State) (p : PortNo) (q : Request) (x : PortNo) :
    ((takeRequest p q s).dropTurn.port x).resulting = (s.port x).resulting :=
  Pacing.port_taken_keeps s p q PortRec.resulting (fun _ => rfl) x

end command

/-- Settles O46: the event by streams, ports and device part, then the claims, which release the lanes of the holders
and change bindings only, and the conclusion by whether the record is complete. -/
theorem commitTaken : Obligations.CommitTaken := by
  intro s p q scope hpin hcount hnext hturn hfull hcode hscope hrecord hports named quiet
  let u := (takeRequest p q s).dropTurn
  have hkeepsFull (h : scope.ports = true) : u.keepsFull = true :=
    (keepsFull_iff u).2 ((hports h).imp fun x hx => (congrArg PortRecord.level (resulting_taken s p q x)).trans hx)
  have hnamed (i : StreamNo) : named i ↔ names scope.streams i := by
    simp only [named, names]
    cases scope.streams <;> rfl
  have hquiet : u.lanesQuiet = true ↔ quiet := Arbiter.lanesQuiet_iff u
  have hnotQuiet : u.lanesQuiet = false ↔ ¬ quiet := by rw [← hquiet, Bool.not_eq_true]
  have hkeeps : Keeps (commitEvent p q scope u) (conclude p q (takeCommit p q scope) u) :=
    keeps_conclude (s := u) hrecord hkeepsFull rfl rfl
  have htaken := conclude_takeCommit (s := u) (p := p) (q := q) hrecord hkeepsFull rfl rfl
  have hport (x : PortNo) : (u.port x).record = (s.port x).record ∧ (u.port x).staged = (s.port x).staged :=
    ⟨Pacing.port_taken_keeps s p q PortRec.record (fun _ => rfl) x,
      Pacing.port_taken_keeps s p q PortRec.staged (fun _ => rfl) x⟩
  refine ⟨_, exec_commit_taken hpin hcount hnext hturn hfull hcode hscope, fun x => ?ports, fun i m hn hm hh => ?free,
    fun i m hn hm hh => ?holder, fun i hi => ?other, fun d hd hs hq => ?deviceApplied, fun d hd hs hq => ?deviceWaits,
    fun hn => ?noDevice, ?record⟩
  case ports =>
    obtain ⟨hr, hs⟩ := hport x
    rw [← hr, ← hs]
    exact ports_applied hkeeps x
  case free =>
    have hi : i ∈ freeStreams scope.streams u :=
      mem_freeStreams.2 ⟨(hnamed i).1 hn, Option.isSome_iff_exists.2 ⟨m, hm⟩, hh⟩
    have h := stream_applied hkeeps hi hm
    exact ⟨(congrArg StreamRec.config h :), (congrArg StreamRec.staged h :), (congrArg StreamRec.commitPending h :),
      (congrArg StreamRec.generation h :), (congrArg StreamRec.settle h :), (congrArg StreamRec.count h :),
      (congrArg StreamRec.credit h :), (congrArg StreamRec.expected h :)⟩
  case holder =>
    have hi : i ∈ holderStreams scope.streams u :=
      mem_holderStreams.2 ⟨(hnamed i).1 hn, Option.isSome_iff_exists.2 ⟨m, hm⟩, hh⟩
    have h := stream_pended hkeeps hi
    refine ⟨(congrArg StreamRec.config h :), (congrArg StreamRec.staged h :).trans hm,
      (congrArg StreamRec.commitPending h :), (congrArg StreamRec.generation h :), fun hinv l hl hb => ?_⟩
    obtain ⟨record, hlanes⟩ := lanes_conclude (s := u) (p := p) (q := q) hrecord hkeepsFull rfl rfl
    exact (congrArg (fun ls : Table 16 LaneRec => ls.read l) hlanes).trans
      (lane_claimed (s := u) hinv hi hl hb record)
  case other =>
    have hnot : i ∉ commitStreams scope.streams u := fun hc => by
      obtain ⟨hn, hs⟩ := mem_commitStreams.1 hc
      exact hi.elim (fun h => h ((hnamed i).2 hn)) fun h => by simp [show (u.stream i).staged = none from h] at hs
    have h := stream_untouched hkeeps hnot
    exact ⟨(congrArg StreamRec.config h :), (congrArg StreamRec.staged h :), (congrArg StreamRec.commitPending h :),
      (congrArg StreamRec.generation h :)⟩
  case deviceApplied => exact params_applied hkeeps hd hs (hquiet.2 hq)
  case deviceWaits => exact params_waiting hkeeps hd hs (hnotQuiet.2 hq)
  case noDevice => exact params_untouched (s := u) hkeeps hn
  case record =>
    intro applied pendingStream pendingDevice
    have happlied : applied = (freeStreams scope.streams u).length := by
      simp only [applied, hnamed]
      exact ncard_freeStreams scope.streams u
    have hstream : holderStreams scope.streams u = [] ↔ ¬ pendingStream := by
      simp only [pendingStream, hnamed]
      exact holderStreams_eq_nil_iff scope.streams u
    have hdevice : devicePartOf scope u = .pending ↔ pendingDevice := by rw [devicePartOf_pending, hnotQuiet]; rfl
    have hcomplete : (eventRecord p q scope u).complete = true ↔ ¬ pendingStream ∧ ¬ pendingDevice := by
      rw [complete_eventRecord, hstream, ne_eq, hdevice]
    have hself : u.port p = { s.port p with requests := (s.port p).requests.tail, reserved := true } :=
      port_taken_self s p q
    rw [happlied, htaken]
    refine ⟨fun hns hnd => ?complete, fun hpending => ?pending⟩
    case complete =>
      obtain ⟨hr, hb, hresponses⟩ := agent_answered (p := p) (q := q) (scope := scope) (s := u)
      rw [if_pos (hcomplete.2 ⟨hns, hnd⟩), hresponses, hself, commitPayload_eq hcode]
      exact ⟨hr, hb, rfl⟩
    case pending =>
      obtain ⟨hr, hb, hresponses, hreserved⟩ := agent_leftOpen (p := p) (q := q) (scope := scope) (s := u)
      rw [if_neg fun h => hpending.elim (hcomplete.1 h).1 (hcomplete.1 h).2, hresponses, hreserved, hself]
      refine ⟨hb, rfl, rfl, eventRecord p q scope u, hr, rfl, rfl, holderStreams_nodup, rfl, rfl, rfl, rfl, fun i => ?_,
        hdevice⟩
      rw [hnamed]
      exact mem_holderStreams

end Sys2Proof.Proofs.Holding

/-! The cell pool's invariant: what each operation does to the number of buffers that are free or hold a queued cell. -/

namespace Sys2Proof.Proofs.Pool

open Sys2Proof Sys2Proof.Machine

/-! ### The buffers of the pool -/

/-- The buffers that are free or hold a queued cell (R104). -/
def buffers (s : State) : Nat := s.freeBuffers + s.queuedCells

theorem poolInv_iff (s : State) : PoolInv s ↔ buffers s = Config.poolSize := Iff.rfl

/-- The sum of a list with one member replaced. -/
theorem sum_set_add {l : List Nat} {k : Nat} (hk : k < l.length) (x : Nat) : (l.set k x).sum + l[k] = l.sum + x := by
  have hset : (l.set k x).sum = x + (l.eraseIdx k).sum := (List.set_perm_cons_eraseIdx hk x).sum_eq
  have hold : l[k] + (l.eraseIdx k).sum = l.sum := (List.getElem_cons_eraseIdx_perm hk).sum_eq
  omega

section records
variable {s t : State}

/-- A stream's record replaced: its own queue is all that counts. -/
theorem queuedCells_setStream (s : State) (i : StreamNo) (r : StreamRec) :
    (s.setStream i r).queuedCells + (s.stream i).queue.length = s.queuedCells + r.queue.length := by
  have hi : i.val < (s.streams.toList.map fun r => r.queue.length).length := by simp
  have hread : (s.streams.toList.map fun r => r.queue.length)[i.val] = (s.stream i).queue.length := by
    rw [List.getElem_map, Table.toList_getElem]
    rfl
  rw [← hread, State.queuedCells, State.queuedCells, setStream_streams, Table.toList_write, List.map_set]
  exact sum_set_add hi _

/-- The buffers of a state whose free buffers and queues, stream by stream, are another's. -/
theorem buffers_congr (hfree : t.freeBuffers = s.freeBuffers)
    (hqueue : t.streams.mapAll (·.queue) = s.streams.mapAll (·.queue)) : buffers t = buffers s := by
  have hlist := congrArg Vector.toList hqueue
  simp only [Table.toList_mapAll] at hlist
  have hlengths := congrArg (List.map List.length) hlist
  simp only [List.map_map, Function.comp_def] at hlengths
  rw [buffers, buffers, hfree, State.queuedCells, State.queuedCells, hlengths]

/-- Every stream changed alike, its queue kept. -/
theorem buffers_mapStreams {f : StreamRec → StreamRec} (hfree : t.freeBuffers = s.freeBuffers)
    (hstreams : t.streams = s.streams.mapAll f) (hf : ∀ r, (f r).queue = r.queue) : buffers t = buffers s :=
  buffers_congr hfree (by rw [hstreams]; exact Table.mapAll_mapAll_of_eq hf)

theorem buffers_of_sansBinding (h : t.sansBinding = s.sansBinding) : buffers t = buffers s :=
  buffers_congr (freeBuffers_of_sansBinding h) <| Table.ext_read fun i => by
    rw [Table.read_mapAll, Table.read_mapAll]
    exact (congrArg StreamRec.queue (stream_of_sansBinding h i) :)

theorem buffers_of_sansNotices (h : t.sansNotices = s.sansNotices) : buffers t = buffers s :=
  buffers_congr (freeBuffers_of_sansNotices h) <| Table.ext_read fun i => by
    rw [Table.read_mapAll, Table.read_mapAll]
    exact (congrArg StreamRec.queue (stream_of_sansNotices h i) :)

/-- A queue gives back or takes one buffer for each cell that it loses or gains. -/
theorem buffers_queueChanged {free : Nat} {i : StreamNo} {f : StreamRec → StreamRec}
    (h : free + (f (s.stream i)).queue.length = s.freeBuffers + (s.stream i).queue.length) :
    buffers ({ s with freeBuffers := free }.modStream i f) = buffers s := by
  have hqueued := queuedCells_setStream s i (f (s.stream i))
  change free + (s.setStream i (f (s.stream i))).queuedCells = s.freeBuffers + s.queuedCells
  omega

variable (s)

@[simp] theorem buffers_modStream (i : StreamNo) {f : StreamRec → StreamRec} (hf : ∀ r, (f r).queue = r.queue) :
    buffers (s.modStream i f) = buffers s :=
  buffers_queueChanged (by rw [hf])

@[simp] theorem buffers_modLane (l : LaneNo) (f : LaneRec → LaneRec) : buffers (s.modLane l f) = buffers s := rfl

@[simp] theorem buffers_modPort (p : PortNo) (f : PortRec → PortRec) : buffers (s.modPort p f) = buffers s := rfl

@[simp] theorem buffers_setFree (g : GroupNo) (ls : List LaneNo) : buffers (s.setFree g ls) = buffers s := rfl

@[simp] theorem buffers_dropTurn : buffers s.dropTurn = buffers s := rfl

@[simp] theorem buffers_modRecord (f : CommitRecord → CommitRecord) : buffers (modRecord f s) = buffers s := rfl

@[simp] theorem buffers_raise (pt : CausePoint) : buffers (raise pt s) = buffers s :=
  buffers_of_sansNotices (raise_sansNotices s pt)

@[simp] theorem buffers_removeNotice (pt : CausePoint) : buffers (removeNotice pt s) = buffers s :=
  buffers_of_sansNotices (removeNotice_sansNotices s pt)

end records

/-! ### The arbiter and the lane judgements -/

section binding
variable (s : State)

@[simp] theorem buffers_startRelease (l : LaneNo) : buffers (startRelease l s) = buffers s :=
  buffers_of_sansBinding (startRelease_sansBinding s l)

@[simp] theorem buffers_judgeLane (l : LaneNo) : buffers (judgeLane l s) = buffers s :=
  buffers_of_sansBinding (judgeLane_sansBinding s l)

@[simp] theorem buffers_judgeGroup (g : GroupNo) : buffers (judgeGroup g s) = buffers s :=
  buffers_of_sansBinding (judgeGroup_sansBinding s g)

@[simp] theorem buffers_removeEntry (i : StreamNo) : buffers (removeEntry i s) = buffers s :=
  buffers_of_sansBinding (removeEntry_sansBinding s i)

@[simp] theorem buffers_pass : buffers (pass s) = buffers s := buffers_of_sansBinding (pass_sansBinding s)

@[simp] theorem buffers_callPass : buffers (callPass s) = buffers s := buffers_of_sansBinding (callPass_sansBinding s)

@[simp] theorem buffers_passOnJoin (joined : Bool) : buffers (passOnJoin joined s) = buffers s :=
  buffers_of_sansBinding (passOnJoin_sansBinding s joined)

@[simp] theorem buffers_notify (kind : NotifyKind) (i : StreamNo) : buffers (notify kind i s) = buffers s :=
  buffers_of_sansBinding (notify_sansBinding s kind i)

@[simp] theorem buffers_demandChanged (i : StreamNo) : buffers (demandChanged i s) = buffers s :=
  buffers_of_sansBinding (demandChanged_sansBinding s i)

@[simp] theorem buffers_refusalReports (i : StreamNo) (joined : Bool) :
    buffers (refusalReports i joined s) = buffers s :=
  buffers_of_sansBinding (refusalReports_sansBinding s i joined)

@[simp] theorem buffers_commitClaims (free holders : List StreamNo) (deviceApplied : Bool) :
    buffers (commitClaims free holders deviceApplied s) = buffers s :=
  buffers_of_sansBinding (Holding.commitClaims_sansBinding free holders deviceApplied s)

@[simp] theorem buffers_duringPass {event : State → State} (hevent : ∀ t, buffers (event t) = buffers t) :
    buffers (duringPass event s) = buffers s :=
  duringPass_keeps (P := fun t => buffers t = buffers s) (fun _ _ h => (buffers_of_sansBinding h).trans)
    (fun t => (hevent t).trans) rfl

end binding

/-! ### Pacing and queues -/

section queues
variable (s : State)

@[simp] theorem buffers_changePacing (i : StreamNo) {f : StreamRec → StreamRec} (hf : ∀ r, (f r).queue = r.queue) :
    buffers (changePacing i f s) = buffers s := by
  unfold changePacing
  dsimp only
  split <;> simp [hf]

@[simp] theorem buffers_consumeCredit (i : StreamNo) : buffers (consumeCredit i s).2 = buffers s := by
  unfold consumeCredit
  split <;> simp

@[simp] theorem buffers_emptinessChanged (i : StreamNo) (wasEmpty : Bool) :
    buffers (emptinessChanged i wasEmpty s) = buffers s := by
  unfold emptinessChanged
  split <;> simp

/-- An append takes one free buffer for one cell more in the queue (R105). -/
theorem buffers_appendCell {s : State} (hfree : s.freeBuffers ≠ 0) (i : StreamNo) (c : TrafficCell) :
    buffers (appendCell i c s) = buffers s := by
  have hjoined : buffers ({ s with freeBuffers := s.freeBuffers - 1 }.modStream i
      fun r => { r with queue := r.queue ++ [c] }) = buffers s :=
    buffers_queueChanged (by
      rw [List.length_append, List.length_singleton]
      omega)
  unfold appendCell
  dsimp only
  split <;> simp [hjoined]

/-- A cell that leaves gives its buffer back (R106). -/
@[simp] theorem buffers_takeHead (i : StreamNo) : buffers (takeHead i s).2 = buffers s := by
  unfold takeHead
  split
  · rfl
  · next c rest hq =>
    rw [buffers_emptinessChanged]
    refine buffers_queueChanged ?_
    rw [hq, List.length_cons, Nat.add_assoc, Nat.add_comm 1]

/-- A flush gives back a buffer for every cell of the queue (R107). -/
@[simp] theorem buffers_flush (i : StreamNo) : buffers (flush i s) = buffers s := by
  unfold flush
  dsimp only
  split
  · rfl
  · rw [buffers_demandChanged]
    exact buffers_queueChanged rfl

/-- A stroke leaves every queue. -/
theorem struck_queue (r : StreamRec) : r.struck.queue = r.queue := by
  rw [Pacing.struck_eq]
  split <;> rfl

@[simp] theorem buffers_tellStroke (before : StreamRec) (i : StreamNo) :
    buffers (tellStroke before i s) = buffers s := by
  unfold tellStroke
  dsimp only
  split <;> split <;> simp

@[simp] theorem buffers_countStreams : buffers (countStreams s) = buffers s :=
  (foldl_keeps _ (fun t i => buffers_tellStroke t _ i) _).trans (buffers_mapStreams rfl rfl struck_queue)

@[simp] theorem buffers_countFirst : buffers (countFirst s) = buffers s := by
  unfold countFirst
  split <;> simp

@[simp] theorem buffers_advance : buffers (advance s) = buffers s := rfl

@[simp] theorem buffers_stroke : buffers (stroke s) = buffers s := by
  unfold stroke
  dsimp only [takeTurn_eq]
  split
  · simp
  · split <;> simp

end queues

/-! ### Life states -/

section lives
variable (s : State)

@[simp] theorem buffers_setLife (i : StreamNo) (life : Life) : buffers (setLife i life s) = buffers s := by
  simp [setLife]

@[simp] theorem buffers_enterClosed (i : StreamNo) : buffers (enterClosed i s) = buffers s := by
  simp [enterClosed, buffers_changePacing _ i (f := closePacing) fun _ => rfl]

@[simp] theorem buffers_judgeDrain (i : StreamNo) : buffers (judgeDrain i s) = buffers s := by
  unfold judgeDrain
  split <;> simp

@[simp] theorem buffers_openStream (i : StreamNo) : buffers (openStream i s).2 = buffers s := by
  unfold openStream
  dsimp only
  split
  · simp [buffers_changePacing _ i (f := openPacing) fun _ => rfl]
  · rfl

@[simp] theorem buffers_closeDiscarding (i : StreamNo) : buffers (closeDiscarding i s) = buffers s := by
  unfold closeDiscarding
  dsimp only
  split <;> simp

@[simp] theorem buffers_closePlain (i : StreamNo) : buffers (closePlain i s).2 = buffers s := by
  unfold closePlain
  split <;> simp

@[simp] theorem buffers_closeDiscard (i : StreamNo) : buffers (closeDiscard i s).2 = buffers s := by
  unfold closeDiscard
  split <;> simp

@[simp] theorem buffers_clearHold (i : StreamNo) : buffers (clearHold i s).2 = buffers s := by
  unfold clearHold
  split <;> simp

@[simp] theorem buffers_refusalLimitReached (i : StreamNo) : buffers (refusalLimitReached i s) = buffers s := by
  unfold refusalLimitReached
  split <;> simp

@[simp] theorem buffers_bindRefused (i : StreamNo) : buffers (bindRefused i s) = buffers s := by
  unfold bindRefused
  dsimp only
  split
  · split <;> simp
  · rfl

@[simp] theorem buffers_bindAccepted (i : StreamNo) : buffers (bindAccepted i s) = buffers s := by simp [bindAccepted]

/-- TIMER-CONTROL stop leaves the queue (R30). -/
theorem timerStop_queue (r : StreamRec) : (timerStop r).queue = r.queue := by
  unfold timerStop
  split <;> rfl

@[simp] theorem buffers_timerControl (i : StreamNo) {f : StreamRec → StreamRec} (hf : ∀ r, (f r).queue = r.queue) :
    buffers (timerControl i f s).2 = buffers s := by
  unfold timerControl
  split <;> simp [hf]

end lives

/-! ### Commits -/

section commits
variable (s : State)

@[simp] theorem buffers_takeCommitAnswer : buffers (takeCommitAnswer s) = buffers s := by
  unfold takeCommitAnswer
  split
  · dsimp only
    split <;> rfl
  · rfl

@[simp] theorem buffers_closeRecord (c : CommitRecord) (status : Status) (result : List Byte) :
    buffers (closeRecord c status result s) = buffers s := buffers_takeCommitAnswer _

@[simp] theorem buffers_judgeCompletion : buffers (judgeCompletion s) = buffers s := by
  unfold judgeCompletion
  split
  · split <;> simp
  · rfl

@[simp] theorem buffers_applyDevice (d : DeviceParams) : buffers (applyDevice d s) = buffers s := rfl

@[simp] theorem buffers_applyRecord (i : StreamNo) (img : StreamImage) : buffers (applyRecord i img s) = buffers s := by
  rw [applyRecord, buffers_removeEntry, buffers_modRecord]
  exact buffers_modStream s i fun _ => rfl

@[simp] theorem buffers_commitLoss (i : StreamNo) : buffers (commitLoss i s) = buffers s := by
  unfold commitLoss
  dsimp only
  split <;> simp

@[simp] theorem buffers_judgeDevicePart : buffers (judgeDevicePart s) = buffers s := by
  unfold judgeDevicePart
  split
  · split <;> simp
  · rfl

@[simp] theorem buffers_stageStream (i : StreamNo) (img : Option StreamImage) :
    buffers (stageStream i img s).2 = buffers s := by
  cases img <;> simp [stageStream]

@[simp] theorem buffers_stageDevice (img : Option DeviceParams) : buffers (stageDevice img s).2 = buffers s := by
  cases img <;> rfl

@[simp] theorem buffers_stagePort (p : PortNo) (img : Option PortRecord) :
    buffers (stagePort p img s).2 = buffers s := by
  cases img <;> rfl

@[simp] theorem buffers_discardStream (i : StreamNo) : buffers (discardStream i s) = buffers s :=
  buffers_modStream s i fun _ => rfl

@[simp] theorem buffers_discardDevice : buffers (discardDevice s) = buffers s := by
  unfold discardDevice
  dsimp only
  split
  · rw [buffers_callPass]
    rfl
  · rfl

@[simp] theorem buffers_discardAll : buffers (discardAll s) = buffers s := by
  rw [discardAll, buffers_discardDevice, buffers_modRecord]
  exact buffers_mapStreams rfl rfl fun _ => rfl

@[simp] theorem buffers_discard (scope : DiscardScope) : buffers (discard scope s).2 = buffers s := by
  cases scope <;> simp [Machine.discard]

@[simp] theorem buffers_commitFree (i : StreamNo) : buffers (commitFree i s) = buffers s := by
  unfold commitFree
  split <;> simp

@[simp] theorem buffers_commitHolder (i : StreamNo) : buffers (commitHolder i s) = buffers s := by simp [commitHolder]

@[simp] theorem buffers_commitDevice (quiet : Bool) : buffers (commitDevice quiet s) = buffers s := by
  unfold commitDevice
  split
  · rfl
  · split <;> rfl

theorem buffers_takeCommit (p : PortNo) (q : Request) (scope : CommitScope) :
    buffers (takeCommit p q scope s).2 = buffers s := by
  unfold takeCommit
  split
  · rfl
  · split
    · rfl
    · extract_lets quiet named free holders opened t₁ t₂ t₃ t₄ t₅ deviceApplied
      have hports : buffers t₂ = buffers s := by
        simp only [t₂]
        split <;> rfl
      have hfree : buffers t₃ = buffers s := (foldl_keeps _ buffers_commitFree _).trans hports
      have hholders : buffers t₄ = buffers s := (foldl_keeps _ buffers_commitHolder _).trans hfree
      have hdevice : buffers t₅ = buffers s := by
        simp only [t₅]
        split
        · rw [buffers_commitDevice, hholders]
        · exact hholders
      split
      · split
        · rw [buffers_commitClaims]
          exact hdevice
        · rw [buffers_commitClaims, hdevice]
      · exact hdevice

end commits

/-! ### Lanes, handshakes and the trunk link -/

section lanes
variable (s : State)

@[simp] theorem buffers_clearHolder (l : LaneNo) (i : StreamNo) : buffers (clearHolder l i s) = buffers s := by
  simp [clearHolder]

@[simp] theorem buffers_lossClaims (kind : NotifyKind) (i : StreamNo) : buffers (lossClaims kind i s) = buffers s := by
  simp [lossClaims]

@[simp] theorem buffers_loseLane (kind : NotifyKind) (l : LaneNo) (i : StreamNo) :
    buffers (loseLane kind l i s) = buffers s := by simp [loseLane]

@[simp] theorem buffers_loseHolder (kind : NotifyKind) (l : LaneNo) : buffers (loseHolder kind l s) = buffers s := by
  unfold loseHolder
  split <;> simp

@[simp] theorem buffers_staleCell (l : LaneNo) : buffers (staleCell l s) = buffers s := by simp [staleCell]

@[simp] theorem buffers_strayCell (l : LaneNo) : buffers (strayCell l s) = buffers s := by simp [strayCell]

@[simp] theorem buffers_takeAnswer (kind : Handshake) (l : LaneNo) (tag : Byte) {matching : State → State}
    (hmatching : ∀ t, buffers (matching t) = buffers t) : buffers (takeAnswer kind l tag matching s) = buffers s := by
  unfold takeAnswer
  split
  · simp
  · split <;> simp [hmatching]

@[simp] theorem buffers_takeUnknownAnswer (l : LaneNo) (tag : Byte) :
    buffers (takeUnknownAnswer l tag s) = buffers s := by
  unfold takeUnknownAnswer
  split <;> simp

@[simp] theorem buffers_takePause (paused : Bool) (l : LaneNo) (tag : Byte) :
    buffers (takePause paused l tag s) = buffers s := by
  unfold takePause
  split
  · simp
  · split <;> simp

@[simp] theorem buffers_freeOrDisable (l : LaneNo) : buffers (freeOrDisable l s) = buffers s := by
  unfold freeOrDisable
  split <;> rfl

@[simp] theorem buffers_handBack (l : LaneNo) (i : StreamNo) : buffers (handBack l i s) = buffers s := by
  simp [handBack]

@[simp] theorem buffers_bindAcceptMatched (l : LaneNo) : buffers (bindAcceptMatched l s) = buffers s := by
  unfold bindAcceptMatched
  dsimp only
  split <;> simp

@[simp] theorem buffers_bindRefuseMatched (l : LaneNo) : buffers (bindRefuseMatched l s) = buffers s := by
  unfold bindRefuseMatched
  dsimp only
  split <;> simp

@[simp] theorem buffers_releaseAckMatched (l : LaneNo) : buffers (releaseAckMatched l s) = buffers s := by
  unfold releaseAckMatched
  dsimp only
  split <;> simp

@[simp] theorem buffers_resetAckMatched (l : LaneNo) : buffers (resetAckMatched l s) = buffers s := by
  simp [resetAckMatched]

@[simp] theorem buffers_answerTimeout (l : LaneNo) : buffers (answerTimeout l s) = buffers s := by
  unfold answerTimeout
  dsimp only
  split
  · split <;> simp
  all_goals simp

@[simp] theorem buffers_leaveFreeList (l : LaneNo) : buffers (leaveFreeList l s) = buffers s := by
  unfold leaveFreeList
  dsimp only
  split <;> simp

@[simp] theorem buffers_laneDisable (l : LaneNo) : buffers (laneDisable l s).2 = buffers s := by
  unfold laneDisable
  dsimp only
  split <;> simp

@[simp] theorem buffers_disableLane (l : LaneNo) : buffers (disableLane l s).2 = buffers s := by
  unfold disableLane
  split <;> simp

@[simp] theorem buffers_startRecovery (l : LaneNo) : buffers (startRecovery l s) = buffers s := rfl

@[simp] theorem buffers_laneEnable (l : LaneNo) : buffers (laneEnable l s).2 = buffers s := by
  unfold laneEnable
  split
  · split <;> simp
  · rfl

@[simp] theorem buffers_laneRetire (l : LaneNo) : buffers (laneRetire l s).2 = buffers s := by
  unfold laneRetire
  split <;> simp

@[simp] theorem buffers_laneRecover (l : LaneNo) : buffers (laneRecover l s).2 = buffers s := by
  unfold laneRecover
  split <;> simp

@[simp] theorem buffers_applyPendingDisable (l : LaneNo) : buffers (applyPendingDisable l s) = buffers s := by
  unfold applyPendingDisable
  dsimp only
  split
  · split
    · simp
    · split <;> simp [becomeDisabled]
  · rfl

@[simp] theorem buffers_dropLanes : buffers (dropLanes s) = buffers s := buffers_mapStreams rfl rfl fun _ => rfl

@[simp] theorem buffers_trunkLoss (before : LaneRec) : buffers (trunkLoss before s) = buffers s := by
  unfold trunkLoss
  split
  · dsimp only
    split <;> simp
  · rfl

@[simp] theorem buffers_trunkDown : buffers (trunkDown s) = buffers s := by
  rw [trunkDown, buffers_judgeDevicePart, foldl_keeps _ (fun t l => buffers_trunkLoss t (s.lane l)), buffers_dropLanes,
    buffers_raise]
  rfl

@[simp] theorem buffers_trunkUp : buffers (trunkUp s) = buffers s := rfl

@[simp] theorem buffers_alignLane (l : LaneNo) : buffers (alignLane l s) = buffers s := by
  unfold alignLane
  dsimp only
  split
  · rfl
  · split
    · split <;> simp
    · rfl

@[simp] theorem buffers_onTrunkCell (l : LaneNo) {take : State → State} (htake : ∀ t, buffers (take t) = buffers t) :
    buffers (onTrunkCell l take s) = buffers s := by
  unfold onTrunkCell
  dsimp only
  split
  · split <;> simp [htake]
  · simp

end lanes

/-! ### Slots and launches -/

section launches
variable (s : State)

@[simp] theorem buffers_sendFill (l : LaneNo) : buffers (sendFill l s) = buffers s := rfl

@[simp] theorem buffers_sendControl (l : LaneNo) (c : ControlCell) : buffers (sendControl l c s) = buffers s := rfl

@[simp] theorem buffers_beginLaunch (l : LaneNo) (i : StreamNo) : buffers (beginLaunch l i s) = buffers s := rfl

@[simp] theorem buffers_launchCell (l : LaneNo) (i : StreamNo) : buffers (launchCell l i s) = buffers s := by
  have htaken := buffers_takeHead s i
  unfold launchCell
  split
  · next heq =>
    rw [heq] at htaken
    exact htaken
  · next heq =>
    rw [heq] at htaken
    dsimp only
    split <;> simpa [sendOnLane] using htaken

@[simp] theorem buffers_launchCredit (l : LaneNo) (i : StreamNo) : buffers (launchCredit l i s) = buffers s := by
  have hclaimed := buffers_consumeCredit s i
  unfold launchCredit
  split
  · next heq =>
    rw [heq] at hclaimed
    exact hclaimed
  · next heq =>
    rw [heq] at hclaimed
    rw [buffers_launchCell, hclaimed]

@[simp] theorem buffers_readSlot (l : LaneNo) : buffers (readSlot l s) = buffers s := by
  unfold readSlot
  dsimp only [takeTurn_eq]
  split
  · split
    · simp
    · split
      · split <;> simp
      · simp
    · simp
  · simp

@[simp] theorem buffers_laneSlot (l : LaneNo) : buffers (laneSlot l s) = buffers s := by
  unfold laneSlot
  split
  · split <;> simp
  · simp

@[simp] theorem buffers_chargeLaunches (flights : List (LaneNo × StreamNo)) :
    buffers (chargeLaunches flights s).2 = buffers s := by
  induction flights generalizing s with
  | nil => rfl
  | cons f fs ih =>
    unfold chargeLaunches
    dsimp only [takeTurn_eq]
    split
    · exact ih s
    · split <;> simp [ih]

@[simp] theorem buffers_endLaunch (charged : List (LaneNo × StreamNo)) (f : LaneNo × StreamNo) :
    buffers (endLaunch charged s f) = buffers s := by
  unfold endLaunch
  split
  · simp
  · split <;> simp

/-- Launches that an event comes among add nothing to what the event does to the pool. -/
theorem buffers_duringLaunches (which : StreamNo → Bool) (event : State → State) :
    buffers (duringLaunches which event s) = buffers (event (chargeLaunches (s.launches which) s).2) :=
  foldl_keeps _ (fun t f => buffers_endLaunch t _ f) _

theorem buffers_beforeCredit (which : StreamNo → Bool) (event : State → State) :
    buffers (beforeCredit which event s) = buffers (event s) :=
  foldl_keeps _ (fun t f => buffers_endLaunch t _ f) _

@[simp] theorem buffers_loseTrunk : buffers (loseTrunk s) = buffers s := by simp [loseTrunk, buffers_duringLaunches]

@[simp] theorem buffers_loseAlignment (l : LaneNo) : buffers (loseAlignment l s) = buffers s := by
  unfold loseAlignment
  dsimp only
  split
  · split <;> simp
  · rfl

@[simp] theorem buffers_failedTrunkCell (l : LaneNo) : buffers (failedTrunkCell l s) = buffers s := by
  unfold failedTrunkCell
  dsimp only
  split
  · split <;> simp
  · simp

@[simp] theorem buffers_presetTimer (clear : Bool) (i : StreamNo) : buffers (presetTimer clear i s).2 = buffers s := by
  unfold presetTimer
  split
  · rfl
  · rw [buffers_beforeCredit]
    exact buffers_changePacing s i fun _ => rfl

@[simp] theorem buffers_discardClose (i : StreamNo) : buffers (discardClose i s).2 = buffers s := by
  simp [discardClose, buffers_duringLaunches]

end launches

/-! ### Edge ports and admission -/

section edge
variable (s : State)

@[simp] theorem buffers_edgeSlot (p : PortNo) : buffers (edgeSlot p s) = buffers s := by
  unfold edgeSlot
  dsimp only
  split
  · split
    · rfl
    · split
      · split <;> rfl
      · rfl
  · rfl

@[simp] theorem buffers_misrouted (p : PortNo) (i : StreamNo) : buffers (misrouted p i s) = buffers s := by
  simp [misrouted]

@[simp] theorem buffers_queueDropped (i : StreamNo) : buffers (queueDropped i s) = buffers s := by simp [queueDropped]

@[simp] theorem buffers_duplicateDropped (i : StreamNo) : buffers (duplicateDropped i s) = buffers s := by
  simp [duplicateDropped]

@[simp] theorem buffers_admitted (gap : Bool) (i : StreamNo) : buffers (admitted gap i s) = buffers s := by
  unfold admitted
  dsimp only
  split <;> simp

/-- A claim that is answered appended has found a free buffer (R105). -/
theorem freeBuffers_of_appended {s : State} {i : StreamNo} {limit : Nat} (h : appendAnswer i limit s = .appended) :
    s.freeBuffers ≠ 0 := by
  intro hzero
  unfold appendAnswer at h
  dsimp only at h
  rw [if_pos hzero] at h
  split at h
  · contradiction
  · split at h <;> contradiction

@[simp] theorem buffers_offerCell (p : PortNo) (a : Arrival) : buffers (offerCell p a s) = buffers s := by
  unfold offerCell
  dsimp only
  split
  · next happended => rw [buffers_admitted, buffers_appendCell (freeBuffers_of_appended happended)]
  all_goals simp

@[simp] theorem buffers_offerArrival (p : PortNo) (a : Arrival) : buffers (offerArrival p a s) = buffers s := by
  simp [offerArrival]

@[simp] theorem buffers_admitArrival (p : PortNo) (c : TrafficCell) : buffers (admitArrival p c s) = buffers s := by
  unfold admitArrival
  dsimp only [takeTurn_eq]
  split
  · simp
  · split
    · simp
    · split
      · simp
      · split <;> simp

@[simp] theorem buffers_onEdgeCell (p : PortNo) {take : State → State} (htake : ∀ t, buffers (take t) = buffers t) :
    buffers (onEdgeCell p take s) = buffers s := by
  unfold onEdgeCell
  split <;> simp [htake]

@[simp] theorem buffers_trafficCell (p : PortNo) (c : TrafficCell) : buffers (trafficCell p c s) = buffers s := by
  unfold trafficCell
  dsimp only
  split
  · split <;> simp
  · simp

@[simp] theorem buffers_edgeLinkUp (p : PortNo) : buffers (edgeLinkUp p s) = buffers s := by
  unfold edgeLinkUp
  split <;> rfl

@[simp] theorem buffers_admissionLoss (p : PortNo) : buffers (admissionLoss p s) = buffers s :=
  buffers_mapStreams rfl rfl fun r => by split <;> rfl

@[simp] theorem buffers_agentLoss (p : PortNo) : buffers (agentLoss p s) = buffers s := rfl

@[simp] theorem buffers_edgeLinkDown (p : PortNo) : buffers (edgeLinkDown p s) = buffers s := by
  unfold edgeLinkDown
  dsimp only
  split <;> simp

@[simp] theorem buffers_badKind (p : PortNo) : buffers (badKind p s) = buffers s := by simp [badKind]

@[simp] theorem buffers_failedEdgeCell (p : PortNo) : buffers (failedEdgeCell p s) = buffers s := by
  unfold failedEdgeCell
  dsimp only
  split
  · split <;> simp
  · simp

@[simp] theorem buffers_requestArrival (p : PortNo) (q : Request) : buffers (requestArrival p q s) = buffers s := by
  unfold requestArrival
  dsimp only
  split
  · simp
  · split <;> simp

end edge

/-! ### Resets -/

/-- With every queue empty the free buffers are all there are. -/
theorem buffers_of_empty {s : State} (h : ∀ i, (s.stream i).queue = []) : buffers s = s.freeBuffers := by
  have hzero : s.queuedCells = 0 := by
    refine List.sum_eq_zero fun n hn => ?_
    obtain ⟨r, hr, rfl⟩ := List.mem_map.1 hn
    obtain ⟨i, rfl⟩ := Table.mem_toList.1 hr
    exact congrArg List.length (h i)
  rw [buffers, hzero, Nat.add_zero]

theorem poolInv_powerOnState (pin : Bool) (s : State) : PoolInv (powerOnState pin s) :=
  buffers_of_empty (s := powerOnState pin s) fun i => congrArg StreamRec.queue (Table.read_const StreamRec.reset i)

theorem restartLife_queue (r : StreamRec) : (restartLife r).queue = r.queue := by
  unfold restartLife
  split <;> rfl

theorem restartImage_queue (now : PaceCount) (interval : Nat) (r : StreamRec) :
    (restartImage now interval r).queue = r.queue := by
  unfold restartImage
  split <;> rfl

section restart
variable (s : State)

/-- The restart of the queue manager makes every buffer free (R112). -/
theorem poolInv_restartQueues : PoolInv (restartQueues s) :=
  buffers_of_empty (s := restartQueues s) fun i => congrArg StreamRec.queue (Table.read_mapAll _ s.streams i)

@[simp] theorem buffers_restartStreams : buffers (restartStreams s) = buffers s :=
  buffers_mapStreams rfl rfl restartLife_queue

@[simp] theorem buffers_restartCommit : buffers (restartCommit s) = buffers s := by
  unfold restartCommit
  extract_lets before t₁ t₂ t₃
  have himages : buffers t₂ = buffers s := buffers_mapStreams rfl rfl (restartImage_queue _ _)
  have hdevice : buffers t₃ = buffers s := by
    simp only [t₃]
    split <;> exact himages
  split
  · rw [buffers_closeRecord, hdevice]
  · exact hdevice

@[simp] theorem buffers_restartNotices : buffers (restartNotices s) = buffers s :=
  buffers_mapStreams rfl rfl fun _ => rfl

@[simp] theorem buffers_restartRecoveries : buffers (restartRecoveries s) = buffers s := by
  unfold restartRecoveries
  split <;> rfl

/-- A device restart leaves every buffer free, whatever went before (R112, R155). -/
theorem poolInv_deviceRestart : PoolInv (deviceRestart s) := by
  rw [poolInv_iff, deviceRestart, buffers_restartRecoveries, buffers_restartNotices, buffers_restartCommit,
    buffers_restartStreams]
  exact poolInv_restartQueues _

end restart

/-! ### The agent -/

section agent
variable {s : State}

theorem poolInv_of_buffers {t : State} (h : buffers t = buffers s) (hs : PoolInv s) : PoolInv t := h.trans hs

@[simp] theorem buffers_respond (p : PortNo) (q : Request) (a : Reply) : buffers (respond p q a s) = buffers s := by
  unfold respond
  dsimp only
  split
  · split <;> rfl
  · rfl

@[simp] theorem buffers_refuseRequest (p : PortNo) (q : Request) (status : Status) :
    buffers (refuseRequest p q status s) = buffers s := by
  unfold refuseRequest
  split <;> simp

@[simp] theorem buffers_conclude (p : PortNo) (q : Request) (act : Action) :
    buffers (conclude p q act s) = buffers (act s).2 := by
  unfold conclude
  split
  · next heq => rw [buffers_respond, heq]
  · next heq =>
    rw [heq]
    rfl

@[simp] theorem buffers_claimOnly (p : PortNo) (act : Action) : buffers (claimOnly p act s) = buffers (act s).2 := by
  unfold claimOnly
  split
  · next heq =>
    rw [heq]
    rfl
  · next heq =>
    rw [heq]
    rfl

theorem poolInv_startExecution (p : PortNo) (q : Request) {act : Action} (hact : ∀ s, PoolInv s → PoolInv (act s).2)
    (hs : PoolInv s) : PoolInv (startExecution p q act s) := by
  have hclaimed : PoolInv (act s.dropTurn).2 := hact _ hs
  unfold startExecution
  dsimp only [takeTurn_eq]
  split
  · split
    · exact poolInv_of_buffers (buffers_claimOnly p act) hclaimed
    · exact hs
  · exact poolInv_of_buffers (buffers_conclude p q act) hclaimed

theorem poolInv_takeAndCheck (p : PortNo) (q : Request) {body : Body}
    (hbody : ∀ p q, Arbiter.KeepsAction PoolInv (body p q)) (hs : PoolInv s) : PoolInv (takeAndCheck p q body s) := by
  have htaken : PoolInv (takeRequest p q s) := hs
  unfold takeAndCheck
  dsimp only
  split
  · exact poolInv_of_buffers (buffers_refuseRequest p q _) htaken
  · split
    · exact poolInv_of_buffers (buffers_refuseRequest p q _) htaken
    · next hact => exact poolInv_startExecution p q (hbody p q _ hact) htaken

theorem poolInv_goOn (e : Execution) {body : Body} (hbody : ∀ p q, Arbiter.KeepsAction PoolInv (body p q))
    (hs : PoolInv s) : PoolInv (goOn e body s) := by
  unfold goOn
  split
  · exact poolInv_of_buffers (buffers_respond _ _ _) hs
  · split
    · exact poolInv_of_buffers (buffers_respond _ _ _) hs
    · next hact => exact poolInv_of_buffers (buffers_claimOnly _ _) (hbody _ _ _ hact _ hs)

theorem poolInv_serve (row : Request → Bool) {body : Body} (hbody : ∀ p q, Arbiter.KeepsAction PoolInv (body p q))
    (hs : PoolInv s) : PoolInv (serve row body s) := by
  unfold serve
  split
  · split
    · exact poolInv_goOn _ hbody hs
    · exact hs
  · split
    · split
      · exact poolInv_takeAndCheck _ _ hbody hs
      · exact hs
    · exact hs

/-- What answers a status and leaves the number of buffers keeps the pool. -/
theorem keepsAction_answering {f : State → Status × State} (h : ∀ s, buffers (f s).2 = buffers s) :
    Arbiter.KeepsAction PoolInv (answering f) :=
  Arbiter.keepsAction_answering fun s => poolInv_of_buffers (h s)

theorem keepsAction_bodyDiscard (p : PortNo) (q : Request) : Arbiter.KeepsAction PoolInv (bodyDiscard p q) := by
  unfold bodyDiscard
  split
  · exact keepsAction_answering fun s => buffers_discard s _
  · exact Arbiter.keepsAction_error _

theorem keepsAction_bodyCommit (p : PortNo) (q : Request) : Arbiter.KeepsAction PoolInv (bodyCommit p q) := by
  unfold bodyCommit
  split
  · exact Arbiter.keepsAction_ok fun s => poolInv_of_buffers (buffers_takeCommit s p q _)
  · exact Arbiter.keepsAction_error _

theorem keepsAction_bodyRestart (p : PortNo) (q : Request) : Arbiter.KeepsAction PoolInv (bodyRestart p q) :=
  Arbiter.keepsAction_ok fun s _ => poolInv_of_buffers (buffers_duringLaunches s _ _) (poolInv_deviceRestart _)

@[simp] theorem buffers_ackNotice (s : State) (n : NoticeTarget) (mask : Nat) :
    buffers (ackNotice n mask s).2 = buffers s := by
  unfold ackNotice
  split
  · exact foldl_keeps s buffers_removeNotice _
  · rfl

end agent

/-! ### Expiries and the commands -/

section expiries
variable (s : State)

@[simp] theorem buffers_answerExpiry (l : LaneNo) : buffers (answerExpiry l s) = buffers s := by
  unfold answerExpiry
  split <;> simp

@[simp] theorem buffers_holdExpiry (l : LaneNo) : buffers (holdExpiry l s) = buffers s := by
  unfold holdExpiry
  split <;> simp

@[simp] theorem buffers_settleExpiry (i : StreamNo) : buffers (settleExpiry i s) = buffers s := by
  unfold settleExpiry
  split <;> simp

@[simp] theorem buffers_commitExpiry : buffers (commitExpiry s) = buffers s := by
  unfold commitExpiry
  split
  · split <;> simp
  · rfl

@[simp] theorem buffers_budgetAgeOut : buffers (budgetAgeOut s) = buffers s := by
  unfold budgetAgeOut
  split
  · split
    · rw [buffers_pass]
      rfl
    · rfl
  · rfl

@[simp] theorem buffers_spacingExpiry : buffers (spacingExpiry s) = buffers s := by
  unfold spacingExpiry
  split
  · rw [buffers_pass]
    rfl
  · rfl

@[simp] theorem buffers_imageApplication (i : StreamNo) : buffers (imageApplication i s) = buffers s := by
  unfold imageApplication
  dsimp only
  split <;> simp

end expiries

section commands
variable {s t : State}

theorem poolInv_atStroke {f : State → State} (hf : ∀ u, buffers (f u) = buffers u) :
    atStroke f s = .next t → PoolInv s → PoolInv t :=
  Arbiter.StepInvariant.keeps_atStroke fun hu => poolInv_of_buffers (hf _) hu

theorem poolInv_running {f : State → State} (hf : ∀ u, buffers (f u) = buffers u) :
    running f s = .next t → PoolInv s → PoolInv t :=
  poolInv_atStroke fun u => (hf _).trans (buffers_countFirst u)

theorem poolInv_running_serve {row : Request → Bool} {body : Body}
    (hbody : ∀ p q, Arbiter.KeepsAction PoolInv (body p q)) :
    running (serve row body) s = .next t → PoolInv s → PoolInv t :=
  Arbiter.StepInvariant.keeps_atStroke fun hu => poolInv_serve row hbody (poolInv_of_buffers (buffers_countFirst _) hu)

/-- Every command keeps the pool at its size: the resets fill it, every other command leaves the number of buffers. -/
theorem poolInv_exec (c : Instr) : exec c s = .next t → PoolInv s → PoolInv t := by
  cases c with
  | powerOnReset => rintro ⟨⟩ _; exact poolInv_powerOnState false s
  | resetPinAsserted => rintro ⟨⟩ _; exact poolInv_powerOnState true s
  | stroke => exact poolInv_atStroke buffers_stroke
  | answerDeadlineExpiry l => exact poolInv_atStroke (buffers_answerExpiry · l)
  | holdDeadlineExpiry l => exact poolInv_atStroke (buffers_holdExpiry · l)
  | settleDeadlineExpiry i => exact poolInv_atStroke (buffers_settleExpiry · i)
  | commitDeadlineExpiry => exact poolInv_atStroke buffers_commitExpiry
  | budgetEntryAgeOut => exact poolInv_atStroke buffers_budgetAgeOut
  | spacingExpiry => exact poolInv_atStroke buffers_spacingExpiry
  | arbiterPass => exact poolInv_running buffers_pass
  | laneSlot l => exact poolInv_running (buffers_laneSlot · l)
  | drainCompletion i => exact poolInv_running (buffers_judgeDrain · i)
  | edgeSlot p => exact poolInv_running (buffers_edgeSlot · p)
  | edgeLinkUp p => exact poolInv_running (buffers_edgeLinkUp · p)
  | edgeLinkDown p => exact poolInv_running (buffers_edgeLinkDown · p)
  | laneAligned l => exact poolInv_running (buffers_alignLane · l)
  | laneAlignmentLost l => exact poolInv_running (buffers_loseAlignment · l)
  | trafficCellArrival p c => exact poolInv_running (buffers_trafficCell · p c)
  | requestCellArrival p q => exact poolInv_running fun u => buffers_onEdgeCell u p (buffers_requestArrival · p q)
  | edgeFillCell p => exact poolInv_running fun u => buffers_onEdgeCell u p fun _ => rfl
  | edgeBadKindCell p kind => exact poolInv_running fun u => buffers_onEdgeCell u p (buffers_badKind · p)
  | edgeBadCheckCell p => exact poolInv_running (buffers_failedEdgeCell · p)
  | bindAckAccept l tag =>
    exact poolInv_running fun u => buffers_onTrunkCell u l (buffers_takeAnswer · .bind l tag
      (buffers_bindAcceptMatched · l))
  | bindAckRefuse l tag =>
    exact poolInv_running fun u => buffers_onTrunkCell u l (buffers_takeAnswer · .bind l tag
      (buffers_bindRefuseMatched · l))
  | bindAckUnknownCode l tag code =>
    exact poolInv_running fun u => buffers_onTrunkCell u l (buffers_takeUnknownAnswer · l tag)
  | releaseAck l tag =>
    exact poolInv_running fun u => buffers_onTrunkCell u l (buffers_takeAnswer · .release l tag
      (buffers_releaseAckMatched · l))
  | resetAck l tag =>
    exact poolInv_running fun u => buffers_onTrunkCell u l (buffers_takeAnswer · .laneReset l tag
      (buffers_resetAckMatched · l))
  | pause l tag => exact poolInv_running fun u => buffers_onTrunkCell u l (buffers_takePause · true l tag)
  | resume l tag => exact poolInv_running fun u => buffers_onTrunkCell u l (buffers_takePause · false l tag)
  | trunkOtherKindCell l kind => exact poolInv_running fun u => buffers_onTrunkCell u l (buffers_strayCell · l)
  | trunkFillCell l => exact poolInv_running fun u => buffers_onTrunkCell u l fun _ => rfl
  | trunkBadCheckCell l => exact poolInv_running (buffers_failedTrunkCell · l)
  | disablePendingApplied l => exact poolInv_running (buffers_applyPendingDisable · l)
  | streamImageApplication i => exact poolInv_running (buffers_imageApplication · i)
  | deviceApplication => exact poolInv_running buffers_judgeDevicePart
  | commitResponse => exact poolInv_running buffers_takeCommitAnswer
  | readDevice => exact poolInv_running_serve fun _ _ => Arbiter.keepsAction_withPart _
  | readPort =>
    exact poolInv_running_serve fun _ _ => Arbiter.keepsAction_withTarget fun _ => Arbiter.keepsAction_withPart _
  | readLane =>
    exact poolInv_running_serve fun _ _ => Arbiter.keepsAction_withTarget fun _ => Arbiter.keepsAction_withPart _
  | readStream =>
    exact poolInv_running_serve fun _ _ => Arbiter.keepsAction_withTarget fun _ => Arbiter.keepsAction_withPart _
  | readNotices =>
    exact poolInv_running_serve fun _ _ => Arbiter.keepsAction_withTarget fun _ => Arbiter.keepsAction_reading _
  | stageDevice => exact poolInv_running_serve fun _ _ => keepsAction_answering (buffers_stageDevice · _)
  | stagePort =>
    exact poolInv_running_serve fun _ _ => Arbiter.keepsAction_withTarget fun p =>
      keepsAction_answering (buffers_stagePort · p _)
  | stageStream =>
    exact poolInv_running_serve fun _ _ => Arbiter.keepsAction_withTarget fun i =>
      keepsAction_answering (buffers_stageStream · i _)
  | discard => exact poolInv_running_serve keepsAction_bodyDiscard
  | commit => exact poolInv_running_serve keepsAction_bodyCommit
  | openStream =>
    exact poolInv_running_serve fun _ _ => Arbiter.keepsAction_withTarget fun i =>
      keepsAction_answering (buffers_openStream · i)
  | closeStream =>
    exact poolInv_running_serve fun _ _ => Arbiter.keepsAction_withTarget fun i => Arbiter.keepsAction_withSelector
      (keepsAction_answering (buffers_closePlain · i))
  | closeStreamDiscard =>
    exact poolInv_running_serve fun _ _ => Arbiter.keepsAction_withTarget fun i => Arbiter.keepsAction_withSelector
      (keepsAction_answering (buffers_discardClose · i))
  | clearHold =>
    exact poolInv_running_serve fun _ _ => Arbiter.keepsAction_withTarget fun i =>
      keepsAction_answering (buffers_clearHold · i)
  | timerControlRun =>
    exact poolInv_running_serve fun _ _ => Arbiter.keepsAction_withTarget fun i => Arbiter.keepsAction_withSelector
      (keepsAction_answering (buffers_timerControl · i fun _ => rfl))
  | timerControlStop =>
    exact poolInv_running_serve fun _ _ => Arbiter.keepsAction_withTarget fun i => Arbiter.keepsAction_withSelector
      (keepsAction_answering (buffers_timerControl · i timerStop_queue))
  | timerControlPreset =>
    exact poolInv_running_serve fun _ _ => Arbiter.keepsAction_withTarget fun i => Arbiter.keepsAction_withSelector
      (keepsAction_answering (buffers_presetTimer · _ i))
  | ackNotice =>
    exact poolInv_running_serve fun _ _ => Arbiter.keepsAction_withTarget fun n =>
      keepsAction_answering (buffers_ackNotice · n _)
  | laneControlEnable =>
    exact poolInv_running_serve fun _ _ => Arbiter.keepsAction_withTarget fun l => Arbiter.keepsAction_withSelector
      (keepsAction_answering (buffers_laneEnable · l))
  | laneControlDisable =>
    exact poolInv_running_serve fun _ _ => Arbiter.keepsAction_withTarget fun l => Arbiter.keepsAction_withSelector
      (keepsAction_answering (buffers_disableLane · l))
  | laneControlRetire =>
    exact poolInv_running_serve fun _ _ => Arbiter.keepsAction_withTarget fun l => Arbiter.keepsAction_withSelector
      (keepsAction_answering (buffers_laneRetire · l))
  | laneControlRecover =>
    exact poolInv_running_serve fun _ _ => Arbiter.keepsAction_withTarget fun l => Arbiter.keepsAction_withSelector
      (keepsAction_answering (buffers_laneRecover · l))
  | restart => exact poolInv_running_serve keepsAction_bodyRestart
  | unknownCommandCode => exact poolInv_running_serve fun _ _ => Arbiter.keepsAction_error _

end commands

/-- Settles O56: a step is its front command, whose arm keeps the number of buffers or fills the pool. -/
theorem stepKeepsPool : Obligations.StepKeepsPool := by
  intro s t hstep hs
  unfold step at hstep
  split at hstep
  · cases hstep
    exact hs
  · exact poolInv_exec _ hstep hs

end Sys2Proof.Proofs.Pool

/-! The statements of the edge links and of admission: a port's link, and a traffic cell's checks and its two claims. -/

namespace Sys2Proof.Proofs.Admission

open Sys2Proof Sys2Proof.Machine

/-! ### The edge link (R98, R158, R160) -/

section link
variable {s : State} {p : PortNo}

theorem edgeLinkUp_aligned (h : (s.port p).aligned = true) : edgeLinkUp p s = s := by simp [edgeLinkUp, h]

/-- A HUNTING port comes UP once six cells in a row have passed (R160). -/
theorem edgeLinkUp_passed (h : (s.port p).aligned = false) (hpasses : 6 ≤ (s.port p).passes) :
    edgeLinkUp p s = s.modPort p fun r => { r with aligned := true, failures := 0, passes := 0 } := by
  simp [edgeLinkUp, h, Config.cellsToAlign, hpasses]

theorem edgeLinkUp_tooFew (hpasses : (s.port p).passes < 6) : edgeLinkUp p s = s := by
  simp [edgeLinkUp, Config.cellsToAlign, Nat.not_le.2 hpasses]

theorem edgeLinkDown_hunting (h : (s.port p).aligned = false) : edgeLinkDown p s = s := by simp [edgeLinkDown, h]

/-- The loss of an ALIGNED port's link, and the two units that are told (R158, R160). -/
theorem edgeLinkDown_aligned (h : (s.port p).aligned = true) :
    edgeLinkDown p s =
      admissionLoss p (agentLoss p (raise (.port p .linkDown) (s.modPort p fun r =>
        { r with aligned := false, failures := 0, passes := 0, requests := [], responses := [] }))) :=
  if_pos h

/-- What the agent owes a port becomes void with the loss of its link (R158). -/
theorem agentLoss_eq (p : PortNo) (s : State) :
    agentLoss p s =
      { s with
        inExecution := s.inExecution.map fun e => { e with void := e.void || e.port == p }
        owedVoid := s.owedVoid || s.barred == some p } := by
  have hvoid (e : Execution) :
      (if e.port = p then { e with void := true } else e) = { e with void := e.void || e.port == p } := by
    split
    · next h => rw [beq_iff_eq.2 h, Bool.or_true]
    · next h => rw [beq_eq_false_iff_ne.2 h, Bool.or_false]
  simp only [agentLoss, hvoid, Bool.beq_eq_decide_eq]

/-- A port that loses its link leaves the streams it sources without an expected sequence (R98). -/
theorem admissionLoss_eq (p : PortNo) (s : State) :
    admissionLoss p s =
      { s with
        streams := s.streams.mapAll fun r =>
          { r with expected := if r.config.sourcePort = p then none else r.expected } } := by
  have hexpected (r : StreamRec) : (if r.config.sourcePort = p then { r with expected := none } else r) =
      { r with expected := if r.config.sourcePort = p then none else r.expected } := by split <;> rfl
  simp only [admissionLoss, hexpected]

theorem raiseReportLost_streams (s : State) : (raiseReportLost s).streams = s.streams := by
  unfold raiseReportLost
  split
  · rfl
  · dsimp only
    split <;> rfl

/-- A port's cause concerns no stream (R132). -/
theorem raise_port_streams (p : PortNo) (c : PortCause) (s : State) : (raise (.port p c) s).streams = s.streams := by
  rw [raise, if_neg nofun]
  unfold raiseOrdinary
  split
  · rfl
  · dsimp only
    split
    · split
      · rfl
      · exact raiseReportLost_streams _
    · rfl

/-- Settles O13, by the port's alignment. -/
theorem edgeLinkChanges : Obligations.EdgeLinkChanges := by
  intro s p hpin hcount
  have hup : exec (.edgeLinkUp p) s = .next (edgeLinkUp p s) := running_counted hpin hcount
  have hdown : exec (.edgeLinkDown p) s = .next (edgeLinkDown p s) := running_counted hpin hcount
  refine ⟨fun hhunting => ⟨fun hpasses => ?_, fun hpasses => ?_, ?_⟩, fun haligned => ⟨?_, ?_⟩⟩
  · rw [hup, edgeLinkUp_passed hhunting hpasses]
  · rw [hup, edgeLinkUp_tooFew hpasses]
  · rw [hdown, edgeLinkDown_hunting hhunting]
  · rw [hup, edgeLinkUp_aligned haligned]
  · rw [hdown, edgeLinkDown_aligned haligned, admissionLoss_eq, agentLoss_eq]
    simp only [raise_port_streams, raise_inExecution, raise_owedVoid, raise_barred, modPort_streams,
      modPort_inExecution, modPort_owedVoid, modPort_barred]

end link

/-! ### The checks of an arrival (R99 to R101) -/

theorem admits_iff (r : StreamRec) : r.admits = true ↔ r.life = .opened ∨ r.life = .held := by
  unfold StreamRec.admits
  cases r.life <;> simp

theorem admits_eq_false_iff (r : StreamRec) :
    r.admits = false ↔ r.life = .closed ∨ ∃ k, r.life = .draining k := by
  unfold StreamRec.admits
  cases r.life <;> simp

/-- A cell is a duplicate when its successor is the one expected (R101). -/
theorem sequenceOutcome_duplicate_iff (r : StreamRec) (n : Byte) :
    sequenceOutcome r n = .duplicate ↔ r.config.sequenceCheck = true ∧ r.expected = some (n + 1) := by
  unfold sequenceOutcome
  split
  · next e hcheck hexpected =>
    rw [hcheck, hexpected, Option.some_inj]
    have hsucc : n = e - 1 ↔ e = n + 1 := by bv_omega
    rw [← hsucc]
    split
    · next h =>
      have hself : n ≠ e - 1 := by bv_omega
      simpa using hself
    · split
      · next h => simp [h]
      · next h => simpa using h
  · next hunchecked =>
    simp only [reduceCtorEq, false_iff, not_and]
    exact fun hcheck hexpected => hunchecked _ hcheck hexpected

/-- A cell that is no duplicate is a gap when it is checked and another is expected (R101). -/
theorem sequenceOutcome_gap {r : StreamRec} {n : Byte} (h : sequenceOutcome r n ≠ .duplicate) :
    (sequenceOutcome r n == .gap) = (r.config.sequenceCheck && r.expected.isSome && r.expected != some n) := by
  unfold sequenceOutcome at h ⊢
  split
  · next e hcheck hexpected =>
    rw [hcheck, hexpected] at h ⊢
    dsimp only at h
    split
    · next heq => simp [heq]
    · next heq =>
      rw [if_neg heq] at h
      rw [if_neg fun hdup => h (if_pos hdup)]
      simp [Ne.symm heq]
  · next hunchecked =>
    cases hcheck : r.config.sequenceCheck <;> cases hexpected : r.expected <;> simp_all

section arrival
variable {s : State} {p : PortNo} {c : TrafficCell}

theorem exec_trafficCell (hpin : s.resetPin = false) (hcount : s.uncounted = false) :
    exec (.trafficCellArrival p c) s = .next (trafficCell p c s) := running_counted hpin hcount

/-- An ALIGNED port has received a cell (R160, R161). -/
def received (p : PortNo) (s : State) : State :=
  s.modPort p fun r => { r with received := r.received + 1, failures := 0 }

theorem received_arriving (h : (s.port p).arriving = none) : ((received p s).port p).arriving = none := by
  simpa [received] using h

/-- A cell that comes in on an ALIGNED port with no arrival in flight goes to admission (R97, R161). -/
theorem exec_admission (hpin : s.resetPin = false) (hcount : s.uncounted = false) (haligned : (s.port p).aligned = true)
    (hfirst : (s.port p).arriving = none) :
    exec (.trafficCellArrival p c) s = .next (admitArrival p c (received p s)) := by
  rw [exec_trafficCell hpin hcount, trafficCell_first hfirst, onEdgeCell, if_pos haligned]
  rfl

theorem admitArrival_misrouted
    (h : (s.port p).record.acceptance = false ∨ (s.stream c.stream).admits = false
      ∨ (s.stream c.stream).config.sourcePort ≠ p) :
    admitArrival p c s = misrouted p c.stream s := by
  unfold admitArrival
  dsimp only
  split
  · rfl
  · next haccepts =>
    rw [if_pos]
    simp_all

/-- The checks that come before the expected sequence: the port accepts traffic, the stream admits cells and is sourced
there (R99, R100). -/
structure Passes (p : PortNo) (c : TrafficCell) (s : State) : Prop where
  accepts : (s.port p).record.acceptance = true
  admits : (s.stream c.stream).admits = true
  source : (s.stream c.stream).config.sourcePort = p

theorem passes_received (haccepts : (s.port p).record.acceptance = true)
    (hlife : (s.stream c.stream).life = .opened ∨ (s.stream c.stream).life = .held)
    (hsource : (s.stream c.stream).config.sourcePort = p) : Passes p c (received p s) where
  accepts := by simpa [received] using haccepts
  admits := (admits_iff _).2 hlife
  source := hsource

theorem admitArrival_duplicate (h : Passes p c s)
    (hdup : sequenceOutcome (s.stream c.stream) c.sequence = .duplicate) :
    admitArrival p c s = duplicateDropped c.stream s := by
  simp [admitArrival, h.accepts, h.admits, h.source, hdup]

/-- The arrival that a cell begins: the queue limit of its sending, and whether it is a gap (R101, R102). -/
def arrivalOf (c : TrafficCell) (s : State) : Arrival where
  cell := c
  limit := (s.stream c.stream).config.queueLimit
  gap := sequenceOutcome (s.stream c.stream) c.sequence == .gap

/-- The expected sequence settled by a cell that is no duplicate (R101), the turn of log 30 used up. -/
def settled (c : TrafficCell) (s : State) : State :=
  (s.modStream c.stream fun r => { r with expected := some (c.sequence + 1) }).dropTurn

/-- The settling of the expected sequence leaves the rest of the stream. -/
theorem settled_keeps {β : Type} (g : StreamRec → β) (hg : ∀ r e, g { r with expected := e } = g r) :
    g ((settled c s).stream c.stream) = g (s.stream c.stream) :=
  stream_modStream_keeps s g (fun r => hg r _) _ _

theorem admitArrival_settles (h : Passes p c s)
    (hdup : sequenceOutcome (s.stream c.stream) c.sequence ≠ .duplicate) :
    admitArrival p c s =
      if s.turn then (settled c s).modPort p fun r => { r with arriving := some (arrivalOf c s) }
      else offerArrival p (arrivalOf c s)
        ((settled c s).modPort p fun r => { r with arriving := some (arrivalOf c s) }) := by
  unfold admitArrival
  simp only [h.accepts, h.admits, h.source, bne_self_eq_false, Bool.not_true, Bool.or_self, Bool.false_eq_true,
    if_false]
  rfl

/-- A change that leaves the port it finds leaves the state. -/
theorem modPort_unchanged {f : PortRec → PortRec} (h : f (s.port p) = s.port p) : s.modPort p f = s := by
  rw [State.modPort, h, setPort_self]

/-- An arrival begun and ended in one step leaves a port without one as it was. -/
theorem offerArrival_begun (hfirst : (s.port p).arriving = none) (a : Arrival) :
    offerArrival p a (s.modPort p fun r => { r with arriving := some a }) = offerCell p a s := by
  rw [offerArrival, modPort_modPort, modPort_unchanged]
  rw [← hfirst]

/-- With a turn for another event, the arrival stays in flight (log 30). -/
theorem admitArrival_later (h : Passes p c s) (hdup : sequenceOutcome (s.stream c.stream) c.sequence ≠ .duplicate)
    (hturn : s.turn = true) :
    admitArrival p c s = (settled c s).modPort p fun r => { r with arriving := some (arrivalOf c s) } := by
  rw [admitArrival_settles h hdup, if_pos hturn]

/-- With no turn for another event, the append claim follows at once (R102). -/
theorem admitArrival_now (h : Passes p c s) (hfirst : (s.port p).arriving = none)
    (hdup : sequenceOutcome (s.stream c.stream) c.sequence ≠ .duplicate) (hturn : s.turn = false) :
    admitArrival p c s = offerCell p (arrivalOf c s) (settled c s) := by
  rw [admitArrival_settles h hdup, hturn, if_neg Bool.false_ne_true]
  exact offerArrival_begun (s := settled c s) hfirst _

end arrival

/-! ### The append claim and its answers (R102, R103, R105) -/

section claim
variable {s : State} {p : PortNo} {a : Arrival}

theorem offerCell_closed (h : (s.stream a.cell.stream).admits = false) :
    offerCell p a s = misrouted p a.cell.stream s := by
  simp [offerCell, appendAnswer, h]

/-- The queue limit or the empty pool (R102). -/
theorem offerCell_dropped (hadmits : (s.stream a.cell.stream).admits = true)
    (h : a.limit ≤ (s.stream a.cell.stream).queue.length ∨ s.freeBuffers = 0) :
    offerCell p a s = queueDropped a.cell.stream s := by
  by_cases hlimit : a.limit ≤ (s.stream a.cell.stream).queue.length
  · simp [offerCell, appendAnswer, hadmits, hlimit]
  · simp [offerCell, appendAnswer, hadmits, hlimit, h.resolve_left hlimit]

theorem offerCell_appended (hadmits : (s.stream a.cell.stream).admits = true)
    (hlimit : (s.stream a.cell.stream).queue.length < a.limit) (hfree : 0 < s.freeBuffers) :
    offerCell p a s = admitted a.gap a.cell.stream (appendCell a.cell.stream a.cell s) := by
  simp [offerCell, appendAnswer, hadmits, Nat.not_le.2 hlimit, Nat.ne_of_gt hfree]

/-- A cell joins the tail of its queue, with POOL_EMPTY for the last buffer and a notification for the first cell of the
queue (R105, R108). -/
theorem appendCell_eq (i : StreamNo) (c : TrafficCell) (s : State) :
    appendCell i c s =
      let t := { s with freeBuffers := s.freeBuffers - 1 }.modStream i fun r => { r with queue := r.queue ++ [c] }
      let t := if s.freeBuffers = 1 then raise (.device .poolEmpty) t else t
      if (s.stream i).queue = [] then demandChanged i t else t := by
  extract_lets t u
  have hqueue : (u.stream i).queue.isEmpty = false := by
    have hframe : u.sansNotices = t.sansNotices := by
      simp only [u]
      split
      · exact raise_sansNotices t _
      · rfl
    have hkept : (u.stream i).queue = (t.stream i).queue :=
      (congrArg StreamRec.queue (stream_of_sansNotices hframe i) :)
    rw [hkept]
    simp [t]
  have hlast : appendCell i c s = emptinessChanged i (s.stream i).queue.isEmpty u := by
    simp only [appendCell, beq_iff_eq]
    rfl
  rw [hlast, emptinessChanged, hqueue]
  cases (s.stream i).queue <;> rfl

end claim

/-- Settles O14: each drop by the check, or the answer of the append claim, that it comes from. -/
theorem trafficCellDropped : Obligations.TrafficCellDropped := by
  refine ⟨fun s p c hpin hcount haligned hfirst hcause => ?_,
    fun s p c hpin hcount haligned hfirst haccepts hlife hsource => ?_⟩
  · rw [exec_admission hpin hcount haligned hfirst, admitArrival_misrouted, misrouted, received, modPort_modPort]
    rw [received, port_modPort_same, modPort_stream, admits_eq_false_iff, or_assoc]
    exact hcause
  · intro arrived duplicate
    have hpasses : Passes p c (received p s) := passes_received haccepts hlife hsource
    rw [exec_admission hpin hcount haligned hfirst]
    refine ⟨fun hdup => ?_, fun hdup hturn hroom => ?_⟩
    · rw [admitArrival_duplicate hpasses ((sequenceOutcome_duplicate_iff _ _).2 hdup)]
      rfl
    · have hadmits := (settled_keeps (c := c) (s := arrived) (·.admits) fun _ _ => rfl).trans hpasses.admits
      have hqueue := settled_keeps (c := c) (s := arrived) (·.queue) fun _ _ => rfl
      rw [admitArrival_now hpasses (received_arriving hfirst) (mt (sequenceOutcome_duplicate_iff _ _).1 hdup) hturn,
        offerCell_dropped hadmits (hqueue ▸ hroom)]
      exact congrArg (fun t => Host.Outcome.next (raise (.stream c.stream .queueDrop) t))
        (modStream_modStream arrived.dropTurn c.stream (fun r => { r with expected := some (c.sequence + 1) })
          fun r => { r with queueDrops := r.queueDrops + 1 })

section inFlight
variable {s t : State} {p : PortNo}

/-- The part runs, no counting waits, and no arrival is in flight on the port: a cell on it comes straight to
admission. -/
def Ready (p : PortNo) (s : State) : Prop :=
  s.resetPin = false ∧ s.uncounted = false ∧ (s.port p).arriving = none

theorem Ready.of_sansBinding (hs : Ready p s) (h : t.sansBinding = s.sansBinding) : Ready p t := by
  rw [Ready, resetPin_of_sansBinding h, uncounted_of_sansBinding h, port_of_sansBinding h]
  exact hs

theorem Ready.of_sansNotices (hs : Ready p s) (h : t.sansNotices = s.sansNotices) : Ready p t := by
  have harriving : (t.port p).arriving = (s.port p).arriving := (congrArg PortRec.arriving (port_of_sansNotices h p) :)
  rw [Ready, resetPin_of_sansNotices h, uncounted_of_sansNotices h, harriving]
  exact hs

theorem Ready.raise (hs : Ready p s) (pt : CausePoint) : Ready p (Machine.raise pt s) :=
  hs.of_sansNotices (raise_sansNotices s pt)

theorem Ready.modPort (hs : Ready p s) (q : PortNo) {f : PortRec → PortRec} (hf : ∀ r, (f r).arriving = r.arriving) :
    Ready p (s.modPort q f) := by
  obtain ⟨hpin, hcount, hfirst⟩ := hs
  exact ⟨hpin, hcount, (port_modPort_keeps s (·.arriving) hf q p).trans hfirst⟩

theorem Ready.appendCell (hs : Ready p s) (i : StreamNo) (c : TrafficCell) : Ready p (Machine.appendCell i c s) := by
  rw [appendCell_eq]
  extract_lets t u
  have hraised : Ready p u := by
    simp only [u]
    split
    · exact Ready.raise (s := t) hs _
    · exact hs
  split
  · exact hraised.of_sansBinding (demandChanged_sansBinding u i)
  · exact hraised

theorem Ready.admitted (hs : Ready p s) (gap : Bool) (i : StreamNo) : Ready p (Machine.admitted gap i s) := by
  unfold Machine.admitted
  dsimp only
  split
  · exact Ready.raise (s := (s.modStream i _).modStream i _) hs _
  · exact hs

/-- Whatever its answer, an append claim ends its arrival (R102). -/
theorem Ready.offerCell (hs : Ready p s) (a : Arrival) : Ready p (Machine.offerCell p a s) := by
  unfold Machine.offerCell
  dsimp only
  split
  · exact (hs.appendCell _ _).admitted _ _
  · exact Ready.raise (s := s.modStream _ _) hs _
  · exact Ready.raise (s := s.modStream _ _) hs _
  · exact Ready.raise (hs.modPort p (f := fun r =>
      { r with misrouted := r.misrouted + 1, lastMisrouted := some a.cell.stream }) fun _ => rfl) _

/-- Another cell on the port than that of the arrival in flight finds the arrival ended (log 30). -/
theorem trafficCell_other {a : Arrival} {c : TrafficCell} (h : (s.port p).arriving = some a) (hne : a.cell ≠ c) :
    trafficCell p c s = onEdgeCell p (admitArrival p c) (offerArrival p a s) := by
  simp [trafficCell, h, hne]

end inFlight

/-- Settles O15: the settling of the expected sequence, then the append claim by its answers, at once or at the next
sending of the cell. -/
theorem admittedCellQueued : Obligations.AdmittedCellQueued := by
  intro s p c hpin hcount r admits appended
  have happended (gap : Bool) (u : State) (hfree : u.freeBuffers = s.freeBuffers)
      (hqueue : (u.stream c.stream).queue = r.queue) :
      admitted gap c.stream (appendCell c.stream c u) = appended gap u := by
    rw [appendCell_eq, hqueue, hfree]
    simp only [appended, hfree]
    rfl
  refine ⟨fun haligned hfirst haccepts hlife hsource hdup => ?_, fun a ha => ?_⟩
  · intro gap settledState
    have hpasses : Passes p c (received p s) := passes_received haccepts hlife hsource
    have hnot : sequenceOutcome r c.sequence ≠ .duplicate := mt (sequenceOutcome_duplicate_iff _ _).1 hdup
    have hgap : (arrivalOf c (received p s)).gap = gap := sequenceOutcome_gap hnot
    have hsettled : settled c (received p s) = settledState := rfl
    have hqueue : (settledState.stream c.stream).queue = r.queue :=
      settled_keeps (c := c) (s := received p s) (·.queue) fun _ _ => rfl
    have hadmits : (settledState.stream c.stream).admits = true :=
      (settled_keeps (c := c) (s := received p s) (·.admits) fun _ _ => rfl).trans hpasses.admits
    rw [exec_admission hpin hcount haligned hfirst]
    refine ⟨fun hturn => ?_, fun hturn hlimit hfree => ?_⟩
    · rw [admitArrival_later hpasses hnot hturn, hsettled, ← hgap]
      rfl
    · have hroom : (settledState.stream c.stream).queue.length < (arrivalOf c (received p s)).limit := hqueue ▸ hlimit
      rw [admitArrival_now hpasses (received_arriving hfirst) hnot hturn, hsettled,
        offerCell_appended (s := settledState) hadmits hroom hfree, hgap]
      exact congrArg _ (happended gap settledState rfl hqueue)
  · intro ended
    have hagain : exec (.trafficCellArrival p a.cell) s = .next (offerCell p a ended) := by
      rw [exec_trafficCell hpin hcount, trafficCell_again ha]
      rfl
    refine ⟨?closed, ?dropped, ?appended, ?other⟩
    case closed =>
      rintro rfl hlife
      rw [hagain, offerCell_closed (s := ended) ((admits_eq_false_iff _).2 hlife)]
      rfl
    case dropped =>
      rintro rfl hlife hroom
      rw [hagain, offerCell_dropped (s := ended) ((admits_iff _).2 hlife) hroom]
      rfl
    case appended =>
      rintro rfl hlife hlimit hfree
      rw [hagain, offerCell_appended (s := ended) ((admits_iff _).2 hlife) hlimit hfree, happended _ ended rfl rfl]
    case other =>
      intro hne
      have hready : Ready p ended := ⟨hpin, hcount, by simp [ended]⟩
      obtain ⟨hpin', hcount', hfirst⟩ : Ready p (offerArrival p a s) := hready.offerCell a
      refine ⟨offerArrival p a s, by rw [exec_trafficCell hpin hcount, trafficCell_again ha], ?_⟩
      rw [exec_trafficCell hpin hcount, trafficCell_other ha hne, exec_trafficCell hpin' hcount',
        trafficCell_first hfirst]

end Sys2Proof.Proofs.Admission

/-! The invariants of the management queues, of the commit operation record and of the report queue: what each operation
of the block does to the agent's, the commit unit's and the notice unit's parts. -/

namespace Sys2Proof.Proofs.Management

open Sys2Proof Sys2Proof.Machine

/-! ### The closed commit's response (R126, R127, R148) -/

section answer
variable {s : State} {p : PortNo}

/-- A port after the placing or the discarding of the response that its reserved place is kept for (R147, R158). -/
def settled (void : Bool) (a : Response) (r : PortRec) : PortRec :=
  { r with responses := if void then r.responses else r.responses ++ [a], reserved := false }

theorem settle_eq (void : Bool) (a : Response) (p : PortNo) (s : State) :
    (if void then releaseReserved p s else placeReserved p a s) = s.modPort p (settled void a) := by
  cases void <;> rfl

theorem takeCommitAnswer_owed {a : Response} (ha : s.commitAnswer = some a) (hp : s.barred = some p) :
    takeCommitAnswer s =
      { s.modPort p (settled s.owedVoid a) with commitAnswer := none, barred := none, owedVoid := false } := by
  simp only [takeCommitAnswer, ha, hp, settle_eq]

theorem takeCommitAnswer_idle (h : s.commitAnswer = none ∨ s.barred = none) : takeCommitAnswer s = s := by
  unfold takeCommitAnswer
  split
  · next ha hp => simp [ha, hp] at h
  · rfl

variable (c : CommitRecord) (status : Status) (result : List Byte)

/-- An open record closes: its response is settled on the barred port, and the bar is lifted. -/
theorem closeRecord_barred (hp : s.barred = some p) :
    closeRecord c status result s =
      { s.modPort p (settled s.owedVoid (c.answer status result)) with
        record := none, commitAnswer := none, barred := none, owedVoid := false } :=
  takeCommitAnswer_owed (s := { s with record := none, commitAnswer := some (c.answer status result) }) rfl hp

theorem closeRecord_unbarred (hp : s.barred = none) :
    closeRecord c status result s = { s with record := none, commitAnswer := some (c.answer status result) } :=
  takeCommitAnswer_idle (.inr hp)

end answer

/-! ### What the invariants look at -/

/-- A port's two queues and its reserved place. -/
def queues (r : PortRec) : List Request × List Response × Bool := (r.requests, r.responses, r.reserved)

/-- A stream's staged image and its commit-pending flag. -/
def staging (r : StreamRec) : Option StreamImage × Bool := (r.staged, r.commitPending)

/-- What the invariants look at of the agent's part. -/
structure AgentView where
  queues       : Table 6 (List Request × List Response × Bool)
  barred       : Option PortNo
  owedVoid     : Bool
  commitAnswer : Option Response
  inExecution  : Option Execution

/-- The agent's part of a state. -/
def agentView (s : State) : AgentView :=
  ⟨s.ports.mapAll queues, s.barred, s.owedVoid, s.commitAnswer, s.inExecution⟩

/-- What the invariants look at. -/
structure View where
  agent   : AgentView
  staging : Table 512 (Option StreamImage × Bool)
  record  : Option CommitRecord
  reports : List Report

/-- The part of a state that any of the invariants looks at. -/
def view (s : State) : View := ⟨agentView s, s.streams.mapAll staging, s.record, s.reports⟩

section view
variable {s t : State}

theorem queues_of_view (h : agentView t = agentView s) (p : PortNo) : queues (t.port p) = queues (s.port p) :=
  Table.read_eq_of_mapAll_eq (congrArg AgentView.queues h) p

theorem staging_of_view (h : view t = view s) (i : StreamNo) : staging (t.stream i) = staging (s.stream i) :=
  Table.read_eq_of_mapAll_eq (congrArg View.staging h) i

theorem view_of_sansBinding (h : t.sansBinding = s.sansBinding) : view t = view s := by
  have hstaging : t.streams.mapAll staging = s.streams.mapAll staging := Table.ext_read fun i => by
    rw [Table.read_mapAll, Table.read_mapAll]
    exact (congrArg staging (stream_of_sansBinding h i) :)
  simp only [view, agentView, hstaging, ports_of_sansBinding h, barred_of_sansBinding h, owedVoid_of_sansBinding h,
    commitAnswer_of_sansBinding h, inExecution_of_sansBinding h, reports_of_sansBinding h, record_of_sansBinding h]

theorem agentView_of_sansNotices (h : t.sansNotices = s.sansNotices) : agentView t = agentView s := by
  have hqueues : t.ports.mapAll queues = s.ports.mapAll queues := Table.ext_read fun p => by
    rw [Table.read_mapAll, Table.read_mapAll]
    exact (congrArg queues (port_of_sansNotices h p) :)
  simp only [agentView, hqueues, barred_of_sansNotices h, owedVoid_of_sansNotices h, commitAnswer_of_sansNotices h,
    inExecution_of_sansNotices h]

/-- A change of notices leaves all that the invariants look at but the report queue. -/
theorem view_of_sansNotices (h : t.sansNotices = s.sansNotices) : view t = { view s with reports := t.reports } := by
  have hstaging : t.streams.mapAll staging = s.streams.mapAll staging := Table.ext_read fun i => by
    rw [Table.read_mapAll, Table.read_mapAll]
    exact (congrArg staging (stream_of_sansNotices h i) :)
  simp only [view, agentView_of_sansNotices h, hstaging, record_of_sansNotices h]

variable (s)

theorem view_modStream (i : StreamNo) {f : StreamRec → StreamRec} (hf : ∀ r, staging (f r) = staging r) :
    view (s.modStream i f) = view s := by
  simp only [view, modStream_streams, State.stream, Table.mapAll_write_of_eq (hf _)]
  rfl

theorem view_mapStreams {f : StreamRec → StreamRec} (hf : ∀ r, staging (f r) = staging r) :
    view { s with streams := s.streams.mapAll f } = view s := by
  simp only [view, Table.mapAll_mapAll_of_eq hf]
  rfl

theorem agentView_mapPorts {f : PortRec → PortRec} (hf : ∀ r, queues (f r) = queues r) :
    agentView { s with ports := s.ports.mapAll f } = agentView s := by
  simp only [agentView, Table.mapAll_mapAll_of_eq hf]

theorem view_modPort (p : PortNo) {f : PortRec → PortRec} (hf : ∀ r, queues (f r) = queues r) :
    view (s.modPort p f) = view s := by
  simp only [view, agentView, modPort_ports, State.port, Table.mapAll_write_of_eq (hf _)]
  rfl

end view

/-! ### The blocks' operations keep an invariant -/

/-- An invariant that the operations of the blocks keep: it looks at nothing but `view`, and what changes that part (the
raises, the open record's changes and its close, the application of a stream image) respects it. -/
structure BlockInvariant (P : State → Prop) : Prop where
  frame : ∀ {s t : State}, P s → view t = view s → P t
  raised : ∀ {s : State} (pt : CausePoint), P s → P (raise pt s)
  narrowed : ∀ {s : State} {f : CommitRecord → CommitRecord},
    (∀ c, (f c).port = c.port ∧ ∀ i ∈ (f c).streams, i ∈ c.streams) → P s → P (modRecord f s)
  closed : ∀ {s : State} {c : CommitRecord} (status : Status) (result : List Byte), s.record = some c → P s →
    P (closeRecord c status result s)
  applied : ∀ {s : State} (i : StreamNo) (img : StreamImage), P s → P (applyRecord i img s)

namespace BlockInvariant

variable {P : State → Prop} (h : BlockInvariant P) {s : State}
include h

theorem keeps_binding {t : State} (ht : t.sansBinding = s.sansBinding) (hs : P s) : P t :=
  h.frame hs (view_of_sansBinding ht)

/-- A change of one stream that leaves its staged image and its flag. -/
theorem keeps_modStream (i : StreamNo) {f : StreamRec → StreamRec} (hs : P s)
    (hf : ∀ r, staging (f r) = staging r := by intro; rfl) : P (s.modStream i f) :=
  h.frame hs (view_modStream s i hf)

theorem keeps_modLane (l : LaneNo) (f : LaneRec → LaneRec) (hs : P s) : P (s.modLane l f) := h.frame hs rfl

/-- A change of one port that leaves its queues and its reserved place. -/
theorem keeps_modPort (p : PortNo) {f : PortRec → PortRec} (hs : P s)
    (hf : ∀ r, queues (f r) = queues r := by intro; rfl) : P (s.modPort p f) :=
  h.frame hs (view_modPort s p hf)

theorem keeps_dropTurn (hs : P s) : P s.dropTurn := h.frame hs rfl

theorem keeps_demandChanged (i : StreamNo) (hs : P s) : P (demandChanged i s) :=
  h.keeps_binding (demandChanged_sansBinding s i) hs

theorem keeps_notify (kind : NotifyKind) (i : StreamNo) (hs : P s) : P (notify kind i s) :=
  h.keeps_binding (notify_sansBinding s kind i) hs

theorem keeps_callPass (hs : P s) : P (callPass s) := h.keeps_binding (callPass_sansBinding s) hs

theorem keeps_pass (hs : P s) : P (pass s) := h.keeps_binding (pass_sansBinding s) hs

theorem keeps_removeEntry (i : StreamNo) (hs : P s) : P (removeEntry i s) :=
  h.keeps_binding (removeEntry_sansBinding s i) hs

theorem keeps_startRelease (l : LaneNo) (hs : P s) : P (startRelease l s) :=
  h.keeps_binding (startRelease_sansBinding s l) hs

theorem keeps_duringPass {event : State → State} (hevent : ∀ t, P t → P (event t)) (hs : P s) :
    P (duringPass event s) :=
  duringPass_keeps (fun _ _ ht => h.keeps_binding ht) hevent hs

/-! #### Pacing and queues -/

theorem keeps_changePacing (i : StreamNo) {f : StreamRec → StreamRec} (hs : P s)
    (hf : ∀ r, staging (f r) = staging r := by intro; rfl) : P (changePacing i f s) := by
  have hm : P (s.modStream i f) := h.keeps_modStream i hs hf
  unfold changePacing
  dsimp only
  split
  · exact h.keeps_demandChanged i hm
  · exact hm

theorem keeps_consumeCredit (i : StreamNo) (hs : P s) : P (consumeCredit i s).2 := by
  unfold consumeCredit
  split
  · exact hs
  · exact h.keeps_changePacing i hs

theorem keeps_emptinessChanged (i : StreamNo) (wasEmpty : Bool) (hs : P s) : P (emptinessChanged i wasEmpty s) := by
  unfold emptinessChanged
  split
  · exact hs
  · exact h.keeps_demandChanged i hs

/-- A change of a stream's queue, with the free buffers that it takes or returns. -/
theorem keeps_queue (i : StreamNo) (free : Nat) (f : StreamRec → List TrafficCell) (hs : P s) :
    P ({ s with freeBuffers := free }.modStream i fun r => { r with queue := f r }) :=
  h.keeps_modStream (s := { s with freeBuffers := free }) i (h.frame hs rfl)

theorem keeps_appendCell (i : StreamNo) (c : TrafficCell) (hs : P s) : P (appendCell i c s) := by
  refine h.keeps_emptinessChanged i _ ?_
  split
  · exact h.raised _ (h.keeps_queue i _ _ hs)
  · exact h.keeps_queue i _ _ hs

theorem keeps_takeHead (i : StreamNo) (hs : P s) : P (takeHead i s).2 := by
  unfold takeHead
  split
  · exact hs
  · exact h.keeps_emptinessChanged i _ (h.keeps_queue i _ _ hs)

theorem keeps_flush (i : StreamNo) (hs : P s) : P (flush i s) := by
  unfold flush
  dsimp only
  split
  · exact hs
  · exact h.keeps_demandChanged i (h.keeps_queue i _ _ hs)

theorem keeps_tellStroke (before : StreamRec) (i : StreamNo) (hs : P s) : P (tellStroke before i s) := by
  have hraised : P (if before.saturates then raise (.stream i .creditSaturated) s else s) := by
    split
    · exact h.raised _ hs
    · exact hs
  unfold tellStroke
  dsimp only
  split
  · exact h.keeps_demandChanged i hraised
  · exact hraised

omit h in
/-- A stroke leaves what is staged. -/
theorem staging_struck (r : StreamRec) : staging r.struck = staging r := by
  rw [Pacing.struck_eq]
  split <;> rfl

theorem keeps_countStreams (hs : P s) : P (countStreams s) := by
  have hcounted : P (Pacing.counting s) :=
    h.frame hs (view_mapStreams { s with uncounted := false } staging_struck)
  exact Arbiter.ClaimInvariant.keeps_foldl (fun _ i => h.keeps_tellStroke (s.stream i) i) _ hcounted

theorem keeps_countFirst (hs : P s) : P (countFirst s) := by
  unfold countFirst
  split
  · exact h.keeps_countStreams hs
  · exact hs

theorem keeps_stroke (hs : P s) : P (stroke s) := by
  have hadvanced : P (advance s).dropTurn := h.frame hs rfl
  unfold stroke
  dsimp only [takeTurn_eq]
  split
  · exact h.keeps_countStreams hs
  · split
    · exact hadvanced
    · exact h.keeps_countStreams hadvanced

/-! #### Life states -/

theorem keeps_setLife (i : StreamNo) (life : Life) (hs : P s) : P (setLife i life s) :=
  h.keeps_demandChanged i (h.keeps_modStream i hs)

theorem keeps_enterClosed (i : StreamNo) (hs : P s) : P (enterClosed i s) :=
  h.keeps_demandChanged i (h.keeps_removeEntry i (h.keeps_flush i (h.keeps_changePacing i (h.keeps_modStream i hs))))

theorem keeps_judgeDrain (i : StreamNo) (hs : P s) : P (judgeDrain i s) := by
  unfold judgeDrain
  split
  · exact h.keeps_enterClosed i hs
  · exact hs

theorem keeps_openStream (i : StreamNo) (hs : P s) : P (openStream i s).2 := by
  unfold openStream
  dsimp only
  split
  · exact h.keeps_demandChanged i (h.keeps_changePacing i (h.keeps_modStream i hs))
  · exact hs

theorem keeps_closeDiscarding (i : StreamNo) (hs : P s) : P (closeDiscarding i s) := by
  have hflushed : P (removeEntry i (flush i s)) := h.keeps_removeEntry i (h.keeps_flush i hs)
  unfold closeDiscarding
  dsimp only
  split
  · exact h.keeps_enterClosed i hflushed
  · exact h.keeps_setLife i _ hflushed

theorem keeps_closePlain (i : StreamNo) (hs : P s) : P (closePlain i s).2 := by
  unfold closePlain
  split <;> dsimp only
  · exact h.keeps_judgeDrain i (h.keeps_setLife i _ hs)
  · exact h.keeps_enterClosed i (h.keeps_flush i hs)
  · exact hs
  · exact hs

theorem keeps_closeDiscard (i : StreamNo) (hs : P s) : P (closeDiscard i s).2 := by
  unfold closeDiscard
  split <;> dsimp only
  · exact h.keeps_closeDiscarding i hs
  · exact h.keeps_enterClosed i (h.keeps_flush i hs)
  · exact h.keeps_closeDiscarding i hs
  · exact hs
  · exact hs

theorem keeps_clearHold (i : StreamNo) (hs : P s) : P (clearHold i s).2 := by
  unfold clearHold
  split
  · exact h.keeps_setLife i _ (h.keeps_modStream i hs)
  · exact hs

theorem keeps_refusalLimitReached (i : StreamNo) (hs : P s) : P (refusalLimitReached i s) := by
  unfold refusalLimitReached
  split
  · exact h.keeps_demandChanged i (h.raised _ (h.keeps_modStream i hs))
  · exact h.keeps_enterClosed i (h.keeps_flush i (h.raised _ hs))
  · exact hs
  · exact hs
  · exact hs

theorem keeps_bindRefused (i : StreamNo) (hs : P s) : P (bindRefused i s) := by
  have hcounted : P (s.modStream i fun r => { r with refusals := r.refusals + 1 }) := h.keeps_modStream i hs
  unfold bindRefused
  dsimp only
  split
  · split
    · exact h.keeps_refusalLimitReached i hcounted
    · exact hcounted
  · exact hs

theorem keeps_timerControl (i : StreamNo) {f : StreamRec → StreamRec} (hs : P s)
    (hf : ∀ r, staging (f r) = staging r := by intro; rfl) : P (timerControl i f s).2 := by
  unfold timerControl
  split
  · exact hs
  · exact h.keeps_changePacing i hs hf

/-! #### Commits -/

theorem keeps_judgeCompletion (hs : P s) : P (judgeCompletion s) := by
  unfold judgeCompletion
  split
  · next hc =>
    split
    · exact h.closed _ _ hc hs
    · exact hs
  · exact hs

/-- The application of a device set narrows the record by its device part at most (R124). -/
theorem keeps_applyDevice (d : DeviceParams) (hs : P s) : P (applyDevice d s) := by
  have hparams : P { s with params := d, stagedParams := none, trunkCommitPending := false } := h.frame hs rfl
  refine h.frame (h.narrowed (f := fun c => if c.devicePart = .pending then { c with devicePart := .applied } else c)
    (fun c => ?_) hparams) rfl
  split <;> exact ⟨rfl, fun _ => id⟩

theorem keeps_commitLoss (i : StreamNo) (hs : P s) : P (commitLoss i s) := by
  unfold commitLoss
  dsimp only
  split
  · refine h.keeps_judgeCompletion (h.applied i _ (h.narrowed (fun c => ?_) hs))
    split <;> exact ⟨rfl, fun _ => id⟩
  · exact hs

theorem keeps_judgeDevicePart (hs : P s) : P (judgeDevicePart s) := by
  unfold judgeDevicePart
  split
  · split
    · exact h.keeps_judgeCompletion (h.keeps_callPass (h.keeps_applyDevice _ hs))
    · exact hs
  · exact hs

/-! #### Lanes, handshakes and the trunk link -/

theorem keeps_clearHolder (l : LaneNo) (i : StreamNo) (hs : P s) : P (clearHolder l i s) :=
  h.keeps_modStream i (h.keeps_modLane l _ hs)

theorem keeps_lossClaims (kind : NotifyKind) (i : StreamNo) (hs : P s) : P (lossClaims kind i s) :=
  h.keeps_notify kind i (h.keeps_commitLoss i (h.keeps_judgeDrain i hs))

theorem keeps_loseLane (kind : NotifyKind) (l : LaneNo) (i : StreamNo) (hs : P s) : P (loseLane kind l i s) :=
  h.keeps_lossClaims kind i (h.keeps_clearHolder l i hs)

theorem keeps_loseHolder (kind : NotifyKind) (l : LaneNo) (hs : P s) : P (loseHolder kind l s) := by
  unfold loseHolder
  split
  · exact h.keeps_loseLane kind l _ hs
  · exact hs

theorem keeps_staleCell (l : LaneNo) (hs : P s) : P (staleCell l s) := h.raised _ (h.keeps_modLane l _ hs)

theorem keeps_takeAnswer (kind : Handshake) (l : LaneNo) (tag : Byte) {matching : State → State}
    (hm : ∀ {t}, P t → P (matching t)) (hs : P s) : P (takeAnswer kind l tag matching s) := by
  unfold takeAnswer
  split
  · exact h.keeps_staleCell l hs
  · split
    · exact hm hs
    · exact h.raised _ hs

theorem keeps_takeUnknownAnswer (l : LaneNo) (tag : Byte) (hs : P s) : P (takeUnknownAnswer l tag s) := by
  unfold takeUnknownAnswer
  split
  · exact h.keeps_staleCell l hs
  · exact h.raised _ hs

theorem keeps_takePause (paused : Bool) (l : LaneNo) (tag : Byte) (hs : P s) : P (takePause paused l tag s) := by
  unfold takePause
  split
  · exact h.keeps_staleCell l hs
  · split
    · exact h.keeps_modLane l _ hs
    · exact h.raised _ hs

theorem keeps_bindAcceptMatched (l : LaneNo) (hs : P s) : P (bindAcceptMatched l s) := by
  refine h.keeps_judgeDevicePart (h.keeps_binding (judgeLane_sansBinding _ l) ?_)
  split
  · exact h.keeps_notify _ _ (h.keeps_modStream _ (h.keeps_modLane l _ hs))
  · exact h.keeps_modLane l _ hs

theorem keeps_freeOrDisable (l : LaneNo) (hs : P s) : P (freeOrDisable l s) := by
  unfold freeOrDisable
  split
  · exact h.keeps_modLane l _ hs
  · exact h.frame hs rfl

theorem keeps_passOnJoin (joined : Bool) (hs : P s) : P (passOnJoin joined s) :=
  h.keeps_binding (passOnJoin_sansBinding s joined) hs

theorem keeps_handBack (l : LaneNo) (i : StreamNo) (hs : P s) : P (handBack l i s) :=
  h.keeps_freeOrDisable l (h.keeps_clearHolder l i hs)

theorem keeps_bindRefuseMatched (l : LaneNo) (hs : P s) : P (bindRefuseMatched l s) := by
  have hended := h.keeps_modLane l (fun r => { r.endHandshake with bindsRefused := r.bindsRefused + 1 }) hs
  unfold bindRefuseMatched
  dsimp only
  split
  · next i _ =>
    have hlost := h.keeps_commitLoss i (h.keeps_judgeDrain i (h.keeps_bindRefused i (h.keeps_handBack l i hended)))
    exact h.keeps_judgeDevicePart (h.keeps_binding (refusalReports_sansBinding _ i _) hlost)
  · exact h.keeps_judgeDevicePart (h.keeps_passOnJoin _ (h.keeps_freeOrDisable l hended))

theorem keeps_releaseAckMatched (l : LaneNo) (hs : P s) : P (releaseAckMatched l s) := by
  have hended := h.keeps_modLane l LaneRec.endHandshake hs
  unfold releaseAckMatched
  dsimp only
  split
  · next i _ =>
    exact h.keeps_judgeDevicePart (h.keeps_passOnJoin _ (h.keeps_lossClaims _ i (h.keeps_handBack l i hended)))
  · exact h.keeps_judgeDevicePart (h.keeps_passOnJoin _ (h.keeps_freeOrDisable l hended))

theorem keeps_resetAckMatched (l : LaneNo) (hs : P s) : P (resetAckMatched l s) :=
  h.keeps_judgeDevicePart (h.keeps_passOnJoin _ (h.keeps_freeOrDisable l (h.keeps_modLane l _ hs)))

theorem keeps_answerTimeout (l : LaneNo) (hs : P s) : P (answerTimeout l s) := by
  have hraised (pt : CausePoint) : P (raise pt (s.modLane l LaneRec.timedOut)) :=
    h.raised pt (h.keeps_modLane l _ hs)
  unfold answerTimeout
  dsimp only
  split
  · split
    · next i _ => exact h.keeps_judgeDevicePart (h.keeps_loseLane _ l i (h.raised _ (hraised _)))
    · exact h.keeps_judgeDevicePart (hraised _)
  · exact h.keeps_judgeDevicePart (h.keeps_loseHolder _ l (hraised _))
  · exact h.keeps_judgeDevicePart (hraised _)
  all_goals exact hs

theorem keeps_leaveFreeList (l : LaneNo) (hs : P s) : P (leaveFreeList l s) := by
  unfold leaveFreeList
  dsimp only
  split
  · exact h.keeps_binding (judgeGroup_sansBinding _ _) (h.frame hs rfl)
  · exact h.frame hs rfl

theorem keeps_laneDisable (l : LaneNo) (hs : P s) : P (laneDisable l s).2 := by
  unfold laneDisable
  dsimp only
  split <;> dsimp only
  case h_1 => exact h.keeps_leaveFreeList l (h.keeps_modLane l _ hs)
  case h_5 => exact h.keeps_modLane l _ (h.keeps_startRelease l hs)
  all_goals exact h.frame hs rfl

theorem keeps_disableLane (l : LaneNo) (hs : P s) : P (disableLane l s).2 := by
  unfold disableLane
  split
  · exact h.keeps_duringPass (fun _ => h.keeps_laneDisable l) hs
  · exact h.keeps_laneDisable l hs

theorem keeps_laneEnable (l : LaneNo) (hs : P s) : P (laneEnable l s).2 := by
  unfold laneEnable
  split
  · split <;> exact h.frame hs rfl
  · exact hs

theorem keeps_laneRetire (l : LaneNo) (hs : P s) : P (laneRetire l s).2 := by
  unfold laneRetire
  split
  · exact h.keeps_startRelease l hs
  · exact hs

theorem keeps_laneRecover (l : LaneNo) (hs : P s) : P (laneRecover l s).2 := by
  unfold laneRecover
  split
  · exact h.keeps_modLane l _ hs
  · exact hs

theorem keeps_applyPendingDisable (l : LaneNo) (hs : P s) : P (applyPendingDisable l s) := by
  unfold applyPendingDisable
  dsimp only
  split
  · split
    · exact h.keeps_startRelease l hs
    · split
      · exact h.keeps_leaveFreeList l (h.keeps_modLane l _ hs)
      · exact h.keeps_modLane l _ hs
  · exact hs

theorem keeps_dropLanes (hs : P s) : P (dropLanes s) :=
  h.frame hs (view_mapStreams (f := fun r => { r with heldLane := none }) s fun _ => rfl)

theorem keeps_trunkLoss (before : LaneRec) (hs : P s) : P (trunkLoss before s) := by
  unfold trunkLoss
  split
  · dsimp only
    split
    · exact h.keeps_lossClaims _ _ (h.raised _ hs)
    · exact h.keeps_lossClaims _ _ hs
  · exact hs

theorem keeps_trunkDown (hs : P s) : P (trunkDown s) :=
  h.keeps_judgeDevicePart (Arbiter.ClaimInvariant.keeps_foldl (fun _ l => h.keeps_trunkLoss (s.lane l)) _
    (h.keeps_dropLanes (h.raised _ (h.frame hs rfl))))

theorem keeps_alignLane (l : LaneNo) (hs : P s) : P (alignLane l s) := by
  unfold alignLane
  dsimp only
  split
  · exact hs
  · split
    · split <;> exact h.frame hs rfl
    · exact hs

theorem keeps_onTrunkCell (l : LaneNo) {take : State → State} (htake : ∀ {t}, P t → P (take t)) (hs : P s) :
    P (onTrunkCell l take s) := by
  unfold onTrunkCell
  dsimp only
  split
  · split
    · exact htake (h.keeps_modLane l _ hs)
    · exact h.keeps_modLane l _ hs
  · exact h.keeps_modLane l _ hs

/-! #### Slots and launches -/

theorem keeps_launchCell (l : LaneNo) (i : StreamNo) (hs : P s) : P (launchCell l i s) := by
  have htaken := h.keeps_takeHead i hs
  unfold launchCell
  split
  · next heq =>
    rw [heq] at htaken
    exact h.frame htaken rfl
  · next c t heq =>
    rw [heq] at htaken
    refine h.keeps_modStream i (h.keeps_modLane l _ ?_)
    split
    · exact h.keeps_judgeDrain i htaken
    · exact htaken

theorem keeps_launchCredit (l : LaneNo) (i : StreamNo) (hs : P s) : P (launchCredit l i s) := by
  have hclaimed := h.keeps_consumeCredit i hs
  unfold launchCredit
  split
  · next heq =>
    rw [heq] at hclaimed
    exact h.frame hclaimed rfl
  · next heq =>
    rw [heq] at hclaimed
    exact h.keeps_launchCell l i hclaimed

theorem keeps_readSlot (l : LaneNo) (hs : P s) : P (readSlot l s) := by
  have hfill : P (sendFill l s) := h.frame hs rfl
  unfold readSlot
  dsimp only [takeTurn_eq]
  split
  · split
    · exact h.frame hs rfl
    · next i _ _ =>
      have hbegun : P (beginLaunch l i s.dropTurn) := h.frame hs rfl
      split
      · split
        · exact hbegun
        · exact h.keeps_launchCredit l i hbegun
      · exact hfill
    · exact hfill
  · exact hfill

theorem keeps_laneSlot (l : LaneNo) (hs : P s) : P (laneSlot l s) := by
  unfold laneSlot
  split
  · split
    · exact h.keeps_launchCredit l _ hs
    · exact h.keeps_readSlot l hs
  · exact h.keeps_readSlot l hs

theorem keeps_chargeLaunches (flights : List (LaneNo × StreamNo)) (hs : P s) : P (chargeLaunches flights s).2 := by
  induction flights generalizing s with
  | nil => exact hs
  | cons f fs ih =>
    unfold chargeLaunches
    dsimp only [takeTurn_eq]
    split
    · exact ih hs
    · split
      · exact ih (h.keeps_consumeCredit f.2 (h.keeps_dropTurn hs))
      · exact ih (h.keeps_dropTurn hs)

theorem keeps_endLaunch (charged : List (LaneNo × StreamNo)) (f : LaneNo × StreamNo) (hs : P s) :
    P (endLaunch charged s f) := by
  unfold endLaunch
  split
  · exact h.keeps_launchCell f.1 f.2 hs
  · split
    · exact h.frame hs rfl
    · exact hs

theorem keeps_duringLaunches (which : StreamNo → Bool) {event : State → State} (hevent : ∀ {t}, P t → P (event t))
    (hs : P s) : P (duringLaunches which event s) :=
  Arbiter.ClaimInvariant.keeps_foldl (fun _ f => h.keeps_endLaunch _ f) _ (hevent (h.keeps_chargeLaunches _ hs))

theorem keeps_presetTimer (clear : Bool) (i : StreamNo) (hs : P s) : P (presetTimer clear i s).2 := by
  unfold presetTimer
  split
  · exact hs
  · exact Arbiter.ClaimInvariant.keeps_foldl (fun _ f => h.keeps_endLaunch _ f) _ (h.keeps_changePacing i hs)

theorem keeps_discardClose (i : StreamNo) (hs : P s) : P (discardClose i s).2 :=
  h.keeps_duringLaunches _ (h.keeps_closeDiscard i) hs

theorem keeps_loseAlignment (l : LaneNo) (hs : P s) : P (loseAlignment l s) := by
  unfold loseAlignment
  dsimp only
  split
  · split
    · exact h.keeps_duringLaunches _ (h.keeps_duringPass fun _ => h.keeps_trunkDown) (h.keeps_modLane l _ hs)
    · exact h.keeps_modLane l _ hs
  · exact hs

theorem keeps_failedTrunkCell (l : LaneNo) (hs : P s) : P (failedTrunkCell l s) := by
  unfold failedTrunkCell
  dsimp only
  split
  · split
    · exact h.keeps_loseAlignment l (h.keeps_modLane l _ hs)
    · exact h.keeps_modLane l _ hs
  · exact h.keeps_modLane l _ hs

/-! #### Admission -/

theorem keeps_misrouted (p : PortNo) (i : StreamNo) (hs : P s) : P (misrouted p i s) :=
  h.raised _ (h.keeps_modPort p hs)

theorem keeps_queueDropped (i : StreamNo) (hs : P s) : P (queueDropped i s) := h.raised _ (h.keeps_modStream i hs)

theorem keeps_admitted (gap : Bool) (i : StreamNo) (hs : P s) : P (admitted gap i s) := by
  have hcounted : P (s.modStream i fun r => { r with admitted := r.admitted + 1 }) := h.keeps_modStream i hs
  unfold admitted
  dsimp only
  split
  · exact h.raised _ (h.keeps_modStream i hcounted)
  · exact hcounted

theorem keeps_offerArrival (p : PortNo) (a : Arrival) (hs : P s) : P (offerArrival p a s) := by
  have hended : P (s.modPort p fun r => { r with arriving := none }) := h.keeps_modPort p hs
  unfold offerArrival offerCell
  dsimp only
  split
  · exact h.keeps_admitted _ _ (h.keeps_appendCell _ _ hended)
  · exact h.keeps_queueDropped _ hended
  · exact h.keeps_queueDropped _ hended
  · exact h.keeps_misrouted p _ hended

theorem keeps_admitArrival (p : PortNo) (c : TrafficCell) (hs : P s) : P (admitArrival p c s) := by
  have hsettled : P (s.modStream c.stream fun r => { r with expected := some (c.sequence + 1) }).dropTurn :=
    h.keeps_dropTurn (h.keeps_modStream _ hs)
  unfold admitArrival
  dsimp only [takeTurn_eq]
  split
  · exact h.keeps_misrouted p _ hs
  · split
    · exact h.keeps_misrouted p _ hs
    · split
      · exact h.raised _ (h.keeps_modStream _ hs)
      · split
        · exact h.keeps_modPort p hsettled
        · exact h.keeps_offerArrival p _ (h.keeps_modPort p hsettled)

theorem keeps_onEdgeCell (p : PortNo) {take : State → State} (htake : ∀ {t}, P t → P (take t)) (hs : P s) :
    P (onEdgeCell p take s) := by
  unfold onEdgeCell
  split
  · exact htake (h.keeps_modPort p hs)
  · exact h.keeps_modPort p hs

theorem keeps_trafficCell (p : PortNo) (c : TrafficCell) (hs : P s) : P (trafficCell p c s) := by
  unfold trafficCell
  dsimp only
  split
  · next a _ =>
    have hoffered := h.keeps_offerArrival p a hs
    split
    · exact hoffered
    · exact h.keeps_onEdgeCell p (h.keeps_admitArrival p c) hoffered
  · exact h.keeps_onEdgeCell p (h.keeps_admitArrival p c) hs

theorem keeps_edgeLinkUp (p : PortNo) (hs : P s) : P (edgeLinkUp p s) := by
  unfold edgeLinkUp
  split
  · exact h.keeps_modPort p hs
  · exact hs

theorem keeps_badKind (p : PortNo) (hs : P s) : P (badKind p s) := h.raised _ (h.keeps_modPort p hs)

/-! #### Expiries -/

theorem keeps_answerExpiry (l : LaneNo) (hs : P s) : P (answerExpiry l s) := by
  unfold answerExpiry
  split
  · exact h.keeps_answerTimeout l hs
  · exact hs

theorem keeps_holdExpiry (l : LaneNo) (hs : P s) : P (holdExpiry l s) := by
  unfold holdExpiry
  split
  · exact h.keeps_startRelease l hs
  · exact hs

theorem keeps_settleExpiry (i : StreamNo) (hs : P s) : P (settleExpiry i s) := by
  unfold settleExpiry
  split
  · exact h.keeps_notify _ i (h.keeps_modStream i hs)
  · exact hs

theorem keeps_commitExpiry (hs : P s) : P (commitExpiry s) := by
  unfold commitExpiry
  split
  · next hc =>
    split
    · exact h.raised _ (h.closed _ _ hc hs)
    · exact hs
  · exact hs

theorem keeps_budgetAgeOut (hs : P s) : P (budgetAgeOut s) := by
  unfold budgetAgeOut
  split
  · split
    · exact h.keeps_pass (h.frame hs rfl)
    · exact hs
  · exact hs

theorem keeps_spacingExpiry (hs : P s) : P (spacingExpiry s) := by
  unfold spacingExpiry
  split
  · exact h.keeps_pass (h.frame hs rfl)
  · exact hs

theorem keeps_imageApplication (i : StreamNo) (hs : P s) : P (imageApplication i s) := by
  unfold imageApplication
  dsimp only
  split
  · exact h.keeps_demandChanged i (h.keeps_commitLoss i hs)
  · exact hs

end BlockInvariant

/-! ### The claims of the management commands, COMMIT apart, keep an invariant -/

/-- The staged images of every stream and port go, and the streams that were commit pending leave the open record
(R117): DISCARD of all, up to the device parameter set. -/
def withdrawAll (s : State) : State :=
  modRecord (CommitRecord.withdraw fun i => (s.stream i).commitPending)
    { s with
      streams := s.streams.mapAll StreamRec.discarded
      ports := s.ports.mapAll fun r => { r with staged := none } }

theorem discardAll_eq (s : State) : discardAll s = discardDevice (withdrawAll s) := rfl

/-- An open record with every stream pending in it applied, those that are flagged counted (R129). -/
def restartRecord (s : State) (c : CommitRecord) : CommitRecord :=
  { c with
    applied := c.applied + (c.streams.filter fun i => (s.stream i).commitPending).length
    streams := [] }

/-- The part of a RESTART that applies the commit-pending images (R129). -/
def restartImages (s : State) : State :=
  modRecord (restartRecord s)
    { s with streams := s.streams.mapAll (restartImage s.paceCount s.params.settleInterval) }

/-- The part of a RESTART that applies a waiting device set (R129). -/
def restartDevice (s : State) : State :=
  match s.trunkCommitPending, s.stagedParams with
  | true, some d => applyDevice d s
  | _, _ => { s with trunkCommitPending := false }

theorem restartCommit_eq (s : State) :
    restartCommit s =
      match (restartDevice (restartImages s)).record with
      | some c => closeRecord c .done c.doneResult (restartDevice (restartImages s))
      | none => restartDevice (restartImages s) := rfl

/-- An invariant that, beside the blocks' operations, what the management commands do to notices and to staged images
respects. -/
structure ClaimInvariant (P : State → Prop) : Prop extends BlockInvariant P where
  acknowledged : ∀ {s : State} (pt : CausePoint), P s → P (removeNotice pt s)
  staged : ∀ {s : State} (i : StreamNo) (m : StreamImage), P s → P (s.modStream i fun r => { r with staged := some m })
  withdrawn : ∀ {s : State} (i : StreamNo), P s → P (discardStream i s)
  withdrawnAll : ∀ {s : State}, P s → P (withdrawAll s)
  imagesRestarted : ∀ {s : State}, P s → P (restartImages s)
  noticesCleared : ∀ {s : State}, P s → P (restartNotices s)

namespace ClaimInvariant

variable {P : State → Prop} (h : ClaimInvariant P) {s : State}
include h

theorem keeps_ackNotice (n : NoticeTarget) (mask : Nat) (hs : P s) : P (ackNotice n mask s).2 := by
  unfold ackNotice
  split
  · exact Arbiter.ClaimInvariant.keeps_foldl (fun _ pt => h.acknowledged pt) _ hs
  · exact hs

theorem keeps_stageStream (i : StreamNo) (img : Option StreamImage) (hs : P s) : P (stageStream i img s).2 := by
  cases img with
  | none => exact hs
  | some m => exact h.staged i m hs

theorem keeps_stageDevice (img : Option DeviceParams) (hs : P s) : P (stageDevice img s).2 := by
  cases img with
  | none => exact hs
  | some d => exact h.frame hs rfl

theorem keeps_stagePort (p : PortNo) (img : Option PortRecord) (hs : P s) : P (stagePort p img s).2 := by
  cases img with
  | none => exact hs
  | some r => exact h.keeps_modPort p (f := fun x => { x with staged := some r }) hs

theorem keeps_discardDevice (hs : P s) : P (discardDevice s) := by
  unfold discardDevice
  dsimp only
  split
  · refine h.keeps_callPass (h.narrowed (fun c => ?_) (h.frame hs rfl))
    split <;> exact ⟨rfl, fun _ => id⟩
  · exact h.frame hs rfl

theorem keeps_discard (scope : DiscardScope) (hs : P s) : P (discard scope s).2 := by
  cases scope with
  | stream i => exact h.keeps_judgeCompletion (h.withdrawn i hs)
  | device => exact h.keeps_judgeCompletion (h.keeps_discardDevice hs)
  | port p => exact h.keeps_modPort p (f := fun r => { r with staged := none }) hs
  | all => exact h.keeps_judgeCompletion (h.keeps_discardDevice (h.withdrawnAll hs))

theorem keeps_restartCommit (hs : P s) : P (restartCommit s) := by
  have hdevice : P (restartDevice (restartImages s)) := by
    unfold restartDevice
    split
    · exact h.keeps_applyDevice _ (h.imagesRestarted hs)
    · exact h.frame (h.imagesRestarted hs) rfl
  rw [restartCommit_eq]
  split
  · next hc => exact h.closed _ _ hc hdevice
  · exact hdevice

omit h in
/-- The end of a drain in a RESTART leaves what is staged. -/
theorem staging_restartLife (r : StreamRec) : staging (restartLife r) = staging r := by
  unfold restartLife
  split <;> rfl

omit h in
/-- The steps of a RESTART before the commit unit's leave what the invariants look at (R155). -/
theorem view_restartStreams (s : State) :
    view (restartStreams (restartQueues (restartArbiter (dropLanes s)))) = view s := by
  have hstreams (t : State) : view (restartStreams t) = view t :=
    view_mapStreams t fun r => (staging_restartLife r :)
  have hqueues (t : State) : view (restartQueues t) = view t :=
    view_mapStreams (f := fun r => { r with queue := [] }) t fun _ => rfl
  have harbiter (t : State) : view (restartArbiter t) = view t :=
    view_mapStreams (f := fun r => { r with keptTime := none }) t fun _ => rfl
  have hlanes (t : State) : view (dropLanes t) = view t :=
    view_mapStreams (f := fun r => { r with heldLane := none }) t fun _ => rfl
  rw [hstreams, hqueues, harbiter, hlanes]

theorem keeps_deviceRestart (hs : P s) : P (deviceRestart s) := by
  have hcleared : P (restartNotices (restartCommit (restartStreams (restartQueues (restartArbiter (dropLanes s)))))) :=
    h.noticesCleared (h.keeps_restartCommit (h.frame hs (view_restartStreams s)))
  unfold deviceRestart restartRecoveries
  split
  · exact h.frame hcleared rfl
  · exact hcleared

end ClaimInvariant

/-! ### The agent keeps an invariant -/

/-- An invariant that the agent's taking and answering of requests, the edge ports' queues and the resets respect. -/
structure AgentInvariant (P : State → Prop) : Prop extends ClaimInvariant P where
  taken : ∀ {s : State} {p : PortNo} {q : Request}, s.nextRequest = some (p, q) → P s → P (takeRequest p q s)
  responded : ∀ {s : State} {e : Execution} (q : Request) (a : Reply), s.inExecution = some e → P s →
    P (respond e.port q a s)
  answered : ∀ {s : State} (a : Reply), P s →
    P { s with inExecution := s.inExecution.map fun e => { e with answer := some a } }
  completed : ∀ {s : State} (p : PortNo) (q : Request) (scope : CommitScope), s.record = none → P s →
    P (Holding.claimed p q scope none s)
  leftOpen : ∀ {s : State} {e : Execution} (q : Request) (scope : CommitScope), s.record = none →
    s.inExecution = some e → P s → P (Holding.leftOpen e.port q scope s)
  commitAnswerTaken : ∀ {s : State}, P s → P (takeCommitAnswer s)
  received : ∀ {s : State} (p : PortNo) (q : Request), P s → P (requestArrival p q s)
  responseSent : ∀ {s : State} {p : PortNo} {a : Response} {rest : List Response}, (s.port p).responses = a :: rest →
    P s → P (s.modPort p fun r => { r with responses := rest })
  reportSent : ∀ {s : State} {rep : Report} {rest : List Report}, s.reports = rep :: rest → P s →
    P { s with reports := rest }
  emptied : ∀ {s : State} (p : PortNo), P s →
    P (s.modPort p fun r =>
      { r with aligned := false, failures := 0, passes := 0, requests := [], responses := [] })
  voided : ∀ {s : State} (p : PortNo), P s → P (agentLoss p s)
  reset : ∀ (pin : Bool) (s : State), P (powerOnState pin s)

/-- The request in execution stays what it is, whatever its own claims do. -/
theorem claimInvariant_inExecution (x : Option Execution) : ClaimInvariant fun s => s.inExecution = x where
  frame hs hv := (congrArg (fun v : View => v.agent.inExecution) hv :).trans hs
  raised _ hs := (raise_inExecution _ _).trans hs
  narrowed _ hs := hs
  closed {s c} status result _ hs := by
    cases hb : s.barred with
    | none => rw [closeRecord_unbarred c status result hb]; exact hs
    | some p => rw [closeRecord_barred c status result hb]; exact hs
  applied _ _ hs := (removeEntry_inExecution _ _).trans hs
  acknowledged _ hs := (inExecution_of_sansNotices (removeNotice_sansNotices _ _)).trans hs
  staged _ _ hs := hs
  withdrawn _ hs := hs
  withdrawnAll hs := hs
  imagesRestarted hs := hs
  noticesCleared hs := hs

/-- What a request at a port asks for keeps the predicate and the request in execution, if it gives a reply; without
one, the bar of the port restores the predicate (R147, R148). -/
def SoundAction (P : State → Prop) (p : PortNo) (act : Action) : Prop :=
  ∀ (s : State) (e : Execution), s.inExecution = some e → e.port = p → P s →
    match act s with
    | (some _, u) => u.inExecution = some e ∧ P u
    | (none, u) => P (barPort p u)

/-- What a body asks for, once the request has passed its checks, is sound. -/
def SoundBody (P : State → Prop) (p : PortNo) (b : Except Status Action) : Prop :=
  ∀ act, b = .ok act → SoundAction P p act

section body
variable {P : State → Prop} {p : PortNo}

theorem soundBody_error (status : Status) : SoundBody P p (.error status) := nofun

theorem soundBody_ok {act : Action} (h : SoundAction P p act) : SoundBody P p (.ok act) := by
  rintro _ ⟨⟩
  exact h

theorem soundBody_reading (octets : State → List Byte) : SoundBody P p (reading octets) :=
  soundBody_ok fun _ _ he _ hs => ⟨he, hs⟩

/-- An action that replies, and whose changes keep every invariant of the claims. -/
theorem soundAction_replying (hP : ClaimInvariant P) {reply : State → Reply} {f : State → State}
    (hf : ∀ {Q : State → Prop}, ClaimInvariant Q → ∀ {s}, Q s → Q (f s)) :
    SoundAction P p fun s => (some (reply s), f s) :=
  fun _ e he _ hs => ⟨hf (claimInvariant_inExecution (some e)) he, hf hP hs⟩

theorem soundBody_answering (hP : ClaimInvariant P) {f : State → Status × State}
    (hf : ∀ {Q : State → Prop}, ClaimInvariant Q → ∀ {s}, Q s → Q (f s).2) : SoundBody P p (answering f) :=
  soundBody_ok (soundAction_replying hP hf)

theorem soundBody_withTarget {α : Type} {target : Option α} {f : α → Except Status Action}
    (h : ∀ x, SoundBody P p (f x)) : SoundBody P p (withTarget target f) := by
  cases target with
  | none => exact soundBody_error _
  | some x => exact h x

theorem soundBody_withSelector {q : Request} {selector : Nat} {b : Except Status Action} (h : SoundBody P p b) :
    SoundBody P p (withSelector q selector b) := by
  unfold withSelector
  split
  · exact h
  · exact soundBody_error _

theorem soundBody_withPart (part : Option (State → List Byte)) : SoundBody P p (withPart part) := by
  cases part with
  | none => exact soundBody_error _
  | some octets => exact soundBody_reading octets

end body

/-- The agent's part is none of a COMMIT's event, nor of the claims that follow it. -/
theorem agentView_claimed (p : PortNo) (q : Request) (scope : CommitScope) (record : Option CommitRecord) (s : State) :
    agentView (Holding.claimed p q scope record s) = agentView s := by
  have himages : agentView (Holding.takeImages p q scope s) = agentView (Holding.openCommit p q scope s) :=
    (congrArg agentView Holding.sansImages_takeImages :)
  have hports : agentView (Holding.openCommit p q scope s) = agentView s := by
    unfold Holding.openCommit
    split
    · exact agentView_mapPorts (f := fun r => { r with record := r.resulting, staged := none }) s fun _ => rfl
    · rfl
  have hdevice (quiet : Bool) (t : State) : agentView (commitDevice quiet t) = agentView t := by
    unfold commitDevice
    split
    · rfl
    · split <;> rfl
  have hevent : agentView (Holding.commitEvent p q scope s) = agentView s := by
    unfold Holding.commitEvent
    split
    · rw [hdevice, himages, hports]
    · rw [himages, hports]
  exact (congrArg View.agent (view_of_sansBinding (Holding.claimed_sansBinding record)) :).trans hevent

theorem reports_claimed (p : PortNo) (q : Request) (scope : CommitScope) (record : Option CommitRecord) (s : State) :
    (Holding.claimed p q scope record s).reports = s.reports := by
  have himages : (Holding.takeImages p q scope s).reports = s.reports :=
    (congrArg State.reports Holding.sansImages_takeImages :)
  have hdevice (quiet : Bool) (t : State) : (commitDevice quiet t).reports = t.reports := by
    unfold commitDevice
    split
    · rfl
    · split <;> rfl
  refine (reports_of_sansBinding (Holding.claimed_sansBinding record)).trans ?_
  unfold Holding.commitEvent
  dsimp only
  split
  · rw [hdevice, himages]
  · exact himages

namespace AgentInvariant

variable {P : State → Prop} (h : AgentInvariant P) {s : State}
include h

/-- A COMMIT is refused with nothing changed, is complete at once, or leaves its record open and bars its port. -/
theorem soundAction_takeCommit (p : PortNo) (q : Request) (scope : CommitScope) :
    SoundAction P p (takeCommit p q scope) := by
  rintro s e he rfl hs
  by_cases hrecord : s.record = none
  · by_cases hfull : scope.ports = true → s.keepsFull = true
    · rw [Holding.takeCommit_taken hrecord hfull]
      cases (Holding.eventRecord e.port q scope s).complete with
      | true =>
        have hagent := agentView_claimed e.port q scope none s
        exact ⟨(congrArg AgentView.inExecution hagent :).trans he, h.completed e.port q scope hrecord hs⟩
      | false => exact h.leftOpen q scope hrecord he hs
    · have hrefused : (scope.ports && !s.keepsFull) = true := by simpa using hfull
      simp only [takeCommit, hrecord, hrefused, Option.isSome_none, Bool.false_eq_true, if_false, if_true]
      exact ⟨he, hs⟩
  · simp only [takeCommit, Option.isSome_iff_ne_none.2 hrecord, if_true]
    exact ⟨he, hs⟩

theorem keeps_refuseRequest (p : PortNo) (q : Request) (status : Status) {e : Execution} (he : s.inExecution = some e)
    (hp : e.port = p) (hs : P s) : P (refuseRequest p q status s) := by
  subst hp
  unfold refuseRequest
  split
  · exact h.responded q _ ((raise_inExecution _ _).trans he) (h.raised _ hs)
  · exact h.responded q _ he hs

theorem keeps_conclude {p : PortNo} (q : Request) {act : Action} (hact : SoundAction P p act) {e : Execution}
    (he : s.inExecution = some e) (hp : e.port = p) (hs : P s) : P (conclude p q act s) := by
  have hclaimed := hact s e he hp hs
  unfold conclude
  split
  · next heq =>
    rw [heq] at hclaimed
    exact hp ▸ h.responded q _ hclaimed.1 hclaimed.2
  · next heq =>
    rw [heq] at hclaimed
    exact hclaimed

theorem keeps_claimOnly {p : PortNo} {act : Action} (hact : SoundAction P p act) {e : Execution}
    (he : s.inExecution = some e) (hp : e.port = p) (hs : P s) : P (claimOnly p act s) := by
  have hclaimed := hact s e he hp hs
  unfold claimOnly
  split
  · next heq =>
    rw [heq] at hclaimed
    exact h.answered _ hclaimed.2
  · next heq =>
    rw [heq] at hclaimed
    exact hclaimed

theorem keeps_startExecution {p : PortNo} (q : Request) {act : Action} (hact : SoundAction P p act) {e : Execution}
    (he : s.inExecution = some e) (hp : e.port = p) (hs : P s) : P (startExecution p q act s) := by
  have hd : P s.dropTurn := h.keeps_dropTurn hs
  unfold startExecution
  dsimp only [takeTurn_eq]
  split
  · split
    · exact h.keeps_claimOnly hact (s := s.dropTurn) he hp hd
    · exact hd
  · exact h.keeps_conclude q hact (s := s.dropTurn) he hp hd

theorem keeps_takeAndCheck {p : PortNo} {q : Request} {body : Body} (hnext : s.nextRequest = some (p, q))
    (hbody : ∀ p q, SoundBody P p (body p q)) (hs : P s) : P (takeAndCheck p q body s) := by
  have htaken : P (takeRequest p q s) := h.taken hnext hs
  unfold takeAndCheck
  dsimp only
  split
  · exact h.keeps_refuseRequest p q _ takeRequest_inExecution rfl htaken
  · split
    · exact h.keeps_refuseRequest p q _ takeRequest_inExecution rfl htaken
    · next hact => exact h.keeps_startExecution q (hbody p q _ hact) takeRequest_inExecution rfl htaken

theorem keeps_goOn {e : Execution} {body : Body} (he : s.inExecution = some e)
    (hbody : ∀ p q, SoundBody P p (body p q)) (hs : P s) : P (goOn e body s) := by
  unfold goOn
  split
  · exact h.responded _ _ he hs
  · split
    · exact h.responded _ _ he hs
    · next hact => exact h.keeps_claimOnly (hbody _ _ _ hact) he rfl hs

theorem keeps_serve (row : Request → Bool) {body : Body} (hbody : ∀ p q, SoundBody P p (body p q)) (hs : P s) :
    P (serve row body s) := by
  unfold serve
  split
  · next he =>
    split
    · exact h.keeps_goOn he hbody hs
    · exact hs
  · split
    · next hnext =>
      split
      · exact h.keeps_takeAndCheck hnext hbody hs
      · exact hs
    · exact hs

theorem soundBody_bodyDiscard (p : PortNo) (q : Request) : SoundBody P p (bodyDiscard p q) := by
  unfold bodyDiscard
  split
  · exact soundBody_answering h.toClaimInvariant fun hQ => hQ.keeps_discard _
  · exact soundBody_error _

theorem soundBody_bodyCommit (p : PortNo) (q : Request) : SoundBody P p (bodyCommit p q) := by
  unfold bodyCommit
  split
  · exact soundBody_ok (h.soundAction_takeCommit p q _)
  · exact soundBody_error _

/-! #### The edge ports -/

theorem keeps_edgeSlot (p : PortNo) (hs : P s) : P (edgeSlot p s) := by
  unfold edgeSlot
  dsimp only
  split
  · split
    · next hresponses => exact h.keeps_modPort p (h.responseSent hresponses hs)
    · split
      · split
        · next hreports => exact h.keeps_modPort p (h.reportSent hreports hs)
        · exact h.keeps_modPort p hs
      · exact h.keeps_modPort p hs
  · exact hs

theorem keeps_edgeLinkDown (p : PortNo) (hs : P s) : P (edgeLinkDown p s) := by
  unfold edgeLinkDown
  dsimp only
  split
  · refine h.frame (h.voided p (h.raised _ (h.emptied p hs))) (view_mapStreams _ fun r => ?_)
    split <;> rfl
  · exact hs

theorem keeps_failedEdgeCell (p : PortNo) (hs : P s) : P (failedEdgeCell p s) := by
  unfold failedEdgeCell
  dsimp only
  split
  · have hraised := h.raised (.port p .badCheck) (h.keeps_modPort p
      (f := fun r => { r with checkFailures := r.checkFailures + 1, failures := r.failures + 1 }) hs)
    split
    · exact h.keeps_edgeLinkDown p hraised
    · exact hraised
  · exact h.keeps_modPort p hs

/-! #### Every command -/

omit h in
theorem keeps_atStroke {f : State → State} {t : State} (hf : ∀ {u}, P u → P (f u)) :
    atStroke f s = .next t → P s → P t := Arbiter.StepInvariant.keeps_atStroke hf

theorem keeps_running {f : State → State} {t : State} (hf : ∀ {u}, P u → P (f u)) :
    running f s = .next t → P s → P t := keeps_atStroke fun hu => hf (h.keeps_countFirst hu)

theorem keeps_running_serve {row : Request → Bool} {body : Body} {t : State}
    (hbody : ∀ p q, SoundBody P p (body p q)) : running (serve row body) s = .next t → P s → P t :=
  h.keeps_running (h.keeps_serve row hbody)

/-- A management command on a target, whose claims keep every invariant of the claims. -/
theorem keeps_running_target {α : Type} {row : Request → Bool} {target : Request → Option α}
    {f : Request → α → State → Status × State} {t : State}
    (hf : ∀ q x {Q : State → Prop}, ClaimInvariant Q → ∀ {s}, Q s → Q (f q x s).2) :
    running (serve row fun _ q => withTarget (target q) fun x => answering (f q x)) s = .next t → P s → P t :=
  h.keeps_running_serve fun _ q => soundBody_withTarget fun x => soundBody_answering h.toClaimInvariant (hf q x)

/-- The same with a selector. -/
theorem keeps_running_selected {α : Type} {row : Request → Bool} {target : Request → Option α} {selector : Nat}
    {f : Request → α → State → Status × State} {t : State}
    (hf : ∀ q x {Q : State → Prop}, ClaimInvariant Q → ∀ {s}, Q s → Q (f q x s).2) :
    running (serve row fun _ q => withTarget (target q) fun x => withSelector q selector (answering (f q x))) s
      = .next t → P s → P t :=
  h.keeps_running_serve fun _ q => soundBody_withTarget fun x => soundBody_withSelector
    (soundBody_answering h.toClaimInvariant (hf q x))

omit h in
/-- TIMER-CONTROL stop leaves what is staged (R30). -/
theorem staging_timerStop (r : StreamRec) : staging (timerStop r) = staging r := by
  unfold timerStop
  split <;> rfl

/-- Every command keeps the invariant. -/
theorem keeps_exec (c : Instr) {t : State} : exec c s = .next t → P s → P t := by
  cases c with
  | powerOnReset => rintro ⟨⟩ _; exact h.reset false s
  | resetPinAsserted => rintro ⟨⟩ _; exact h.reset true s
  | stroke => exact keeps_atStroke h.keeps_stroke
  | answerDeadlineExpiry l => exact keeps_atStroke (h.keeps_answerExpiry l)
  | holdDeadlineExpiry l => exact keeps_atStroke (h.keeps_holdExpiry l)
  | settleDeadlineExpiry i => exact keeps_atStroke (h.keeps_settleExpiry i)
  | commitDeadlineExpiry => exact keeps_atStroke h.keeps_commitExpiry
  | budgetEntryAgeOut => exact keeps_atStroke h.keeps_budgetAgeOut
  | spacingExpiry => exact keeps_atStroke h.keeps_spacingExpiry
  | arbiterPass => exact h.keeps_running h.keeps_pass
  | laneSlot l => exact h.keeps_running (h.keeps_laneSlot l)
  | drainCompletion i => exact h.keeps_running (h.keeps_judgeDrain i)
  | edgeSlot p => exact h.keeps_running (h.keeps_edgeSlot p)
  | edgeLinkUp p => exact h.keeps_running (h.keeps_edgeLinkUp p)
  | edgeLinkDown p => exact h.keeps_running (h.keeps_edgeLinkDown p)
  | laneAligned l => exact h.keeps_running (h.keeps_alignLane l)
  | laneAlignmentLost l => exact h.keeps_running (h.keeps_loseAlignment l)
  | trafficCellArrival p c => exact h.keeps_running (h.keeps_trafficCell p c)
  | requestCellArrival p q => exact h.keeps_running (h.keeps_onEdgeCell p (h.received p q))
  | edgeFillCell p => exact h.keeps_running (h.keeps_onEdgeCell p id)
  | edgeBadKindCell p kind => exact h.keeps_running (h.keeps_onEdgeCell p (h.keeps_badKind p))
  | edgeBadCheckCell p => exact h.keeps_running (h.keeps_failedEdgeCell p)
  | bindAckAccept l tag =>
    exact h.keeps_running (h.keeps_onTrunkCell l (h.keeps_takeAnswer .bind l tag (h.keeps_bindAcceptMatched l)))
  | bindAckRefuse l tag =>
    exact h.keeps_running (h.keeps_onTrunkCell l (h.keeps_takeAnswer .bind l tag (h.keeps_bindRefuseMatched l)))
  | bindAckUnknownCode l tag code => exact h.keeps_running (h.keeps_onTrunkCell l (h.keeps_takeUnknownAnswer l tag))
  | releaseAck l tag =>
    exact h.keeps_running (h.keeps_onTrunkCell l (h.keeps_takeAnswer .release l tag (h.keeps_releaseAckMatched l)))
  | resetAck l tag =>
    exact h.keeps_running (h.keeps_onTrunkCell l (h.keeps_takeAnswer .laneReset l tag (h.keeps_resetAckMatched l)))
  | pause l tag => exact h.keeps_running (h.keeps_onTrunkCell l (h.keeps_takePause true l tag))
  | resume l tag => exact h.keeps_running (h.keeps_onTrunkCell l (h.keeps_takePause false l tag))
  | trunkOtherKindCell l kind => exact h.keeps_running (h.keeps_onTrunkCell l (h.raised _))
  | trunkFillCell l => exact h.keeps_running (h.keeps_onTrunkCell l id)
  | trunkBadCheckCell l => exact h.keeps_running (h.keeps_failedTrunkCell l)
  | disablePendingApplied l => exact h.keeps_running (h.keeps_applyPendingDisable l)
  | streamImageApplication i => exact h.keeps_running (h.keeps_imageApplication i)
  | deviceApplication => exact h.keeps_running h.keeps_judgeDevicePart
  | commitResponse => exact h.keeps_running h.commitAnswerTaken
  | readDevice => exact h.keeps_running_serve fun _ _ => soundBody_withPart _
  | readPort => exact h.keeps_running_serve fun _ _ => soundBody_withTarget fun _ => soundBody_withPart _
  | readLane => exact h.keeps_running_serve fun _ _ => soundBody_withTarget fun _ => soundBody_withPart _
  | readStream => exact h.keeps_running_serve fun _ _ => soundBody_withTarget fun _ => soundBody_withPart _
  | readNotices => exact h.keeps_running_serve fun _ _ => soundBody_withTarget fun _ => soundBody_reading _
  | stageDevice =>
    exact h.keeps_running_serve fun _ _ => soundBody_answering h.toClaimInvariant fun hQ => hQ.keeps_stageDevice _
  | stagePort => exact h.keeps_running_target fun _ p _ hQ => hQ.keeps_stagePort p _
  | stageStream => exact h.keeps_running_target fun _ i _ hQ => hQ.keeps_stageStream i _
  | discard => exact h.keeps_running_serve h.soundBody_bodyDiscard
  | commit => exact h.keeps_running_serve h.soundBody_bodyCommit
  | openStream => exact h.keeps_running_target fun _ i _ hQ => hQ.keeps_openStream i
  | closeStream => exact h.keeps_running_selected fun _ i _ hQ => hQ.keeps_closePlain i
  | closeStreamDiscard => exact h.keeps_running_selected fun _ i _ hQ => hQ.keeps_discardClose i
  | clearHold => exact h.keeps_running_target fun _ i _ hQ => hQ.keeps_clearHold i
  | timerControlRun => exact h.keeps_running_selected fun _ i _ hQ _ hs => hQ.keeps_timerControl i hs
  | timerControlStop =>
    exact h.keeps_running_selected fun _ i _ hQ _ hs => hQ.keeps_timerControl i hs staging_timerStop
  | timerControlPreset => exact h.keeps_running_selected fun _ i _ hQ => hQ.keeps_presetTimer _ i
  | ackNotice => exact h.keeps_running_target fun _ n _ hQ => hQ.keeps_ackNotice n _
  | laneControlEnable => exact h.keeps_running_selected fun _ l _ hQ => hQ.keeps_laneEnable l
  | laneControlDisable => exact h.keeps_running_selected fun _ l _ hQ => hQ.keeps_disableLane l
  | laneControlRetire => exact h.keeps_running_selected fun _ l _ hQ => hQ.keeps_laneRetire l
  | laneControlRecover => exact h.keeps_running_selected fun _ l _ hQ => hQ.keeps_laneRecover l
  | restart =>
    exact h.keeps_running_serve fun _ _ => soundBody_ok (soundAction_replying h.toClaimInvariant
      fun hQ => hQ.keeps_duringLaunches _ hQ.keeps_deviceRestart)
  | unknownCommandCode => exact h.keeps_running_serve fun _ _ => soundBody_error _

/-- Every step keeps the invariant. -/
theorem keeps_step {t : State} (hstep : step s = .next t) (hs : P s) : P t := by
  unfold step at hstep
  split at hstep
  · cases hstep; exact hs
  · exact h.keeps_exec _ hstep (h.frame hs rfl)

end AgentInvariant

/-! ### The report queue (R133 to R135) -/

/-- The causes of the reports that wait. -/
def points (s : State) : List CausePoint := s.reports.map fun r => r.point

theorem ordinaryQueued_eq (s : State) :
    s.ordinaryQueued = (points s).countP fun pt => pt ≠ reportLostPoint := by
  rw [points, List.countP_map, List.countP_eq_length_filter]
  rfl

theorem reportInv_iff (s : State) :
    ReportInv s ↔
      (points s).countP (fun pt => pt ≠ reportLostPoint) ≤ Config.ordinaryReports
        ∧ (points s).countP (fun pt => pt = reportLostPoint) ≤ 1 := by
  have hlost : (s.reports.filter fun r => r.point = reportLostPoint).length =
      (points s).countP fun pt => pt = reportLostPoint := by
    rw [points, List.countP_map, List.countP_eq_length_filter]
    rfl
  rw [ReportInv, ordinaryQueued_eq, hlost]

section reports
variable {s t : State}

/-- A report queue that has lost or changed reports, their causes apart. -/
theorem reportInv_of_sublist (hsub : (points t).Sublist (points s)) (hs : ReportInv s) : ReportInv t := by
  obtain ⟨hordinary, hlost⟩ := (reportInv_iff s).1 hs
  exact (reportInv_iff t).2 ⟨(hsub.countP_le).trans hordinary, (hsub.countP_le).trans hlost⟩

theorem reportInv_of_reports (h : t.reports = s.reports) (hs : ReportInv s) : ReportInv t :=
  reportInv_of_sublist (by rw [points, points, h]) hs

theorem points_countAgain (pt : CausePoint) (e : NoticeEntry) (s : State) : points (countAgain pt e s) = points s := by
  have hpoint (n : Nat) (r : Report) : (Report.follow pt n r).point = r.point := by
    unfold Report.follow
    split <;> rfl
  simp only [points, countAgain, setEntry_reports, List.map_map, Function.comp_def, hpoint]

theorem points_removeNotice (pt : CausePoint) (s : State) : points (removeNotice pt s) = points s := by
  have hpoint (r : Report) : (Report.unlink pt r).point = r.point := by
    unfold Report.unlink
    split <;> rfl
  simp only [points, removeNotice, setEntry_reports, List.map_map, Function.comp_def, hpoint]

theorem points_createEntry (pt : CausePoint) (s : State) : points (createEntry pt s) = points s := by
  rw [points, createEntry, setEntry_reports, points]

theorem points_queueReport (pt : CausePoint) (s : State) : points (queueReport pt s) = points s ++ [pt] := by
  simp only [points, queueReport, List.map_append, List.map_cons, List.map_nil]

/-- REPORT_LOST is reported where no report of it waits (R134). -/
theorem reportInv_raiseReportLost (hs : ReportInv s) : ReportInv (raiseReportLost s) := by
  unfold raiseReportLost
  split
  · exact reportInv_of_sublist (by rw [points_countAgain]) hs
  · dsimp only
    have hcreated : ReportInv (createEntry reportLostPoint s) :=
      reportInv_of_sublist (by rw [points_createEntry]) hs
    split
    · next henabled =>
      have hnone : (points (createEntry reportLostPoint s)).countP (fun pt => pt = reportLostPoint) = 0 := by
        simp only [Bool.and_eq_true, List.all_eq_true, decide_eq_true_eq] at henabled
        simpa [points, List.countP_eq_zero] using henabled.2
      obtain ⟨hordinary, -⟩ := (reportInv_iff _).1 hcreated
      rw [reportInv_iff, points_queueReport, List.countP_append, List.countP_append, hnone]
      exact ⟨by simpa using hordinary, by simp⟩
    · exact hcreated

/-- An ordinary cause is reported where fewer than 31 ordinary reports wait (R133). -/
theorem reportInv_raiseOrdinary {pt : CausePoint} (hpt : pt ≠ reportLostPoint) (hs : ReportInv s) :
    ReportInv (raiseOrdinary pt s) := by
  unfold raiseOrdinary
  split
  · exact reportInv_of_sublist (by rw [points_countAgain]) hs
  · dsimp only
    have hcreated : ReportInv (createEntry pt s) := reportInv_of_sublist (by rw [points_createEntry]) hs
    split
    · split
      · next hroom =>
        rw [ordinaryQueued_eq] at hroom
        obtain ⟨-, hlost⟩ := (reportInv_iff _).1 hcreated
        rw [reportInv_iff, points_queueReport, List.countP_append, List.countP_append]
        exact ⟨by simpa [hpt] using Nat.succ_le_of_lt hroom, by simpa [hpt] using hlost⟩
      · exact reportInv_raiseReportLost hcreated
    · exact hcreated

theorem reportInv_raise (pt : CausePoint) (hs : ReportInv s) : ReportInv (raise pt s) := by
  unfold raise
  split
  · exact reportInv_raiseReportLost hs
  · next hpt => exact reportInv_raiseOrdinary hpt hs

end reports

/-! ### The management queues (R142, R145, R148) -/

/-- A port's queues lie within their capacities (R142). -/
def Fits (r : PortRec) : Prop :=
  r.requests.length ≤ Config.requestCapacity ∧ r.placesUsed ≤ Config.responsePlaces

/-- The port of the request in execution (R145). -/
def executing (s : State) : Option PortNo := s.inExecution.map fun e => e.port

theorem queueInv_iff (s : State) :
    QueueInv s ↔
      (∀ p, Fits (s.port p)) ∧ (∀ p, s.barred = some p → (s.port p).reserved = true)
        ∧ ∀ p, executing s = some p → (s.port p).reserved = true ∧ s.barred ≠ some p := by
  refine and_congr Iff.rfl (and_congr Iff.rfl ⟨?_, fun h e he => h e.port (by simp [executing, he])⟩)
  rintro h p hp
  obtain ⟨e, he, rfl⟩ := Option.map_eq_some_iff.1 hp
  exact h e he

section queues
variable {s t : State} {p : PortNo}

theorem fits_of_queues {r r' : PortRec} (h : queues r' = queues r) (hr : Fits r) : Fits r' := by
  simp only [queues, Prod.mk.injEq] at h
  obtain ⟨hrequests, hresponses, hreserved⟩ := h
  rwa [Fits, PortRec.placesUsed, hrequests, hresponses, hreserved]

/-- What the agent's part alone decides, with the request in execution counting by its port. -/
theorem queueInv_of_queues (hq : ∀ p, queues (t.port p) = queues (s.port p)) (hb : t.barred = s.barred)
    (he : executing t = executing s) (hs : QueueInv s) : QueueInv t := by
  obtain ⟨hfits, hbarred, hexecuting⟩ := (queueInv_iff s).1 hs
  have hreserved (p : PortNo) : (t.port p).reserved = (s.port p).reserved := congrArg (fun x => x.2.2) (hq p)
  simp only [queueInv_iff, hb, he, hreserved]
  exact ⟨fun p => fits_of_queues (hq p) (hfits p), hbarred, hexecuting⟩

theorem queueInv_of_agentView (h : agentView t = agentView s) (hs : QueueInv s) : QueueInv t :=
  queueInv_of_queues (queues_of_view h) (congrArg AgentView.barred h)
    (congrArg (fun v : AgentView => v.inExecution.map fun e => e.port) h :) hs

/-- A change of one port's queues within their capacities, the reserved place kept. -/
theorem queueInv_modPort {f : PortRec → PortRec} (hfits : Fits (s.port p) → Fits (f (s.port p)))
    (hreserved : ∀ r, (f r).reserved = r.reserved) (hs : QueueInv s) : QueueInv (s.modPort p f) := by
  obtain ⟨hall, hbarred, hexecuting⟩ := (queueInv_iff s).1 hs
  have hkept (x : PortNo) : ((s.modPort p f).port x).reserved = (s.port x).reserved :=
    port_modPort_keeps s (·.reserved) hreserved p x
  refine (queueInv_iff _).2 ⟨fun x => ?_, fun x hx => (hkept x).trans (hbarred x hx), fun x hx => ?_⟩
  · rw [port_modPort]
    split
    · exact hfits (hall p)
    · exact hall x
  · rw [hkept]
    exact hexecuting x hx

/-- A response is settled in its reserved place, of which the port is owed no more (R147, R148). -/
theorem queueInv_settled {void : Bool} {a : Response} (hp : (s.port p).reserved = true)
    (hport : ∀ x, t.port x = (s.modPort p (settled void a)).port x)
    (hb : ∀ x, t.barred = some x → s.barred = some x ∧ x ≠ p)
    (he : ∀ x, executing t = some x → executing s = some x ∧ x ≠ p) (hs : QueueInv s) : QueueInv t := by
  obtain ⟨hfits, hbarred, hexecuting⟩ := (queueInv_iff s).1 hs
  have hother {x : PortNo} (hx : x ≠ p) : t.port x = s.port x :=
    (hport x).trans (port_modPort_ne s (Ne.symm hx) _)
  refine (queueInv_iff t).2 ⟨fun x => ?_, fun x hx => ?_, fun x hx => ?_⟩
  · by_cases hxp : x = p
    · subst hxp
      obtain ⟨hrequests, hplaces⟩ := hfits x
      rw [hport, port_modPort_same]
      refine ⟨hrequests, le_trans ?_ hplaces⟩
      cases void <;> simp [settled, PortRec.placesUsed, hp]
    · rw [hother hxp]
      exact hfits x
  · obtain ⟨hx, hxp⟩ := hb x hx
    rw [hother hxp]
    exact hbarred x hx
  · obtain ⟨hx, hxp⟩ := he x hx
    rw [hother hxp]
    exact ⟨(hexecuting x hx).1, fun h => (hexecuting x hx).2 (hb x h).1⟩

/-- A port that the agent may take a request from has one waiting, a free response place, and no bar (R145). -/
theorem eligible_of_nextRequest {q : Request} (h : s.nextRequest = some (p, q)) : s.eligible p = true := by
  unfold State.nextRequest at h
  split at h
  · contradiction
  · split at h
    · next x hx =>
      obtain ⟨_, _, hpair⟩ := Option.map_eq_some_iff.1 h
      cases hpair
      exact List.find?_some hx
    · contradiction

theorem queueInv_takeRequest {q : Request} (hnext : s.nextRequest = some (p, q)) (hs : QueueInv s) :
    QueueInv (takeRequest p q s) := by
  obtain ⟨hfits, hbarred, -⟩ := (queueInv_iff s).1 hs
  have heligible := eligible_of_nextRequest hnext
  simp only [State.eligible, PortRec.responsesFull, Bool.and_eq_true, Bool.not_eq_true', decide_eq_false_iff_not,
    bne_iff_ne] at heligible
  obtain ⟨⟨-, hroom⟩, hfree⟩ := heligible
  have hport (x : PortNo) : (takeRequest p q s).port x =
      if p = x then { s.port p with requests := (s.port p).requests.tail, reserved := true } else s.port x :=
    port_modPort s p x fun r => { r with requests := r.requests.tail, reserved := true }
  refine (queueInv_iff _).2 ⟨fun x => ?_, fun x hx => ?_, ?_⟩
  · rw [hport]
    split
    · refine ⟨?_, ?_⟩
      · rw [List.length_tail]
        exact (Nat.sub_le _ _).trans (hfits p).1
      · simp only [PortRec.placesUsed, Bool.toNat_true] at hroom ⊢
        omega
    · exact hfits x
  · rw [hport]
    split
    · rfl
    · exact hbarred x hx
  · rintro x ⟨⟩
    rw [hport, if_pos rfl]
    exact ⟨rfl, hfree⟩


/-- The close of a record settles its response on the barred port (R148). -/
theorem queueInv_takeCommitAnswer (hs : QueueInv s) : QueueInv (takeCommitAnswer s) := by
  obtain ⟨-, hbarred, hexecuting⟩ := (queueInv_iff s).1 hs
  cases ha : s.commitAnswer with
  | none => rw [takeCommitAnswer_idle (.inl ha)]; exact hs
  | some a =>
    cases hb : s.barred with
    | none => rw [takeCommitAnswer_idle (.inr hb)]; exact hs
    | some p =>
      rw [takeCommitAnswer_owed ha hb]
      exact queueInv_settled (hbarred p hb) (fun _ => rfl) nofun
        (fun x hx => ⟨hx, fun h => (hexecuting x hx).2 (h ▸ hb)⟩) hs

/-- The request in execution is answered, or its answer discarded (R147). -/
theorem queueInv_respond {e : Execution} (q : Request) (a : Reply) (he : s.inExecution = some e) (hs : QueueInv s) :
    QueueInv (respond e.port q a s) := by
  obtain ⟨-, -, hexecuting⟩ := (queueInv_iff s).1 hs
  obtain ⟨hreserved, hbarred⟩ := hexecuting e.port (by simp [executing, he])
  have hrespond : respond e.port q a s =
      { s.modPort e.port (settled e.void ⟨q.tag, a.status, responsePayload q.code (selectorEcho q) a.result⟩) with
        inExecution := none } := by
    simp only [respond, he, settle_eq]
  rw [hrespond]
  exact queueInv_settled hreserved (fun _ => rfl) (fun x hx => ⟨hx, fun h => hbarred (h ▸ hx)⟩) nofun hs

/-- The bar takes the place of the execution (R148). -/
theorem queueInv_barPort {e : Execution} (he : s.inExecution = some e) (hs : QueueInv s) :
    QueueInv (barPort e.port s) := by
  obtain ⟨hfits, -, hexecuting⟩ := (queueInv_iff s).1 hs
  refine (queueInv_iff _).2 ⟨hfits, ?_, nofun⟩
  rintro p ⟨⟩
  exact (hexecuting e.port (by simp [executing, he])).1

/-- A request joins a queue with room for it, or a BUSY response one with a free place (R143). -/
theorem queueInv_requestArrival (p : PortNo) (q : Request) (hs : QueueInv s) : QueueInv (requestArrival p q s) := by
  unfold requestArrival
  dsimp only
  split
  · next hroom =>
    refine queueInv_modPort (fun hfits => ⟨?_, hfits.2⟩) (fun _ => rfl) hs
    simpa using Nat.succ_le_of_lt hroom
  · split
    · next hroom =>
      simp only [PortRec.responsesFull, Bool.not_eq_true', decide_eq_false_iff_not] at hroom
      refine queueInv_modPort (fun hfits => ⟨hfits.1, ?_⟩) (fun _ => rfl) hs
      simp only [PortRec.placesUsed, List.length_append, List.length_singleton] at hroom ⊢
      omega
    · exact queueInv_of_agentView (agentView_of_sansNotices (raise_sansNotices s _)) hs

end queues

/-! ### The open record and its bar (R118, R120, R148) -/

section record
variable {s t : State}

/-- A change of streams and open record under which a stream that is flagged has an image, and one that is pending in
the record is flagged. -/
theorem commitInv_of_record (hs : CommitInv s) (f : CommitRecord → CommitRecord) (hport : ∀ c, (f c).port = c.port)
    (hanswer : t.commitAnswer = s.commitAnswer) (hbarred : t.barred = s.barred) (hvoid : t.owedVoid = s.owedVoid)
    (hrecord : t.record = s.record.map f)
    (himage : ∀ i, (t.stream i).commitPending = true → (t.stream i).staged.isSome = true)
    (hpending : ∀ c, s.record = some c → ∀ i ∈ (f c).streams, (t.stream i).commitPending = true) : CommitInv t := by
  obtain ⟨hnone, hbar, howed, -, -⟩ := hs
  refine ⟨hanswer.trans hnone, ?_, ?_, himage, ?_⟩
  · simp only [hbarred, hbar, hrecord, Option.map_map, Function.comp_def, hport]
  · rw [hvoid, hbarred]
    exact howed
  · intro c hc
    obtain ⟨c', hc', rfl⟩ := Option.map_eq_some_iff.1 (hrecord.symm.trans hc)
    exact hpending c' hc'

/-- What the agent's part, the staging and the record alone decide. -/
theorem commitInv_of_staging (hanswer : t.commitAnswer = s.commitAnswer) (hbarred : t.barred = s.barred)
    (hvoid : t.owedVoid = s.owedVoid) (hrecord : t.record = s.record)
    (hstaging : ∀ i, staging (t.stream i) = staging (s.stream i)) (hs : CommitInv s) : CommitInv t := by
  obtain ⟨-, -, -, himage, hpending⟩ := id hs
  have hstaged (i : StreamNo) : (t.stream i).staged = (s.stream i).staged := congrArg Prod.fst (hstaging i)
  have hflag (i : StreamNo) : (t.stream i).commitPending = (s.stream i).commitPending := congrArg Prod.snd (hstaging i)
  refine commitInv_of_record hs id (fun _ => rfl) hanswer hbarred hvoid (hrecord.trans Option.map_id_apply.symm) ?_ ?_
  · simpa only [hstaged, hflag] using himage
  · simpa only [hflag, id_eq] using hpending

theorem commitInv_of_view (hv : view t = view s) (hs : CommitInv s) : CommitInv t :=
  commitInv_of_staging (congrArg (fun v : View => v.agent.commitAnswer) hv :)
    (congrArg (fun v : View => v.agent.barred) hv :) (congrArg (fun v : View => v.agent.owedVoid) hv :)
    (congrArg View.record hv) (staging_of_view hv) hs

theorem commitInv_of_sansNotices (h : t.sansNotices = s.sansNotices) (hs : CommitInv s) : CommitInv t :=
  have hv := view_of_sansNotices h
  commitInv_of_staging (congrArg (fun v : View => v.agent.commitAnswer) hv :)
    (congrArg (fun v : View => v.agent.barred) hv :) (congrArg (fun v : View => v.agent.owedVoid) hv :)
    (congrArg View.record hv :) (Table.read_eq_of_mapAll_eq (congrArg View.staging hv :)) hs

/-- A record that closes leaves no bar and nothing owed (R148). -/
theorem commitInv_closeRecord {c : CommitRecord} (status : Status) (result : List Byte) (hc : s.record = some c)
    (hs : CommitInv s) : CommitInv (closeRecord c status result s) := by
  obtain ⟨-, hbar, -, himage, -⟩ := hs
  rw [closeRecord_barred c status result (hbar.trans (congrArg _ hc))]
  exact ⟨rfl, rfl, nofun, himage, nofun⟩

/-- A stream whose image is applied is flagged no more, and leaves the pending set (R121). -/
theorem commitInv_applyRecord (i : StreamNo) (img : StreamImage) (hs : CommitInv s) :
    CommitInv (applyRecord i img s) := by
  obtain ⟨-, -, -, himage, hpending⟩ := id hs
  refine commitInv_of_record hs (fun c => { c with streams := c.streams.filter (· != i) }) (fun _ => rfl)
    (removeEntry_commitAnswer _ i) (removeEntry_barred _ i) (removeEntry_owedVoid _ i) (removeEntry_record _ i)
    (fun j hj => ?_) (fun c hc j hj => ?_)
  · rw [Holding.stream_applyRecord] at hj ⊢
    split at hj
    · contradiction
    · next hij => rw [if_neg hij]; exact himage j hj
  · obtain ⟨hmem, hne⟩ := List.mem_filter.1 hj
    rw [Holding.stream_applyRecord, if_neg (Ne.symm (by simpa using hne))]
    exact hpending c hc j hmem

theorem commitInv_modRecord {f : CommitRecord → CommitRecord}
    (hf : ∀ c, (f c).port = c.port ∧ ∀ i ∈ (f c).streams, i ∈ c.streams) (hs : CommitInv s) :
    CommitInv (modRecord f s) := by
  obtain ⟨-, -, -, himage, hpending⟩ := id hs
  exact commitInv_of_record hs f (fun c => (hf c).1) rfl rfl rfl rfl himage
    fun c hc i hi => hpending c hc i ((hf c).2 i hi)

theorem commitInv_stage (i : StreamNo) (m : StreamImage) (hs : CommitInv s) :
    CommitInv (s.modStream i fun r => { r with staged := some m }) := by
  obtain ⟨-, -, -, himage, hpending⟩ := id hs
  have hflag (j : StreamNo) : ((s.modStream i fun r => { r with staged := some m }).stream j).commitPending =
      (s.stream j).commitPending :=
    stream_modStream_keeps s (·.commitPending) (f := fun r => { r with staged := some m }) (fun _ => rfl) i j
  refine commitInv_of_record hs id (fun _ => rfl) rfl rfl rfl Option.map_id_apply.symm (fun j hj => ?_) ?_
  · rw [hflag] at hj
    rw [stream_modStream]
    split
    · rfl
    · exact himage j hj
  · simpa only [hflag, id_eq] using hpending

/-- A withdrawn stream was flagged if it was pending in the record; it is neither now (R117). -/
theorem commitInv_discardStream (i : StreamNo) (hs : CommitInv s) : CommitInv (discardStream i s) := by
  obtain ⟨-, -, -, himage, hpending⟩ := id hs
  have hstream (j : StreamNo) : (discardStream i s).stream j =
      if i = j then (s.stream i).discarded else s.stream j := stream_modStream s i j _
  refine commitInv_of_record hs (CommitRecord.withdraw fun j => (s.stream i).commitPending && j == i) (fun _ => rfl)
    rfl rfl rfl rfl (fun j hj => ?_) (fun c hc j hj => ?_)
  · rw [hstream] at hj ⊢
    split at hj
    · contradiction
    · next hij => rw [if_neg hij]; exact himage j hj
  · obtain ⟨hmem, hkept⟩ := List.mem_filter.1 hj
    have hflag := hpending c hc j hmem
    have hij : i ≠ j := by
      rintro rfl
      simp [hflag] at hkept
    rw [hstream, if_neg hij]
    exact hflag

theorem commitInv_withdrawAll (hs : CommitInv s) : CommitInv (withdrawAll s) := by
  obtain ⟨-, -, -, -, hpending⟩ := id hs
  have hstream (j : StreamNo) : (withdrawAll s).stream j = (s.stream j).discarded := Table.read_mapAll _ _ _
  refine commitInv_of_record hs (CommitRecord.withdraw fun j => (s.stream j).commitPending) (fun _ => rfl)
    rfl rfl rfl rfl (fun j hj => ?_) (fun c hc j hj => ?_)
  · rw [hstream] at hj
    contradiction
  · obtain ⟨hmem, hkept⟩ := List.mem_filter.1 hj
    simp [hpending c hc j hmem] at hkept

/-- A RESTART applies every flagged stream's image, so that none stays flagged (R129). -/
theorem commitInv_restartImages (hs : CommitInv s) : CommitInv (restartImages s) := by
  obtain ⟨-, -, -, himage, -⟩ := id hs
  refine commitInv_of_record hs (restartRecord s) (fun _ => rfl) rfl rfl rfl rfl (fun j hj => ?_) fun _ _ _ => nofun
  have hstream : (restartImages s).stream j = restartImage s.paceCount s.params.settleInterval (s.stream j) :=
    Table.read_mapAll _ _ _
  rw [hstream] at hj
  unfold restartImage at hj
  split at hj
  · contradiction
  · next hunapplied =>
    obtain ⟨m, hm⟩ := Option.isSome_iff_exists.1 (himage j hj)
    exact absurd hm (hunapplied m hj)

/-- A stream that a COMMIT flags has an image, and one that it applies is not flagged (R120, R121). -/
theorem staged_claimed (p : PortNo) (q : Request) (scope : CommitScope) (record : Option CommitRecord)
    (hs : CommitInv s) (i : StreamNo) (hi : ((Holding.claimed p q scope record s).stream i).commitPending = true) :
    ((Holding.claimed p q scope record s).stream i).staged.isSome = true := by
  obtain ⟨-, -, -, himage, -⟩ := hs
  have hevent := (Holding.keeps_claimed (p := p) (q := q) (scope := scope) (s := s) record).stream i
  have hstaged : ((Holding.claimed p q scope record s).stream i).staged = _ := (congrArg StreamRec.staged hevent :)
  have hflag : ((Holding.claimed p q scope record s).stream i).commitPending = _ :=
    (congrArg StreamRec.commitPending hevent :)
  rw [hflag] at hi
  rw [hstaged]
  simp only [StreamRec.sansBinding, Holding.stream_commitEvent, Holding.stream_takeImages] at hi ⊢
  split at hi
  · next hholder => rw [if_pos hholder]; exact (Holding.mem_holderStreams.1 hholder).2.1
  · next hholder =>
    rw [if_neg hholder]
    split at hi
    · next hfree =>
      obtain ⟨m, hm⟩ := Option.isSome_iff_exists.1 (Holding.mem_freeStreams.1 hfree).2.1
      rw [Holding.committed, hm] at hi
      contradiction
    · next hfree => rw [if_neg hfree]; exact himage i hi

/-- The streams of the record that a COMMIT leaves open are flagged (R120). -/
theorem commitPending_claimed {p : PortNo} {q : Request} {scope : CommitScope} (record : Option CommitRecord)
    {i : StreamNo} (hi : i ∈ Holding.holderStreams scope.streams s) :
    ((Holding.claimed p q scope record s).stream i).commitPending = true :=
  (congrArg StreamRec.commitPending (Holding.stream_pended (Holding.keeps_claimed record) hi) :)

theorem commitInv_completed (p : PortNo) (q : Request) (scope : CommitScope) (hrecord : s.record = none)
    (hs : CommitInv s) : CommitInv (Holding.claimed p q scope none s) := by
  have hagent := agentView_claimed p q scope none s
  have hclosed := Holding.record_claimed (p := p) (q := q) (scope := scope) (s := s) none
  refine commitInv_of_record hs id (fun _ => rfl) (congrArg AgentView.commitAnswer hagent)
    (congrArg AgentView.barred hagent) (congrArg AgentView.owedVoid hagent) (hclosed.trans (by rw [hrecord]; rfl))
    (staged_claimed p q scope none hs) fun c hc => ?_
  rw [hrecord] at hc
  contradiction

/-- A COMMIT that leaves its record open bars its port (R148). -/
theorem commitInv_leftOpen (p : PortNo) (q : Request) (scope : CommitScope) (hs : CommitInv s) :
    CommitInv (Holding.leftOpen p q scope s) := by
  have hagent := agentView_claimed p q scope (some (Holding.eventRecord p q scope s)) s
  have hopen := Holding.record_claimed (p := p) (q := q) (scope := scope) (s := s)
    (some (Holding.eventRecord p q scope s))
  refine ⟨(congrArg AgentView.commitAnswer hagent).trans hs.1, (congrArg (Option.map CommitRecord.port) hopen).symm, nofun,
    staged_claimed p q scope _ hs, fun c hc i hi => ?_⟩
  obtain rfl : Holding.eventRecord p q scope s = c := Option.some.inj (hopen.symm.trans hc)
  exact commitPending_claimed _ hi

end record

/-! ### The invariants are kept -/

theorem queueInv_agentInvariant : AgentInvariant QueueInv where
  frame hs hv := queueInv_of_agentView (congrArg View.agent hv) hs
  raised _ := queueInv_of_agentView (agentView_of_sansNotices (raise_sansNotices _ _))
  narrowed _ hs := hs
  closed _ _ _ hs := queueInv_takeCommitAnswer hs
  applied _ _ hs := queueInv_of_agentView (congrArg View.agent (view_of_sansBinding (removeEntry_sansBinding _ _))) hs
  acknowledged _ := queueInv_of_agentView (agentView_of_sansNotices (removeNotice_sansNotices _ _))
  staged _ _ hs := hs
  withdrawn _ hs := hs
  withdrawnAll := queueInv_of_agentView (agentView_mapPorts _ fun _ => rfl)
  imagesRestarted hs := hs
  noticesCleared := queueInv_of_agentView (agentView_mapPorts _ fun _ => rfl)
  taken := queueInv_takeRequest
  responded q a he := queueInv_respond q a he
  answered {s} _ := queueInv_of_queues (fun _ => rfl) rfl (by cases h : s.inExecution <;> simp [executing, h])
  completed p q scope _ := queueInv_of_agentView (agentView_claimed p q scope none _)
  leftOpen {_ e} q scope _ he hs :=
    have hagent := agentView_claimed e.port q scope _ _
    queueInv_barPort ((congrArg AgentView.inExecution hagent).trans he) (queueInv_of_agentView hagent hs)
  commitAnswerTaken := queueInv_takeCommitAnswer
  received := queueInv_requestArrival
  responseSent {s p a rest} hresponses hs := by
    refine queueInv_modPort (fun hfits => ⟨hfits.1, le_trans ?_ hfits.2⟩) (fun _ => rfl) hs
    simp only [PortRec.placesUsed, hresponses, List.length_cons]
    omega
  reportSent _ hs := hs
  emptied p hs := by
    refine queueInv_modPort (fun hfits => ⟨Nat.zero_le _, le_trans ?_ hfits.2⟩) (fun _ => rfl) hs
    simp [PortRec.placesUsed]
  voided {s} p := by
    refine queueInv_of_queues (fun _ => rfl) rfl ?_
    cases h : s.inExecution with
    | none => simp [executing, agentLoss, h]
    | some e => by_cases hp : e.port = p <;> simp [executing, agentLoss, h, hp]
  reset pin s := by
    refine (queueInv_iff _).2 ⟨fun p => ?_, nofun, nofun⟩
    obtain ⟨r, hr⟩ : ∃ level, (powerOnState pin s).port p = PortRec.reset level := by
      fin_cases p <;> exact ⟨_, rfl⟩
    rw [hr]
    exact ⟨Nat.zero_le _, Nat.zero_le _⟩

theorem commitInv_agentInvariant : AgentInvariant CommitInv where
  frame hs hv := commitInv_of_view hv hs
  raised _ := commitInv_of_sansNotices (raise_sansNotices _ _)
  narrowed := commitInv_modRecord
  closed := commitInv_closeRecord
  applied := commitInv_applyRecord
  acknowledged _ := commitInv_of_sansNotices (removeNotice_sansNotices _ _)
  staged := commitInv_stage
  withdrawn := commitInv_discardStream
  withdrawnAll := commitInv_withdrawAll
  imagesRestarted := commitInv_restartImages
  noticesCleared := commitInv_of_staging rfl rfl rfl rfl
    (Table.read_eq_of_mapAll_eq (Table.mapAll_mapAll_of_eq fun _ => rfl))
  taken _ hs := hs
  responded {s e} q a _ hs := by
    unfold respond
    dsimp only
    split
    · split <;> exact hs
    · exact hs
  answered _ hs := hs
  completed := commitInv_completed
  leftOpen q scope _ _ := commitInv_leftOpen _ q scope
  commitAnswerTaken hs := by rw [takeCommitAnswer_idle (.inl hs.1)]; exact hs
  received {s} p q hs := by
    unfold requestArrival
    dsimp only
    split
    · exact hs
    · split
      · exact hs
      · exact commitInv_of_sansNotices (raise_sansNotices s _) hs
  responseSent _ hs := hs
  reportSent _ hs := hs
  emptied _ hs := hs
  voided {s} p hs := by
    obtain ⟨hnone, hbar, howed, himage, hpending⟩ := hs
    refine ⟨hnone, hbar, fun h => ?_, himage, hpending⟩
    simp only [agentLoss, Bool.or_eq_true, decide_eq_true_eq] at h
    exact h.elim howed fun hp => (hp ▸ Option.some_ne_none p :)
  reset pin s := ⟨rfl, rfl, nofun, fun i hi => by
    rw [show (powerOnState pin s).stream i = StreamRec.reset from Table.read_const _ _] at hi
    contradiction, nofun⟩

theorem reportInv_agentInvariant : AgentInvariant ReportInv where
  frame hs hv := reportInv_of_reports (congrArg View.reports hv) hs
  raised := reportInv_raise
  narrowed _ hs := hs
  closed {s c} status result _ := reportInv_of_reports (by
    cases hb : s.barred with
    | none => rw [closeRecord_unbarred c status result hb]
    | some p => rw [closeRecord_barred c status result hb]; rfl)
  applied _ _ := reportInv_of_reports (removeEntry_reports _ _)
  acknowledged _ := reportInv_of_sublist (by rw [points_removeNotice])
  staged _ _ hs := hs
  withdrawn _ hs := hs
  withdrawnAll hs := hs
  imagesRestarted hs := hs
  noticesCleared := reportInv_of_sublist (List.nil_sublist _)
  taken _ hs := hs
  responded {s e} q a _ hs := by
    unfold respond
    dsimp only
    split
    · split <;> exact hs
    · exact hs
  answered _ hs := hs
  completed p q scope _ := reportInv_of_reports (reports_claimed p q scope none _)
  leftOpen q scope _ _ := reportInv_of_reports (reports_claimed _ q scope _ _)
  commitAnswerTaken {s} hs := by
    unfold takeCommitAnswer
    split
    · rw [settle_eq]
      exact hs
    · exact hs
  received {s} p q hs := by
    unfold requestArrival
    dsimp only
    split
    · exact hs
    · split
      · exact hs
      · exact reportInv_raise _ hs
  responseSent _ hs := hs
  reportSent hreports := reportInv_of_sublist (by
    rw [points, points, hreports]
    exact List.sublist_cons_self _ _)
  emptied _ hs := hs
  voided _ hs := hs
  reset _ _ := ⟨Nat.zero_le _, Nat.zero_le _⟩

/-- Settles O58: the three invariants are among those that every command keeps. -/
theorem stepKeepsQueueBounds : Obligations.StepKeepsQueueBounds :=
  ⟨fun _ _ => queueInv_agentInvariant.keeps_step, fun _ _ => commitInv_agentInvariant.keeps_step,
    fun _ _ => reportInv_agentInvariant.keeps_step⟩

end Sys2Proof.Proofs.Management

/-! The staged images and the commit operation: what STAGE, COMMIT and DISCARD check, store and answer, and how an open
record closes. -/

namespace Sys2Proof.Proofs.Staging

open Sys2Proof Sys2Proof.Machine Sys2Proof.Proofs.Management

/-! ### The completion of an open record (R126, R148) -/

section completion
variable {s : State} {c : CommitRecord} {p : PortNo}

theorem complete_iff (c : CommitRecord) : c.complete = true ↔ c.streams = [] ∧ c.devicePart ≠ .pending := by
  simp [CommitRecord.complete]

theorem judgeCompletion_idle (h : s.record = none) : judgeCompletion s = s := by
  simp only [judgeCompletion, h]

theorem judgeCompletion_complete (h : s.record = some c) (hc : c.complete = true) :
    judgeCompletion s = closeRecord c .done c.doneResult s := by
  simp only [judgeCompletion, h, hc, if_true]

theorem judgeCompletion_pending (h : s.record = some c) (hc : ¬ c.complete = true) : judgeCompletion s = s := by
  simp only [judgeCompletion, h, if_neg hc]

end completion

/-- Settles O43: a complete record closes, and the agent settles the response on the barred port. -/
theorem completedCommitAnswered : Obligations.CompletedCommitAnswered := by
  refine ⟨fun s c p hrecord hbarred => ⟨fun hs hd => ?complete, fun hpending => ?pending⟩, fun s hpin hcount => ?taken⟩
  case complete =>
    rw [judgeCompletion_complete hrecord ((complete_iff c).2 ⟨hs, hd⟩), closeRecord_barred c _ _ hbarred]
    rfl
  case pending =>
    refine judgeCompletion_pending hrecord fun hc => ?_
    obtain ⟨hs, hd⟩ := (complete_iff c).1 hc
    exact hpending.elim (absurd hs) hd
  case taken =>
    have run : exec .commitResponse s = .next (takeCommitAnswer s) := running_counted hpin hcount
    refine ⟨fun a p ha hp => ?_, fun h => ?_⟩
    · rw [run, takeCommitAnswer_owed ha hp]
      rfl
    · rw [run, takeCommitAnswer_idle h]

/-! ### The commit deadline (R127) -/

section expiry
variable {s : State} {c : CommitRecord}

theorem commitExpiry_due (h : s.record = some c) (hd : inFuture s.paceCount c.deadline = false) :
    commitExpiry s = raise (.device .commitLate) (closeRecord c .commitLate (octets2 c.partsPending) s) := by
  simp only [commitExpiry, h, Pacing.due_some hd, if_true]

theorem commitExpiry_early (h : s.record = some c) (hd : inFuture s.paceCount c.deadline = true) :
    commitExpiry s = s := by
  have hdue : due s.paceCount (some c.deadline) = false := Pacing.due_eq_false fun d he => Option.some.inj he ▸ hd
  simp only [commitExpiry, h, hdue, Bool.false_eq_true, if_false]

theorem commitExpiry_idle (h : s.record = none) : commitExpiry s = s := by
  simp only [commitExpiry, h]

end expiry

/-- Settles O44: the record closes with the parts it still counts as pending, and nothing else of the commit unit
changes. -/
theorem commitDeadlineExpires : Obligations.CommitDeadlineExpires := by
  intro s hpin
  have run : exec .commitDeadlineExpiry s = .next (commitExpiry s) := Pacing.atStroke_running commitExpiry hpin
  refine ⟨fun c p hrecord hbarred hlate => ?_, fun h => ?_⟩
  · rw [run, commitExpiry_due hrecord hlate, closeRecord_barred c _ _ hbarred]
    rfl
  · obtain hnone | ⟨c, hrecord, hearly⟩ := h
    · rw [run, commitExpiry_idle hnone]
    · rw [run, commitExpiry_early hrecord hearly]

/-! ### The checks of a COMMIT (R118, R119, R151) -/

section listed
variable {t : Payload} {n k : Nat}

theorem streamOfNat_of_le {m : Nat} (h : m ≤ 511) : ∃ i : StreamNo, streamOfNat m = some i ∧ i.val = m :=
  ⟨⟨m, Nat.lt_succ_of_le h⟩, dif_pos _, rfl⟩

theorem streamOfNat_of_gt {m : Nat} (h : 511 < m) : streamOfNat m = none := dif_neg (Nat.not_lt_of_ge h)

/-- The numbers of a list are those of its head and of the list two octets on. -/
theorem word16At_tail (t : Payload) (k j : Nat) : word16At t (k + 2 + 2 * j) = word16At t (k + 2 * (j + 1)) := by
  congr 1
  omega

theorem listedStreams_good (h : ∀ j < n, word16At t (k + 2 * j) ≤ 511) :
    ∃ is, listedStreams t n k = some is ∧ is.map Fin.val = (List.range n).map fun j => word16At t (k + 2 * j) := by
  induction n generalizing k with
  | zero => exact ⟨[], rfl, rfl⟩
  | succ n ih =>
    have hhead : word16At t k ≤ 511 := h 0 n.succ_pos
    obtain ⟨i, hi, hval⟩ := streamOfNat_of_le hhead
    obtain ⟨is, hlist, hvals⟩ := ih (k := k + 2) fun j hj => by
      rw [word16At_tail]
      exact h (j + 1) (Nat.succ_lt_succ hj)
    refine ⟨i :: is, by simp only [listedStreams, hi, hlist], ?_⟩
    rw [List.map_cons, hvals, hval, List.range_succ_eq_map, List.map_cons, List.map_map]
    simp only [word16At_tail]
    rfl

theorem listedStreams_bad {j : Nat} (hj : j < n) (h : 511 < word16At t (k + 2 * j)) : listedStreams t n k = none := by
  induction n generalizing k j with
  | zero => exact absurd hj j.not_lt_zero
  | succ n ih =>
    cases j with
    | zero =>
      have hhead : streamOfNat (word16At t k) = none := streamOfNat_of_gt h
      simp only [listedStreams, hhead]
    | succ j =>
      have htail : listedStreams t n (k + 2) = none := by
        rw [← word16At_tail] at h
        exact ih (Nat.lt_of_succ_lt_succ hj) h
      rw [listedStreams, htail]
      cases streamOfNat (word16At t k) <;> rfl

end listed

section scope
variable {q : Request}

theorem commitScopeOf_absent (h : selectorOf q = 0) :
    commitScopeOf q = .ok ⟨(octetAt q.payload 3).getLsbD 0, (octetAt q.payload 3).getLsbD 1, .absent⟩ := by
  simp only [commitScopeOf, h, if_true]

theorem commitScopeOf_allStaged (h : selectorOf q = 2) :
    commitScopeOf q = .ok ⟨(octetAt q.payload 3).getLsbD 0, (octetAt q.payload 3).getLsbD 1, .allStaged⟩ := by
  simp [commitScopeOf, h]

theorem commitScopeOf_faulty
    (h : 3 ≤ selectorOf q ∨ (selectorOf q = 1 ∧
      ((octetAt q.payload 4).toNat = 0 ∨ 16 < (octetAt q.payload 4).toNat))) :
    commitScopeOf q = .error .badValue := by
  simp only [commitScopeOf]
  obtain h | ⟨h, hlength⟩ := h
  · rw [if_neg (by omega), if_neg (by omega), if_neg (by omega)]
  · rw [if_neg (by omega), if_pos h, if_neg (by omega)]

section list
variable (hs : selectorOf q = 1) (h1 : 1 ≤ (octetAt q.payload 4).toNat) (h16 : (octetAt q.payload 4).toNat ≤ 16)
include hs h1 h16

theorem commitScopeOf_list {is : List StreamNo} (h : listedStreams q.payload (octetAt q.payload 4).toNat 5 = some is) :
    commitScopeOf q = .ok ⟨(octetAt q.payload 3).getLsbD 0, (octetAt q.payload 3).getLsbD 1, .list is⟩ := by
  simp [commitScopeOf, hs, h1, h16, h]

theorem commitScopeOf_badTarget (h : listedStreams q.payload (octetAt q.payload 4).toNat 5 = none) :
    commitScopeOf q = .error .badTarget := by
  simp [commitScopeOf, hs, h1, h16, h]

end list

/-- The scope of a COMMIT is refused as a bad value or target, never for want of privilege. -/
theorem commitScopeOf_error {status : Status} (h : commitScopeOf q = .error status) : status ≠ .noPrivilege := by
  rintro rfl
  revert h
  simp only [commitScopeOf]
  repeat' split
  all_goals simp

end scope

section refused
variable {s : State} {p : PortNo} {q : Request} {scope : CommitScope}

/-- The claims of a request that give a reply are followed by it (R147). -/
theorem conclude_replies {act : Action} {a : Reply} {u : State} (h : act s = (some a, u)) :
    conclude p q act s = respond p q a u := by
  simp only [conclude, h]

theorem takeCommit_open (h : s.record.isSome = true) : takeCommit p q scope s = (some (bare .wrongState), s) := by
  simp only [takeCommit, h, if_true]

theorem takeCommit_lockout (hrecord : s.record = none) (hports : scope.ports = true) (hfull : ¬ s.keepsFull = true) :
    takeCommit p q scope s = (some (bare .badValue), s) := by
  simp [takeCommit, hrecord, hports, hfull]

/-- With no stream part and no flag there is nothing to apply and nothing to count. -/
theorem takeCommit_nothing (hrecord : s.record = none) :
    takeCommit p q ⟨false, false, .absent⟩ s = (some ⟨.done, [0, 0, 0, 0]⟩, s) := by
  have hsame : { s with record := none } = s := by rw [← hrecord]
  have hcomplete : (Holding.eventRecord p q ⟨false, false, .absent⟩ s).complete = true := rfl
  have hresult : (Holding.eventRecord p q ⟨false, false, .absent⟩ s).doneResult = [0, 0, 0, 0] :=
    show octets2 0 ++ octets2 0 = [0, 0, 0, 0] by decide
  have hstate : Holding.claimed p q ⟨false, false, .absent⟩ none s = { s with record := none } := rfl
  rw [Holding.takeCommit_taken hrecord fun h => absurd h Bool.false_ne_true, if_pos hcomplete, hresult, hstate, hsame]

theorem refuseRequest_eq {status : Status} (h : status ≠ .noPrivilege) :
    refuseRequest p q status s = respond p q (bare status) s := by
  rw [refuseRequest, if_neg h]

theorem exec_commit_refused (hpin : s.resetPin = false) (hcount : s.uncounted = false)
    (hnext : s.nextRequest = some (p, q)) (hfull : (s.port p).record.level = .full) (hcode : q.code = 0x0A)
    {status : Status} (h : commitScopeOf q = .error status) :
    exec .commit s = .next (respond p q (bare status) (takeRequest p q s)) := by
  have run : exec .commit s = .next (serve (isCommand .commit) bodyCommit s) := running_counted hpin hcount
  have hbody : bodyCommit p q = .error status := by simp only [bodyCommit, h]
  rw [run, serve_takes hnext (Pacing.isCommand_of_ofCode (Holding.ofCode_commit hcode)),
    takeAndCheck_error (hfull ▸ Pacing.privilegeFailure_full (Holding.ofCode_commit hcode)) hbody,
    refuseRequest_eq (commitScopeOf_error h)]

end refused

/-- Settles O45: the refusals of the commit unit in their order, then the scope by selector. -/
theorem commitChecked : Obligations.CommitChecked := by
  refine ⟨?refusals, ?scope⟩
  case refusals =>
    intro s p q hpin hcount hnext hfull hcode taken t
    have run (hturn : s.turn = false) {scope : CommitScope} (hscope : commitScopeOf q = .ok scope) :
        exec .commit s = .next (conclude p q (takeCommit p q scope) t) :=
      Holding.exec_commit_taken hpin hcount hnext hturn hfull hcode hscope
    refine ⟨fun hturn scope hscope => ⟨fun hopen => ?_, fun hrecord hports hnone => ?_⟩,
      fun hturn hrecord hselector hflags => ?_,
      fun status hscope => exec_commit_refused hpin hcount hnext hfull hcode hscope⟩
    · rw [run hturn hscope, conclude_replies (takeCommit_open (s := t) hopen)]
    · have hlocked : ¬ t.keepsFull = true := fun h => by
        obtain ⟨x, hx⟩ := (Holding.keepsFull_iff t).1 h
        exact hnone x ((congrArg PortRecord.level (Holding.resulting_taken s p q x)).symm.trans hx)
      rw [run hturn hscope, conclude_replies (takeCommit_lockout (s := t) hrecord hports hlocked)]
    · have hscope : commitScopeOf q = .ok ⟨false, false, .absent⟩ := by
        rw [commitScopeOf_absent hselector, hflags]
        rfl
      rw [run hturn hscope, conclude_replies (takeCommit_nothing (s := t) hrecord)]
  case scope =>
    intro q device ports length
    refine ⟨commitScopeOf_absent, commitScopeOf_allStaged, commitScopeOf_faulty, fun hs h1 h16 => ⟨?_, fun hgood => ?_⟩⟩
    · rintro ⟨k, hk, hbad⟩
      exact commitScopeOf_badTarget hs h1 h16 (listedStreams_bad hk hbad)
    · obtain ⟨is, hlist, hvals⟩ := listedStreams_good hgood
      exact ⟨is, commitScopeOf_list hs h1 h16 hlist, hvals⟩

/-! ### DISCARD (R117) -/

section withdrawal
variable {c : CommitRecord} {i : StreamNo} {s : State}

/-- A record from which one stream is withdrawn; only a stream that is pending in it counts. -/
def withdrawStream (i : StreamNo) (c : CommitRecord) : CommitRecord :=
  { c with
    streams := c.streams.filter (· ≠ i)
    withdrawn := c.withdrawn + (c.streams.filter (· = i)).length }

/-- A record whose pending device part is withdrawn. -/
def withdrawDevice (c : CommitRecord) : CommitRecord :=
  { c with devicePart := if c.devicePart = .pending then .withdrawn else c.devicePart }

theorem withdraw_none (c : CommitRecord) : c.withdraw (fun _ => false) = c := by
  simp [CommitRecord.withdraw]

theorem withdraw_one (i : StreamNo) (c : CommitRecord) : c.withdraw (fun j => j == i) = withdrawStream i c := by
  simp only [CommitRecord.withdraw, withdrawStream, beq_eq_decide, ne_eq, decide_not]

theorem withdrawStream_of_notMem (h : i ∉ c.streams) : withdrawStream i c = c := by
  have hkept : c.streams.filter (· ≠ i) = c.streams := List.filter_eq_self.2 fun j hj => by
    simpa using fun he : j = i => h (he ▸ hj)
  have hcounted : c.streams.filter (· = i) = [] := List.filter_eq_nil_iff.2 fun j hj => by
    simpa using fun he : j = i => h (he ▸ hj)
  rw [withdrawStream, hkept, hcounted]
  rfl

/-- The withdrawal of one stream changes the record only if the stream was commit pending and the record holds it. -/
theorem withdraw_stream_eq (pending : Bool) (i : StreamNo) (c : CommitRecord) :
    c.withdraw (fun j => pending && j == i) = if pending = true ∧ i ∈ c.streams then withdrawStream i c else c := by
  cases pending with
  | false => simpa using withdraw_none c
  | true =>
    simp only [Bool.true_and, withdraw_one, true_and]
    split
    · rfl
    · next h => exact withdrawStream_of_notMem h

theorem discardStream_eq (i : StreamNo) (s : State) :
    discardStream i s =
      { s.modStream i StreamRec.discarded with
        record := s.record.map fun c =>
          if (s.stream i).commitPending = true ∧ i ∈ c.streams then withdrawStream i c else c } := by
  simp only [← withdraw_stream_eq]
  rfl

theorem discardDevice_staged (h : s.trunkCommitPending = false) :
    discardDevice s = { s with stagedParams := none } := by
  simp [discardDevice, h]

theorem discardDevice_waiting (h : s.trunkCommitPending = true) :
    discardDevice s =
      callPass { s with stagedParams := none, trunkCommitPending := false, record := s.record.map withdrawDevice } := by
  have hpart : (fun c : CommitRecord =>
      if c.devicePart = .pending then { c with devicePart := .withdrawn } else c) = withdrawDevice := by
    funext c
    unfold withdrawDevice
    split <;> rfl
  simp [discardDevice, h, modRecord, hpart]

/-- DISCARD of the device set changes, but for bindings, the set, its flag and, where it was waiting, the record. -/
theorem discardDevice_sansBinding (s : State) :
    (discardDevice s).sansBinding =
      State.sansBinding
        { s with
          stagedParams := none
          trunkCommitPending := false
          record := s.record.map fun c => if s.trunkCommitPending = true then withdrawDevice c else c } := by
  cases h : s.trunkCommitPending with
  | false =>
    rw [discardDevice_staged h]
    simp [State.sansBinding, h]
  | true => simp [discardDevice_waiting h]

/-- A record from which streams and, where the device set was waiting, its pending device part are withdrawn. -/
def withdrawAlso (waiting : Bool) (gone : StreamNo → Bool) (c : CommitRecord) : CommitRecord :=
  { c with
    streams := c.streams.filter fun i => !gone i
    withdrawn := c.withdrawn + (c.streams.filter gone).length
    devicePart := if waiting = true ∧ c.devicePart = .pending then .withdrawn else c.devicePart }

theorem withdrawDevice_withdraw (waiting : Bool) (gone : StreamNo → Bool) (c : CommitRecord) :
    (if waiting = true then withdrawDevice (c.withdraw gone) else c.withdraw gone) = withdrawAlso waiting gone c := by
  cases waiting with
  | false => simp [CommitRecord.withdraw, withdrawAlso]
  | true =>
    by_cases hpending : c.devicePart = .pending <;>
      simp [CommitRecord.withdraw, withdrawDevice, withdrawAlso, hpending]

/-- DISCARD of everything changes, but for bindings, the staged images, the flags and the record. -/
theorem discardAll_sansBinding (s : State) :
    (discardAll s).sansBinding =
      State.sansBinding
        { s with
          streams := s.streams.mapAll StreamRec.discarded
          ports := s.ports.mapAll fun r => { r with staged := none }
          stagedParams := none
          trunkCommitPending := false
          record := s.record.map (withdrawAlso s.trunkCommitPending fun i => (s.stream i).commitPending) } := by
  have hrecord :
      ((withdrawAll s).record.map fun c => if s.trunkCommitPending = true then withdrawDevice c else c) =
        s.record.map (withdrawAlso s.trunkCommitPending fun i => (s.stream i).commitPending) := by
    rw [withdrawAll, modRecord, Option.map_map]
    exact congrArg (s.record.map ·) (funext (withdrawDevice_withdraw _ _))
  rw [← hrecord, discardAll_eq, discardDevice_sansBinding]
  rfl

end withdrawal

section command
variable {s : State} {p : PortNo} {q : Request} {scope : DiscardScope}

theorem discardScopeOf_stream {i : StreamNo} (h : selectorOf q = 0) (hi : targetOf q = i.val) :
    discardScopeOf q = .ok (.stream i) := by
  simp [discardScopeOf, h, hi]

theorem discardScopeOf_device (h : selectorOf q = 1) : discardScopeOf q = .ok .device := by
  simp [discardScopeOf, h]

theorem discardScopeOf_port {x : PortNo} (h : selectorOf q = 2) (hx : targetOf q = x.val) :
    discardScopeOf q = .ok (.port x) := by
  simp [discardScopeOf, h, hx]

theorem discardScopeOf_all (h : selectorOf q = 3) : discardScopeOf q = .ok .all := by
  simp [discardScopeOf, h]

theorem discard_done (scope : DiscardScope) (s : State) : (discard scope s).1 = .done := by
  cases scope <;> rfl

theorem ofCode_discard (hcode : q.code = 0x09) : Command.ofCode q.code = some .discard := by rw [hcode]; rfl

/-- A DISCARD whose scope is good is answered DONE. -/
theorem exec_discard (hpin : s.resetPin = false) (hcount : s.uncounted = false)
    (hnext : s.nextRequest = some (p, q)) (hturn : s.turn = false) (hfull : (s.port p).record.level = .full)
    (hcode : q.code = 0x09) (hscope : discardScopeOf q = .ok scope) :
    exec .discard s = .next (respond p q (bare .done) (discard scope (takeRequest p q s).dropTurn).2) := by
  have hbody : bodyDiscard p q = answering (discard scope) := by simp only [bodyDiscard, hscope]
  have run : exec .discard s = _ :=
    Pacing.running_serve_answering hpin hcount hnext hturn (Pacing.isCommand_of_ofCode (ofCode_discard hcode))
      (hfull ▸ Pacing.privilegeFailure_full (ofCode_discard hcode)) hbody
  rw [run, discard_done]

end command

/-- Settles O47: the scope decides what is withdrawn, and the completion is judged after it. -/
theorem discardByScope : Obligations.DiscardByScope := by
  intro s p q hpin hcount hnext hturn hfull hcode t
  have run {scope : DiscardScope} (hscope : discardScopeOf q = .ok scope) :
      exec .discard s = .next (respond p q (bare .done) (discard scope t).2) :=
    exec_discard hpin hcount hnext hturn hfull hcode hscope
  refine ⟨fun i hs hi => ?stream, fun hs hstaged => ?device, fun hs hwaiting => ?waiting, fun x hs hx => ?port,
    fun hs => ?all⟩
  case stream =>
    rw [run (discardScopeOf_stream hs hi), Machine.discard, discardStream_eq]
    rfl
  case device => rw [run (discardScopeOf_device hs), Machine.discard, discardDevice_staged (s := t) hstaged]
  case waiting =>
    rw [run (discardScopeOf_device hs), Machine.discard, discardDevice_waiting (s := t) hwaiting]
    rfl
  case port => rw [run (discardScopeOf_port hs hx), Machine.discard]
  case all =>
    intro gone
    exact ⟨discardAll t, by rw [run (discardScopeOf_all hs), Machine.discard], discardAll_sansBinding t⟩

/-! ### The application of a commit-pending image (R121, R122, R126) -/

section application
variable {s t : State} {i : StreamNo} {m : StreamImage} {c : CommitRecord}

/-- A stream with an image applied, before its entry leaves the list (R121 steps 1 to 6). -/
def imageApplied (i : StreamNo) (m : StreamImage) (s : State) : State :=
  s.modStream i (StreamRec.applyImage s.paceCount s.params.settleInterval m)

/-- A record counts the application of an image to a stream that it holds (R122). -/
def countApplication (i : StreamNo) (c : CommitRecord) : CommitRecord :=
  if c.streams.contains i then { c with applied := c.applied + 1 } else c

/-- A stream leaves the streams that a record holds. -/
def leaveRecord (i : StreamNo) (c : CommitRecord) : CommitRecord :=
  { c with streams := c.streams.filter (· != i) }

theorem leaveRecord_countApplication_mem (h : i ∈ c.streams) :
    (leaveRecord i ∘ countApplication i) c =
      { c with streams := c.streams.filter (· ≠ i), applied := c.applied + 1 } := by
  have hfilter : c.streams.filter (· != i) = c.streams.filter (· ≠ i) := List.filter_congr fun j _ => by
    simp only [bne, beq_eq_decide, ne_eq, decide_not]
  rw [Function.comp_apply, countApplication, if_pos (by simpa using h), leaveRecord, hfilter]

theorem leaveRecord_countApplication_notMem (h : i ∉ c.streams) :
    (leaveRecord i ∘ countApplication i) c = c := by
  have hkept : c.streams.filter (· != i) = c.streams := List.filter_eq_self.2 fun j hj => by
    simpa using fun he : j = i => h (he ▸ hj)
  rw [Function.comp_apply, countApplication, if_neg (by simpa using h), leaveRecord, hkept]

theorem modRecord_modRecord (f g : CommitRecord → CommitRecord) (s : State) :
    modRecord g (modRecord f s) = modRecord (g ∘ f) s := by
  simp only [modRecord, Option.map_map]

theorem commitLoss_pending (hp : (s.stream i).commitPending = true) (hm : (s.stream i).staged = some m) :
    commitLoss i s =
      judgeCompletion (removeEntry i (modRecord (leaveRecord i ∘ countApplication i) (imageApplied i m s))) := by
  have hloss : commitLoss i s =
      judgeCompletion (removeEntry i
        (modRecord (leaveRecord i) (modRecord (countApplication i) (imageApplied i m s)))) := by
    simp only [commitLoss, hp, hm]
    rfl
  rw [hloss, modRecord_modRecord]

theorem modRecord_some {f : CommitRecord → CommitRecord} (h : s.record = some c) :
    modRecord f s = { s with record := some (f c) } := by
  rw [modRecord, h]
  rfl

theorem modRecord_fixed {f : CommitRecord → CommitRecord} (h : ∀ c, s.record = some c → f c = c) :
    modRecord f s = s := by
  cases hc : s.record with
  | none => rw [modRecord, hc, Option.map_none, ← hc]
  | some c => rw [modRecord_some hc, h c hc, ← hc]

theorem commitLoss_idle (h : (s.stream i).commitPending = false ∨ (s.stream i).staged = none) : commitLoss i s = s := by
  unfold commitLoss
  dsimp only
  split
  · next hp hm => simp [hp, hm] at h
  · rfl

theorem imageApplication_free (hl : (s.stream i).heldLane = none) (hp : (s.stream i).commitPending = true)
    (hm : (s.stream i).staged = some m) : imageApplication i s = demandChanged i (commitLoss i s) := by
  simp [imageApplication, hl, hp, hm]

theorem imageApplication_idle
    (h : (s.stream i).heldLane ≠ none ∨ (s.stream i).commitPending = false ∨ (s.stream i).staged = none) :
    imageApplication i s = s := by
  obtain h | h | h := h
  · simp [imageApplication, Option.isNone_eq_false_iff.2 (Option.isSome_iff_ne_none.2 h)]
  · simp [imageApplication, h]
  · simp [imageApplication, h]

/-- The close of a record looks at no binding. -/
theorem closeRecord_congr (h : t.sansBinding = s.sansBinding) (c : CommitRecord) (status : Status)
    (result : List Byte) :
    (closeRecord c status result t).sansBinding = (closeRecord c status result s).sansBinding := by
  have hbarred : t.barred = s.barred := barred_of_sansBinding h
  cases hp : s.barred with
  | none =>
    rw [closeRecord_unbarred c status result hp, closeRecord_unbarred c status result (hbarred.trans hp)]
    exact congrArg (fun u : State => { u with record := none, commitAnswer := some (c.answer status result) }) h
  | some p =>
    rw [closeRecord_barred c status result hp, closeRecord_barred c status result (hbarred.trans hp),
      owedVoid_of_sansBinding h]
    exact congrArg (fun u : State => { u with record := none, commitAnswer := none, barred := none, owedVoid := false })
      (sansBinding_modPort_congr h p)

/-- The judgement of the completion looks at no binding. -/
theorem judgeCompletion_congr (h : t.sansBinding = s.sansBinding) :
    (judgeCompletion t).sansBinding = (judgeCompletion s).sansBinding := by
  have hrecord : t.record = s.record := record_of_sansBinding h
  cases hc : s.record with
  | none => rwa [judgeCompletion_idle hc, judgeCompletion_idle (hrecord.trans hc)]
  | some c =>
    by_cases hcomplete : c.complete = true
    · rw [judgeCompletion_complete hc hcomplete, judgeCompletion_complete (hrecord.trans hc) hcomplete]
      exact closeRecord_congr h c _ _
    · rwa [judgeCompletion_pending hc hcomplete, judgeCompletion_pending (hrecord.trans hc) hcomplete]

theorem exec_imageApplication (i : StreamNo) (hpin : s.resetPin = false) (hcount : s.uncounted = false) :
    exec (.streamImageApplication i) s = .next (imageApplication i s) := running_counted hpin hcount

end application

/-- Settles O41: the image is applied to the stream, counted in a record that holds it, and the completion is judged;
the notification that follows changes bindings alone. -/
theorem streamImageApplied : Obligations.StreamImageApplied := by
  intro s i r
  refine ⟨fun m hp hm => ?applies, commitLoss_idle, fun hpin hcount h => ?idle⟩
  case applies =>
    intro applied
    have hloss : commitLoss i s =
        judgeCompletion (removeEntry i (modRecord (leaveRecord i ∘ countApplication i) applied)) :=
      commitLoss_pending hp hm
    have hnone (h : s.record = none) : commitLoss i s = removeEntry i applied := by
      rw [hloss, modRecord_fixed (s := applied) fun c hc => absurd (h.symm.trans hc) nofun,
        judgeCompletion_idle ((removeEntry_record applied i).trans h)]
    have hholds (c : CommitRecord) (h : s.record = some c) (hi : i ∈ c.streams) :
        commitLoss i s =
          judgeCompletion (removeEntry i
            { applied with
              record := some { c with streams := c.streams.filter (· ≠ i), applied := c.applied + 1 } }) := by
      rw [hloss, modRecord_some (s := applied) h, leaveRecord_countApplication_mem hi]
    have hlacks (c : CommitRecord) (h : s.record = some c) (hi : i ∉ c.streams) :
        commitLoss i s = judgeCompletion (removeEntry i applied) := by
      rw [hloss, modRecord_fixed (s := applied) fun c' hc =>
        leaveRecord_countApplication_notMem (Option.some.inj (h.symm.trans hc) ▸ hi)]
    refine ⟨hnone, hholds, hlacks, fun hpin hcount hl => ⟨?_, fun h => ?_, fun c h hi => ?_, fun c h hi => ?_⟩⟩
    · rw [exec_imageApplication i hpin hcount, imageApplication_free hl hp hm]
    · rw [demandChanged_sansBinding, hnone h, removeEntry_sansBinding]
    · rw [demandChanged_sansBinding, hholds c h hi, judgeCompletion_congr (removeEntry_sansBinding _ i)]
    · rw [demandChanged_sansBinding, hlacks c h hi, judgeCompletion_congr (removeEntry_sansBinding _ i)]
  case idle => rw [exec_imageApplication i hpin hcount, imageApplication_idle h]

/-! ### Staging (R114, R115, R116) -/

section staging
variable {q : Request}

theorem ofCode_stageStream (hcode : q.code = 0x08) : Command.ofCode q.code = some .stageStream := by rw [hcode]; rfl

theorem ofCode_stageDevice (hcode : q.code = 0x06) : Command.ofCode q.code = some .stageDevice := by rw [hcode]; rfl

theorem ofCode_stagePort (hcode : q.code = 0x07) : Command.ofCode q.code = some .stagePort := by rw [hcode]; rfl

theorem portRecordOf_good (hacceptance : (octetAt q.payload 3).toNat ≤ 1) (hlevel : (octetAt q.payload 4).toNat ≤ 2) :
    portRecordOf q =
      some ⟨decide ((octetAt q.payload 3).toNat = 1),
        if (octetAt q.payload 4).toNat = 0 then .none
        else if (octetAt q.payload 4).toNat = 1 then .read else .full⟩ := by
  simp only [portRecordOf, if_pos hacceptance, beq_eq_decide]
  split
  · rfl
  · split
    · rfl
    · rw [if_pos (by omega)]

theorem portRecordOf_bad (h : 1 < (octetAt q.payload 3).toNat ∨ 2 < (octetAt q.payload 4).toNat) :
    portRecordOf q = none := by
  simp only [portRecordOf]
  obtain h | h := h
  · rw [if_neg (by omega)]
  · split
    · rw [if_neg (by omega), if_neg (by omega), if_neg (by omega)]
    · rfl

end staging

/-- Settles O40: each staging command is one claim, which stores the image that its checks have let pass. -/
theorem stagingStoresWholeImages : Obligations.StagingStoresWholeImages := by
  intro s p q hpin hcount hnext hturn hfull t
  have run {row : Request → Bool} {body : Body} {claim : State → Status × State} {cmd : Command}
      (hcmd : Command.ofCode q.code = some cmd) (hrow : row q = true) (hbody : body p q = answering claim) :
      running (serve row body) s = .next (respond p q (bare (claim t).1) (claim t).2) :=
    Pacing.running_serve_answering hpin hcount hnext hturn hrow (hfull ▸ Pacing.privilegeFailure_full hcmd) hbody
  refine ⟨fun i hcode hi => ?stream, fun hcode => ?device, fun x hcode hx => ?port⟩
  case stream =>
    have hcmd := ofCode_stageStream hcode
    have hbody : bodyStageStream p q = answering (stageStream i (streamImageAt q.payload 3)) := by
      simp only [bodyStageStream, withStream, withTarget, hi, Pacing.streamOfNat_val]
    have hrun : exec .stageStream s = _ := run hcmd (Pacing.isCommand_of_ofCode hcmd) hbody
    exact ⟨fun m hm => by rw [hrun, hm, stageStream], fun hm => by rw [hrun, hm, stageStream]⟩
  case device =>
    have hcmd := ofCode_stageDevice hcode
    have hrun : exec .stageDevice s = _ := run hcmd (Pacing.isCommand_of_ofCode hcmd) rfl
    exact ⟨fun d hd => by rw [hrun, hd, stageDevice], fun hd => by rw [hrun, hd, stageDevice]⟩
  case port =>
    have hcmd := ofCode_stagePort hcode
    have hbody : bodyStagePort p q = answering (stagePort x (portRecordOf q)) := by
      simp only [bodyStagePort, withPort, withTarget, hx, Pacing.portOfNat_val]
    have hrun : exec .stagePort s = _ := run hcmd (Pacing.isCommand_of_ofCode hcmd) hbody
    exact ⟨fun ha hl => by rw [hrun, portRecordOf_good ha hl, stagePort],
      fun h => by rw [hrun, portRecordOf_bad h, stagePort]⟩

/-! ### The checks of the images (R114, R115, R169, R170) -/

section streamImage
variable (t : Payload) (k : Nat)

/-- The image that the octets from `k` spell, its port and group in range. -/
def streamImageOf (port : PortNo) (group : GroupNo) : StreamImage where
  sourcePort := port
  group := group
  queueLimit := (octetAt t (k + 2)).toNat
  reload := word16At t (k + 6)
  leadPoint := if (octetAt t (k + 5)).getLsbD 0 then some (word16At t (k + 8)) else none
  creditCap := (octetAt t (k + 3)).toNat
  initialCredit := (octetAt t (k + 4)).toNat
  holdTime := word16At t (k + 10)
  sequenceCheck := (octetAt t (k + 5)).getLsbD 1
  runAtOpen := (octetAt t (k + 5)).getLsbD 2
  reportMask := (octetAt t (k + 12)).extractLsb' 0 6

/-- The fields of a stream image but for its port and group lie in their ranges. -/
def StreamFieldsInRange : Prop :=
  1 ≤ (octetAt t (k + 2)).toNat ∧ 1 ≤ word16At t (k + 6)
    ∧ (if (octetAt t (k + 5)).getLsbD 0 then some (word16At t (k + 8)) else none).getD 0 ≤ word16At t (k + 6)
    ∧ 1 ≤ (octetAt t (k + 3)).toNat ∧ (octetAt t (k + 3)).toNat ≤ 15
    ∧ (octetAt t (k + 4)).toNat ≤ (octetAt t (k + 3)).toNat ∧ word16At t (k + 10) ≤ 4095

/-- An absent lead point lies in range. -/
theorem leadPoint_le_iff (present : Bool) (lead reload : Nat) :
    (if present then some lead else none).getD 0 ≤ reload ↔ (present = true → lead ≤ reload) := by
  cases present <;> simp

variable {t k}

theorem portOfNat_of_lt {n : Nat} (h : n < 6) : portOfNat n = some ⟨n, h⟩ := dif_pos h

theorem portOfNat_of_ge {n : Nat} (h : ¬ n < 6) : portOfNat n = none := dif_neg h

theorem streamImageAt_inRange (hport : (octetAt t k).toNat < 6) (hgroup : (octetAt t (k + 1)).toNat < 4)
    (h : StreamFieldsInRange t k) : streamImageAt t k = some (streamImageOf t k ⟨_, hport⟩ ⟨_, hgroup⟩) := by
  simp only [streamImageAt, portOfNat_of_lt hport, dif_pos hgroup]
  exact if_pos h

theorem streamImageAt_outOfRange
    (h : ¬ ((octetAt t k).toNat < 6 ∧ (octetAt t (k + 1)).toNat < 4 ∧ StreamFieldsInRange t k)) :
    streamImageAt t k = none := by
  by_cases hport : (octetAt t k).toNat < 6
  · by_cases hgroup : (octetAt t (k + 1)).toNat < 4
    · simp only [streamImageAt, portOfNat_of_lt hport, dif_pos hgroup]
      exact if_neg fun hfields => h ⟨hport, hgroup, hfields⟩
    · simp only [streamImageAt, portOfNat_of_lt hport, dif_neg hgroup]
  · simp only [streamImageAt, portOfNat_of_ge hport]

end streamImage

section deviceImage
variable (t : Payload) (k : Nat)

/-- The device parameter set that the octets from `k` spell. -/
def deviceImageOf (reportPort : Option PortNo) : DeviceParams where
  paceMultiplier := word16At t k
  budgetCount := (octetAt t (k + 2)).toNat
  budgetWindow := word16At t (k + 3)
  bindSpacing := word16At t (k + 5)
  answerTimeout := word16At t (k + 7)
  refusalLimit := (octetAt t (k + 9)).toNat
  settleInterval := (octetAt t (k + 10)).toNat
  commitTimeout := word16At t (k + 11)
  reportPort := reportPort
  groupMap := groupMapAt t (k + 14)
  laneMask := (octetAt t (k + 18)).extractLsb' 0 4
  portMask := (octetAt t (k + 19)).extractLsb' 0 6
  deviceMask := (octetAt t (k + 20)).extractLsb' 0 4

/-- The fields of a device parameter image but for its report port lie in their ranges. -/
def DeviceFieldsInRange : Prop :=
  1 ≤ word16At t k ∧ word16At t k ≤ 1000 ∧ 1 ≤ (octetAt t (k + 2)).toNat ∧ (octetAt t (k + 2)).toNat ≤ 8
    ∧ 1 ≤ word16At t (k + 3) ∧ word16At t (k + 5) ≤ 4095 ∧ word16At t (k + 5) ≤ word16At t (k + 3)
    ∧ 1 ≤ word16At t (k + 7) ∧ word16At t (k + 7) ≤ 4095 ∧ 1 ≤ (octetAt t (k + 9)).toNat
    ∧ (octetAt t (k + 9)).toNat ≤ 7 ∧ 1 ≤ word16At t (k + 11)

theorem read_groupMapAt (j : Nat) (l : LaneNo) :
    ((groupMapAt t (k + j)).read l).val = (octetAt t (k + (j + l.val / 4))).toNat / 4 ^ (l.val % 4) % 4 := by
  simp [Table.read, groupMapAt, mapGroupAt, Nat.add_assoc]

variable {t k} {o : Byte}

theorem reportPortOf_none (h : o.toNat = 255) : reportPortOf o = some none := if_pos (BitVec.eq_of_toNat_eq h)

theorem reportPortOf_port {x : PortNo} (h : o.toNat = x.val) : reportPortOf o = some (some x) := by
  have hne : o ≠ 0xFF := by
    rintro rfl
    exact absurd (h ▸ x.isLt) (by decide)
  rw [reportPortOf, if_neg hne, h, Pacing.portOfNat_val]
  rfl

theorem reportPortOf_bad (h : ¬ (o.toNat ≤ 5 ∨ o.toNat = 255)) : reportPortOf o = none := by
  obtain ⟨hport, hnone⟩ := not_or.1 h
  have hne : o ≠ 0xFF := by
    rintro rfl
    exact hnone rfl
  rw [reportPortOf, if_neg hne, portOfNat_of_ge (by omega)]
  rfl

theorem reportPortOf_good (h : o.toNat ≤ 5 ∨ o.toNat = 255) : ∃ reportPort, reportPortOf o = some reportPort :=
  h.elim (fun hport => ⟨_, reportPortOf_port (x := ⟨o.toNat, by omega⟩) rfl⟩) fun hnone => ⟨_, reportPortOf_none hnone⟩

theorem deviceImageAt_inRange {reportPort : Option PortNo} (hport : reportPortOf (octetAt t (k + 13)) = some reportPort)
    (h : DeviceFieldsInRange t k) : deviceImageAt t k = some (deviceImageOf t k reportPort) := by
  simp only [deviceImageAt, hport]
  exact if_pos h

theorem deviceImageAt_badPort (hport : reportPortOf (octetAt t (k + 13)) = none) : deviceImageAt t k = none := by
  simp only [deviceImageAt, hport]

theorem deviceImageAt_outOfRange (h : ¬ DeviceFieldsInRange t k) : deviceImageAt t k = none := by
  cases hport : reportPortOf (octetAt t (k + 13)) with
  | none => exact deviceImageAt_badPort hport
  | some reportPort =>
    simp only [deviceImageAt, hport]
    exact if_neg h

end deviceImage

/-- The low bits of a mask are those of its octet (R169, R170). -/
theorem getLsbD_mask {w : Nat} (o : Byte) (b : Fin w) : (o.extractLsb' 0 w).getLsbD b.val = o.getLsbD b.val := by
  rw [BitVec.getLsbD_extractLsb', Nat.zero_add, decide_eq_true b.isLt, Bool.true_and]

/-- Settles O39: the checks of an image are the ranges of its fields, and its fields are the octets. -/
theorem imagesChecked : Obligations.ImagesChecked := by
  refine ⟨fun t k => ?stream, fun t k => ?device⟩
  case stream =>
    intro octet pair flag valid
    have hvalid : valid ↔ octet 0 < 6 ∧ octet 1 < 4 ∧ StreamFieldsInRange t k := by
      unfold StreamFieldsInRange
      rw [leadPoint_le_iff]
      constructor
      · rintro ⟨hport, hgroup, hlimit, hcap1, hcap, hcredit, hreload, hlead, hhold⟩
        exact ⟨Nat.lt_succ_of_le hport, Nat.lt_succ_of_le hgroup, hlimit, hreload, hlead, hcap1, hcap, hcredit, hhold⟩
      · rintro ⟨hport, hgroup, hlimit, hreload, hlead, hcap1, hcap, hcredit, hhold⟩
        exact ⟨Nat.le_of_lt_succ hport, Nat.le_of_lt_succ hgroup, hlimit, hcap1, hcap, hcredit, hreload, hlead, hhold⟩
    refine ⟨fun h => streamImageAt_outOfRange fun hin => h (hvalid.2 hin), fun h => ?_⟩
    obtain ⟨hport, hgroup, hfields⟩ := hvalid.1 h
    exact ⟨_, streamImageAt_inRange hport hgroup hfields, rfl, rfl, rfl, rfl, rfl, rfl, rfl, rfl, rfl, rfl,
      getLsbD_mask _⟩
  case device =>
    intro octet pair valid
    have hvalid : valid ↔ DeviceFieldsInRange t k ∧ (octet 13 ≤ 5 ∨ octet 13 = 255) := by
      simp only [valid, DeviceFieldsInRange, and_assoc]
      rfl
    refine ⟨fun h => ?_, fun h => ?_⟩
    · obtain hfields | hport := not_and_or.1 fun hin => h (hvalid.2 hin)
      · exact deviceImageAt_outOfRange hfields
      · exact deviceImageAt_badPort (reportPortOf_bad hport)
    · obtain ⟨hfields, hrange⟩ := hvalid.1 h
      obtain ⟨reportPort, hport⟩ := reportPortOf_good hrange
      exact ⟨_, deviceImageAt_inRange hport hfields, rfl, rfl, rfl, rfl, rfl, rfl, rfl, rfl,
        fun hnone => Option.some.inj (hport.symm.trans (reportPortOf_none hnone)),
        fun x hx => Option.some.inj (hport.symm.trans (reportPortOf_port hx)), read_groupMapAt t k 14,
        fun b => ⟨getLsbD_mask _ b, getLsbD_mask _ b⟩, getLsbD_mask _⟩

end Sys2Proof.Proofs.Staging

/-! The notice unit and what leaves on an edge port: what a raise counts, creates and reports, the removal of entries by
ACK-NOTICE, and the cell of an edge port's slot. -/

namespace Sys2Proof.Proofs.Notices

open Sys2Proof Sys2Proof.Machine

/-! ### Which way a raise goes (R132 to R134) -/

section raises
variable {s : State} {pt : CausePoint}

/-- A raise that finds its entry counts it, REPORT_LOST as any other cause (R132). -/
theorem raise_found {e : NoticeEntry} (h : s.entry pt = some e) : raise pt s = countAgain pt e s := by
  unfold raise
  split
  · next hpt =>
    subst hpt
    simp only [raiseReportLost, h]
  · simp only [raiseOrdinary, h]

/-- A raise that finds its entry leaves the report queue but for the report linked to the entry (R132, R135). -/
theorem reports_countAgain (pt : CausePoint) (e : NoticeEntry) (s : State) :
    (countAgain pt e s).reports =
      s.reports.map fun r =>
        if r.point = pt ∧ r.linked = true then { r with occurrences := min 255 (e.occurrences + 1) } else r := by
  rw [countAgain, setEntry_reports]
  rfl

@[simp] theorem reports_createEntry (pt : CausePoint) (s : State) : (createEntry pt s).reports = s.reports :=
  setEntry_reports s pt _

@[simp] theorem params_createEntry (pt : CausePoint) (s : State) : (createEntry pt s).params = s.params :=
  setEntry_params s pt _

@[simp] theorem causeEnabled_createEntry (pt pt' : CausePoint) (s : State) :
    (createEntry pt s).causeEnabled pt' = s.causeEnabled pt' := causeEnabled_setEntry s pt pt' _

@[simp] theorem ordinaryQueued_createEntry (pt : CausePoint) (s : State) :
    (createEntry pt s).ordinaryQueued = s.ordinaryQueued := by
  rw [State.ordinaryQueued, reports_createEntry, State.ordinaryQueued]

@[simp] theorem paceCount_createEntry (pt : CausePoint) (s : State) : (createEntry pt s).paceCount = s.paceCount :=
  setEntry_paceCount s pt _

theorem reports_queueReport (pt : CausePoint) (s : State) :
    (queueReport pt s).reports = s.reports ++ [⟨pt, s.paceCount, 1, true⟩] := rfl

/-- The raise of REPORT_LOST where it creates its entry: reported where it is enabled and no report of it waits
(R134). -/
theorem reports_raiseReportLost_created (h : s.entry reportLostPoint = none) (hport : s.params.reportPort ≠ none) :
    (raiseReportLost s).reports =
      if s.causeEnabled reportLostPoint = true ∧ ∀ r ∈ s.reports, r.point ≠ reportLostPoint
      then s.reports ++ [⟨reportLostPoint, s.paceCount, 1, true⟩] else s.reports := by
  simp only [raiseReportLost, h, causeEnabled_createEntry, params_createEntry, reports_createEntry,
    Option.isSome_iff_ne_none.2 hport, Bool.and_true, Bool.and_eq_true, List.all_eq_true, decide_eq_true_eq]
  split
  · rw [reports_queueReport, reports_createEntry, paceCount_createEntry]
  · exact reports_createEntry reportLostPoint s

section created
variable (hpt : pt ≠ reportLostPoint) (hnone : s.entry pt = none)
include hpt hnone

/-- The creation of an ordinary cause's entry, without a report (R133). -/
theorem raise_unreported (h : s.causeEnabled pt = false ∨ s.params.reportPort = none) :
    raise pt s = createEntry pt s := by
  obtain h | h := h <;> simp [raise, hpt, raiseOrdinary, hnone, h]

theorem raise_reported (henabled : s.causeEnabled pt = true) (hport : s.params.reportPort ≠ none)
    (hroom : s.ordinaryQueued < 31) : raise pt s = queueReport pt (createEntry pt s) := by
  simp [raise, hpt, raiseOrdinary, hnone, henabled, Option.isSome_iff_ne_none.2 hport, Config.ordinaryReports, hroom]

/-- With 31 ordinary reports waiting the report finds no place (R133, R134). -/
theorem raise_discarded (henabled : s.causeEnabled pt = true) (hport : s.params.reportPort ≠ none)
    (hfull : 31 ≤ s.ordinaryQueued) : raise pt s = raiseReportLost (createEntry pt s) := by
  simp [raise, hpt, raiseOrdinary, hnone, henabled, Option.isSome_iff_ne_none.2 hport, Config.ordinaryReports,
    Nat.not_lt.2 hfull]

end created

end raises

/-- Settles O7: the entry of the cause is counted or created, and the frame is that of every raise. -/
theorem raiseCountsOrCreates : Obligations.RaiseCountsOrCreates := by
  refine fun s pt pt' => ⟨?entry, fun e he => ?reports, fun hne hlost => ?others, raise_sansNotices s pt⟩
  case entry =>
    rw [entry_raise_same]
    cases s.entry pt <;> rfl
  case reports => rw [raise_found he, reports_countAgain]
  case others => rw [entry_raise s pt pt' hlost, if_neg (Ne.symm hne)]

/-- Settles O8, by whether the created entry is to be reported, and whether its report finds a place. -/
theorem raiseQueuesReports : Obligations.RaiseQueuesReports := by
  refine fun s pt hpt hnone => ⟨fun hno => ?unreported, fun henabled hport => ⟨fun hroom => ?reported, fun hfull => ?_⟩⟩
  case unreported => rw [raise_unreported hpt hnone hno, reports_createEntry]
  case reported =>
    rw [raise_reported hpt hnone henabled hport hroom, reports_queueReport, reports_createEntry, paceCount_createEntry]
  have hlost : (createEntry pt s).entry reportLostPoint = s.entry reportLostPoint :=
    (entry_createEntry s pt reportLostPoint).trans (if_neg hpt)
  rw [raise_discarded hpt hnone henabled hport hfull]
  refine ⟨?counted, fun e he => ?follows, fun hlostNone => ?queues⟩
  case counted =>
    have hentry := entry_raiseReportLost (createEntry pt s) reportLostPoint
    rwa [if_pos rfl, hlost, paceCount_createEntry] at hentry
  case follows =>
    have hcount : raiseReportLost (createEntry pt s) = countAgain reportLostPoint e (createEntry pt s) :=
      raise_found (hlost.trans he)
    rw [hcount, reports_countAgain, reports_createEntry]
    rfl
  case queues =>
    rw [reports_raiseReportLost_created (hlost.trans hlostNone) (by rwa [params_createEntry]), causeEnabled_createEntry,
      reports_createEntry, paceCount_createEntry]
    rfl

/-! ### ACK-NOTICE (R135, R138) -/

/-- The causes of a level at a target are different ones. -/
theorem points_nodup (n : NoticeTarget) : n.points.Nodup := by
  cases n with
  | device => decide
  | port p => exact List.Nodup.map (fun _ _ h => (CausePoint.port.inj h).2) (by decide)
  | lane l => exact List.Nodup.map (fun _ _ h => (CausePoint.lane.inj h).2) (by decide)
  | stream i => exact List.Nodup.map (fun _ _ h => (CausePoint.stream.inj h).2) (by decide)

/-- A mask of causes of the level names those whose bits it has (R171). -/
theorem namedCauses_good {n : NoticeTarget} {mask : Nat} (h : mask < 2 ^ n.points.length) :
    ∃ pts, namedCauses n mask = some pts
      ∧ ∀ pt, pt ∈ pts ↔ ∃ k, n.points[k]? = some pt ∧ mask.testBit k = true :=
  ⟨_, if_pos h, fun pt => by simp [List.mem_zipIdx_iff_getElem?]⟩

theorem namedCauses_bad {n : NoticeTarget} {mask : Nat} (h : 2 ^ n.points.length ≤ mask) : namedCauses n mask = none :=
  if_neg (Nat.not_lt.2 h)

/-- The removals of one ACK-NOTICE, in the order of the causes. -/
def removeNotices (pts : List CausePoint) (s : State) : State := pts.foldl (fun s pt => removeNotice pt s) s

/-- A report loses its link when the entry of its cause is among those removed (R135). -/
def unlinkAny (pts : List CausePoint) (r : Report) : Report := if r.point ∈ pts then { r with linked := false } else r

section removal
variable (s : State) (pt : CausePoint) (pts : List CausePoint)

theorem entry_removeNotice (pt' : CausePoint) :
    (removeNotice pt s).entry pt' = if pt = pt' then none else s.entry pt' := by
  rw [removeNotice, entry_reports, entry_setEntry]

theorem reports_removeNotice : (removeNotice pt s).reports = s.reports.map (Report.unlink pt) := by
  rw [removeNotice, setEntry_reports]

/-- The removal of some entries removes those and no other. -/
theorem entry_removeNotices : (removeNotices pts s).entry pt = if pt ∈ pts then none else s.entry pt := by
  induction pts generalizing s with
  | nil => rfl
  | cons x xs ih =>
    have hstep : removeNotices (x :: xs) s = removeNotices xs (removeNotice x s) := rfl
    rw [hstep, ih, entry_removeNotice]
    by_cases hx : x = pt
    · simp [hx]
    · simp [hx, Ne.symm hx]

theorem unlinkAny_unlink (r : Report) : unlinkAny pts (r.unlink pt) = unlinkAny (pt :: pts) r := by
  by_cases hpt : r.point = pt <;> by_cases hpts : r.point ∈ pts <;> simp [unlinkAny, Report.unlink, hpt, hpts]

theorem unlinkAny_nil : unlinkAny [] = id := funext fun _ => if_neg List.not_mem_nil

/-- The removal of some entries ends the links of their reports, and each report stays where it waits. -/
theorem reports_removeNotices : (removeNotices pts s).reports = s.reports.map (unlinkAny pts) := by
  induction pts generalizing s with
  | nil => simp [removeNotices, unlinkAny_nil]
  | cons x xs ih =>
    have hstep : removeNotices (x :: xs) s = removeNotices xs (removeNotice x s) := rfl
    rw [hstep, ih, reports_removeNotice, List.map_map]
    exact List.map_congr_left fun r _ => unlinkAny_unlink x xs r

theorem sansNotices_removeNotices : (removeNotices pts s).sansNotices = s.sansNotices := by
  induction pts generalizing s with
  | nil => rfl
  | cons x xs ih => exact (ih _).trans (removeNotice_sansNotices s x)

/-- What a report says does not change with its link. -/
theorem content_unlinkAny (r : Report) :
    ((unlinkAny pts r).point, (unlinkAny pts r).first, (unlinkAny pts r).occurrences) =
      (r.point, r.first, r.occurrences) := by
  unfold unlinkAny
  split <;> rfl

theorem unlinkAny_linked {pts : List CausePoint} {r : Report} (h : (unlinkAny pts r).point ∈ pts) :
    (unlinkAny pts r).linked = false := by
  have hpoint : (unlinkAny pts r).point = r.point := congrArg (·.1) (content_unlinkAny pts r)
  rw [unlinkAny, if_pos (hpoint ▸ h)]

end removal

section ackNotice
variable {n : NoticeTarget} {mask : Nat} {pts : List CausePoint}

theorem ackNotice_named (h : namedCauses n mask = some pts) (s : State) :
    ackNotice n mask s = (.done, removeNotices pts s) := by simp only [ackNotice, h, removeNotices]

theorem ackNotice_refused (h : namedCauses n mask = none) (s : State) : ackNotice n mask s = (.badValue, s) := by
  simp only [ackNotice, h]

theorem bodyAckNotice_eq {p : PortNo} {q : Request} (h : noticeTargetOf q = some n) :
    bodyAckNotice p q = answering (ackNotice n (octetAt q.payload 3).toNat) := by
  simp only [bodyAckNotice, withTarget, h]

end ackNotice

/-- Settles O9: ACK-NOTICE is one claim, which removes the entries of the causes that its mask names. -/
theorem ackNoticeRemovesNamedEntries : Obligations.AckNoticeRemovesNamedEntries := by
  intro s p q n hpin hcount hnext hturn hfull hcode htarget t mask
  have hcmd : Command.ofCode q.code = some .ackNotice := by rw [hcode]; rfl
  have hrun : exec .ackNotice s =
      .next (respond p q (bare (ackNotice n mask t).1) (ackNotice n mask t).2) :=
    Pacing.running_serve_answering hpin hcount hnext hturn (Pacing.isCommand_of_ofCode hcmd)
      (hfull ▸ Pacing.privilegeFailure_full hcmd) (bodyAckNotice_eq htarget)
  refine ⟨fun hbad => by rw [hrun, ackNotice_refused (namedCauses_bad hbad)], fun hgood => ?_⟩
  obtain ⟨pts, hnamed, hmem⟩ := namedCauses_good hgood
  have hentry (pt : CausePoint) : (removeNotices pts t).entry pt = if pt ∈ pts then none else s.entry pt := by
    rw [entry_removeNotices, Pacing.entry_taken]
  have hbit {k : Nat} {pt : CausePoint} (hk : n.points[k]? = some pt) : pt ∈ pts ↔ mask.testBit k = true := by
    refine (hmem pt).trans ⟨?_, fun h => ⟨k, hk, h⟩⟩
    rintro ⟨j, hj, hset⟩
    have hjk : j = k := (List.getElem?_inj (List.getElem?_eq_some_iff.1 hj).1 (points_nodup n)).1 (hj.trans hk.symm)
    exact hjk ▸ hset
  refine ⟨removeNotices pts t, by rw [hrun, ackNotice_named hnamed], fun k pt hk => ?named, fun pt hpt => ?others,
    fun r hr k hk hset => ?unlinked, ?queued, sansNotices_removeNotices t pts⟩
  case named => simp only [hentry, hbit hk]
  case others =>
    refine (hentry pt).trans (if_neg fun h => ?_)
    obtain ⟨k, hk, -⟩ := (hmem pt).1 h
    exact hpt (List.mem_of_getElem? hk)
  case unlinked =>
    rw [reports_removeNotices] at hr
    obtain ⟨r, -, rfl⟩ := List.mem_map.1 hr
    exact unlinkAny_linked ((hbit hk).2 hset)
  case queued =>
    rw [reports_removeNotices, List.map_map]
    exact List.map_congr_left fun r _ => content_unlinkAny pts r

/-! ### The slot of an edge port (R136, R144) -/

section edgeSlot
variable {s : State} {p : PortNo}

theorem edgeSlot_down (h : (s.port p).aligned = false) : edgeSlot p s = s := by simp [edgeSlot, h]

section up
variable (hup : (s.port p).aligned = true)
include hup

/-- Responses go before reports (R144). -/
theorem edgeSlot_response {a : Response} {rest : List Response} (h : (s.port p).responses = a :: rest) :
    edgeSlot p s = sendOnPort p a.cell (s.modPort p fun r => { r with responses := rest }) := by
  simp only [edgeSlot, hup, if_true, h]

variable (hidle : (s.port p).responses = [])
include hidle

theorem edgeSlot_report {rep : Report} {rest : List Report} (hport : s.params.reportPort = some p)
    (h : s.reports = rep :: rest) : edgeSlot p s = sendOnPort p rep.cell { s with reports := rest } := by
  simp only [edgeSlot, hup, if_true, hidle, hport, h]

theorem edgeSlot_fill (h : s.params.reportPort ≠ some p ∨ s.reports = []) :
    edgeSlot p s = sendOnPort p (fillCell 0) s := by
  simp only [edgeSlot, hup, if_true, hidle]
  obtain hport | hreports := h
  · rw [if_neg hport]
  · simp only [hreports, ite_self]

end up

end edgeSlot

/-- Settles O12, by what waits for the port: a response, else a report, else nothing. -/
theorem edgeSlotSends : Obligations.EdgeSlotSends := by
  intro s p hpin hcount
  have run : exec (.edgeSlot p) s = .next (edgeSlot p s) := running_counted hpin hcount
  refine ⟨fun hdown => ?down, fun hup => ⟨fun a rest ha => ?response, fun hidle =>
    ⟨fun rep rest hport hrep => ?report, fun hnone => ?fill⟩⟩⟩
  case down => rw [run, edgeSlot_down hdown]
  case response =>
    rw [run, edgeSlot_response hup ha, sendOnPort, modPort_modPort]
    obtain ⟨tag, status, payload⟩ := a
    cases status <;> rfl
  case report =>
    rw [run, edgeSlot_report hup hidle hport hrep]
    rfl
  case fill =>
    rw [run, edgeSlot_fill hup hidle hnone]
    rfl

end Sys2Proof.Proofs.Notices

/-! The management agent's statements: the arrival of a request, the checks that a request passes, and the course of its
execution from the taking to the response. -/

namespace Sys2Proof.Proofs.Agent

open Sys2Proof Sys2Proof.Machine

/-! ### The arrival of a request (R143) -/

theorem placesUsed_eq (r : PortRec) : r.placesUsed = r.responses.length + if r.reserved then 1 else 0 := by
  cases h : r.reserved <;> simp [PortRec.placesUsed, h]

theorem responsesFull_eq_false_iff (r : PortRec) :
    r.responsesFull = false ↔ r.responses.length + (if r.reserved then 1 else 0) < 8 := by
  rw [← placesUsed_eq, PortRec.responsesFull, decide_eq_false_iff_not, Nat.not_le]
  rfl

section arrival
variable {s : State} {p : PortNo} (q : Request)

theorem requestArrival_joined (h : (s.port p).requests.length < 4) :
    requestArrival p q s = s.modPort p fun r => { r with requests := r.requests ++ [q] } := if_pos h

theorem requestArrival_busy (h : 4 ≤ (s.port p).requests.length) (hroom : (s.port p).responsesFull = false) :
    requestArrival p q s = s.modPort p fun r => { r with responses := r.responses ++ [busyResponse q] } :=
  (if_neg (Nat.not_lt.2 h)).trans (if_pos (by rw [hroom]; rfl))

theorem requestArrival_lost (h : 4 ≤ (s.port p).requests.length) (hfull : (s.port p).responsesFull = true) :
    requestArrival p q s = raise (.port p .mgmtOverrun) s :=
  (if_neg (Nat.not_lt.2 h)).trans (if_neg (by simp [hfull]))

/-- A request that comes in on an ALIGNED port, whose counts alone have changed (R161). -/
theorem exec_requestArrival (hpin : s.resetPin = false) (hcount : s.uncounted = false)
    (haligned : (s.port p).aligned = true) :
    exec (.requestCellArrival p q) s = .next (requestArrival p q (Admission.received p s)) := by
  have run : exec (.requestCellArrival p q) s = .next (onEdgeCell p (requestArrival p q) s) :=
    running_counted hpin hcount
  rw [run, onEdgeCell, if_pos haligned]
  rfl

theorem port_received (p : PortNo) (s : State) :
    (Admission.received p s).port p = { s.port p with received := (s.port p).received + 1, failures := 0 } :=
  port_modPort_same s p fun r => { r with received := r.received + 1, failures := 0 }

end arrival

/-- Settles O16, by the room in the port's two queues, which the receiving of the cell leaves. -/
theorem requestArrivalByQueues : Obligations.RequestArrivalByQueues := by
  intro s p q hpin hcount haligned arrived places
  have hport := port_received p s
  have hrequests : ((Admission.received p s).port p).requests = (s.port p).requests := by rw [hport]
  have hroom : ((Admission.received p s).port p).responsesFull = false ↔ places < 8 := by
    rw [hport]
    exact responsesFull_eq_false_iff (s.port p)
  rw [exec_requestArrival q hpin hcount haligned]
  refine ⟨fun hjoins => ?joined, fun hwaits hfree => ?busy, fun hwaits hfull => ?lost⟩
  case joined =>
    rw [requestArrival_joined q (hrequests ▸ hjoins)]
    rfl
  case busy =>
    rw [requestArrival_busy q (hrequests ▸ hwaits) (hroom.2 hfree)]
    rfl
  case lost =>
    have hnone : ((Admission.received p s).port p).responsesFull = true := by
      rw [← Bool.not_eq_false, hroom]
      exact Nat.not_lt.2 hfull
    rw [requestArrival_lost q (hrequests ▸ hwaits) hnone]
    rfl

/-! ### Command codes (R168) -/

/-- The code of a command. -/
def codeOf : Command → Byte
  | .readDevice => 0x01
  | .readPort => 0x02
  | .readLane => 0x03
  | .readStream => 0x04
  | .readNotices => 0x05
  | .stageDevice => 0x06
  | .stagePort => 0x07
  | .stageStream => 0x08
  | .discard => 0x09
  | .commit => 0x0A
  | .openStream => 0x0B
  | .closeStream => 0x0C
  | .clearHold => 0x0D
  | .timerControl => 0x0E
  | .ackNotice => 0x0F
  | .laneControl => 0x10
  | .restart => 0x11

theorem ofCode_codeOf (c : Command) : Command.ofCode (codeOf c) = some c := by cases c <;> rfl

theorem codeOf_of_ofCode {b : Byte} {c : Command} (h : Command.ofCode b = some c) : b = codeOf c := by
  have row {k : Byte} {x : Command} {rest : Option Command} (h : (if b = k then some x else rest) = some c) :
      (b = k ∧ x = c) ∨ rest = some c := by
    split at h
    · next hb => exact .inl ⟨hb, Option.some.inj h⟩
    · exact .inr h
  unfold Command.ofCode at h
  iterate 17
    obtain ⟨rfl, rfl⟩ | h := row h
    · rfl
  cases h

theorem ofCode_eq_some_iff {b : Byte} {c : Command} : Command.ofCode b = some c ↔ b = codeOf c :=
  ⟨codeOf_of_ofCode, fun h => h ▸ ofCode_codeOf c⟩

/-- The seventeen codes are 0x01 to 0x11. -/
theorem ofCode_eq_none_iff (b : Byte) : Command.ofCode b = none ↔ b = 0 ∨ 0x11 < b.toNat := by
  unfold Command.ofCode
  simp only [ite_eq_iff, reduceCtorEq, and_false, false_or, and_true]
  bv_omega

/-- The READs are the commands of codes 0x01 to 0x05. -/
theorem isRead_iff (c : Command) : c.isRead = true ↔ (codeOf c).toNat ≤ 5 := by cases c <;> decide

/-- The codes of the commands that carry a selector (R168, R172). -/
def selectorCodes : List Byte := [0x01, 0x02, 0x03, 0x04, 0x09, 0x0A, 0x0C, 0x0E, 0x10]

theorem hasSelector_iff (c : Command) : c.hasSelector = true ↔ codeOf c ∈ selectorCodes := by cases c <;> decide

theorem ofCode_selectorCodes : ∀ b ∈ selectorCodes, Command.ofCode b ≠ none := by decide

theorem isCommand_eq (c : Command) (q : Request) : isCommand c q = (q.code == codeOf c) := by
  rw [isCommand, Bool.eq_iff_iff, beq_iff_eq, beq_iff_eq, ofCode_eq_some_iff]

theorem isUnknown_eq (q : Request) : isUnknown q = (q.code == 0 || decide (0x11 < q.code.toNat)) := by
  rw [isUnknown, Bool.eq_iff_iff, Option.isNone_iff_eq_none, ofCode_eq_none_iff, Bool.or_eq_true, beq_iff_eq,
    decide_eq_true_iff]

theorem readsOnly_iff {q : Request} {c : Command} (h : Command.ofCode q.code = some c) :
    readsOnly q = true ↔ q.code.toNat ≤ 5 := by
  rw [readsOnly, h, codeOf_of_ofCode h]
  exact isRead_iff c

/-! ### The rows of the management commands (R168, R172) -/

/-- What a management command makes of a request of its row. -/
def bodyOf : Instr → Body
  | .readDevice => bodyReadDevice
  | .readPort => bodyReadPort
  | .readLane => bodyReadLane
  | .readStream => bodyReadStream
  | .readNotices => bodyReadNotices
  | .stageDevice => bodyStageDevice
  | .stagePort => bodyStagePort
  | .stageStream => bodyStageStream
  | .discard => bodyDiscard
  | .commit => bodyCommit
  | .openStream => bodyOpenStream
  | .closeStream => bodyCloseStream
  | .closeStreamDiscard => bodyCloseStreamDiscard
  | .clearHold => bodyClearHold
  | .timerControlRun => bodyTimerRun
  | .timerControlStop => bodyTimerStop
  | .timerControlPreset => bodyTimerPreset
  | .ackNotice => bodyAckNotice
  | .laneControlEnable => bodyLaneEnable
  | .laneControlDisable => bodyLaneDisable
  | .laneControlRetire => bodyLaneRetire
  | .laneControlRecover => bodyLaneRecover
  | .restart => bodyRestart
  | _ => bodyUnknown

theorem running_serve_congr {row row' : Request → Bool} {body : Body} (h : ∀ q, row q = row' q) (s : State) :
    running (serve row body) s = running (serve row' body) s := by rw [funext h]

/-- Every management command is the agent's serving of the requests of its row. -/
theorem exec_management {c : Instr} (h : c.isManagement = true) (s : State) :
    exec c s = running (serve c.takes (bodyOf c)) s := by
  cases c with
  | readDevice | readPort | readLane | readStream | readNotices | stageDevice | stagePort | stageStream | discard
  | commit | openStream | clearHold | ackNotice | restart => exact running_serve_congr (isCommand_eq _) s
  | closeStream | closeStreamDiscard | timerControlRun | timerControlStop | timerControlPreset | laneControlEnable
  | laneControlDisable | laneControlRetire | laneControlRecover =>
    exact running_serve_congr (fun q => congrArg (· && _) (isCommand_eq _ q)) s
  | unknownCommandCode => exact running_serve_congr isUnknown_eq s
  | _ => cases h

/-- The command that a row is of; the codes that are none have a row of their own (R146). -/
def commandOf : Instr → Option Command
  | .readDevice => some .readDevice
  | .readPort => some .readPort
  | .readLane => some .readLane
  | .readStream => some .readStream
  | .readNotices => some .readNotices
  | .stageDevice => some .stageDevice
  | .stagePort => some .stagePort
  | .stageStream => some .stageStream
  | .discard => some .discard
  | .commit => some .commit
  | .openStream => some .openStream
  | .closeStream | .closeStreamDiscard => some .closeStream
  | .clearHold => some .clearHold
  | .timerControlRun | .timerControlStop | .timerControlPreset => some .timerControl
  | .ackNotice => some .ackNotice
  | .laneControlEnable | .laneControlDisable | .laneControlRetire | .laneControlRecover => some .laneControl
  | .restart => some .restart
  | _ => none

theorem isManagement_iff (c : Instr) : c.isManagement = true ↔ c = .unknownCommandCode ∨ commandOf c ≠ none := by
  cases c <;> simp [Instr.isManagement, commandOf]

section takes
variable {c : Instr} {q : Request} (h : c.takes q = true)
include h

theorem isManagement_of_takes : c.isManagement = true := by
  cases c with
  | readDevice | readPort | readLane | readStream | readNotices | stageDevice | stagePort | stageStream | discard
  | commit | openStream | clearHold | ackNotice | restart | closeStream | closeStreamDiscard | timerControlRun
  | timerControlStop | timerControlPreset | laneControlEnable | laneControlDisable | laneControlRetire
  | laneControlRecover | unknownCommandCode => rfl
  | _ => cases h

/-- A row takes the requests of its command. -/
theorem ofCode_of_takes : Command.ofCode q.code = commandOf c := by
  cases c with
  | readDevice | readPort | readLane | readStream | readNotices | stageDevice | stagePort | stageStream | discard
  | commit | openStream | clearHold | ackNotice | restart => exact ofCode_eq_some_iff.2 (beq_iff_eq.1 h)
  | closeStream | closeStreamDiscard | timerControlRun | timerControlStop | timerControlPreset | laneControlEnable
  | laneControlDisable | laneControlRetire | laneControlRecover =>
    exact ofCode_eq_some_iff.2 (beq_iff_eq.1 (Bool.and_eq_true_iff.1 h).1)
  | unknownCommandCode => exact Option.isNone_iff_eq_none.1 ((isUnknown_eq q).trans h)
  | _ => cases h

theorem ofCode_known (hc : c ≠ .unknownCommandCode) : ∃ x, Command.ofCode q.code = some x := by
  rw [ofCode_of_takes h]
  exact Option.ne_none_iff_exists'.1 (((isManagement_iff c).1 (isManagement_of_takes h)).resolve_left hc)

end takes

/-! ### The checks of a request's operands (R146 steps 4 and 5, R172) -/

section operands
variable {q : Request}

theorem streamOfNat_eq_none_iff {n : Nat} : streamOfNat n = none ↔ 511 < n := by
  simp [streamOfNat]
  omega

theorem laneOfNat_eq_none_iff {n : Nat} : laneOfNat n = none ↔ 15 < n := by
  simp [laneOfNat]
  omega

theorem portOfNat_eq_none_iff {n : Nat} : portOfNat n = none ↔ 5 < n := by
  simp [portOfNat]
  omega

theorem badTarget_iff_stream (h : q.code ∈ ([0x04, 0x08, 0x0B, 0x0C, 0x0D, 0x0E] : List Byte)) :
    q.badTarget ↔ streamOfNat (targetOf q) = none := by
  simp only [List.mem_cons, List.not_mem_nil, or_false] at h
  rw [streamOfNat_eq_none_iff]
  obtain h | h | h | h | h | h := h <;> simp [Request.badTarget, h]

theorem badTarget_iff_lane (h : q.code ∈ ([0x03, 0x10] : List Byte)) :
    q.badTarget ↔ laneOfNat (targetOf q) = none := by
  simp only [List.mem_cons, List.not_mem_nil, or_false] at h
  rw [laneOfNat_eq_none_iff]
  obtain h | h := h <;> simp [Request.badTarget, h]

theorem badTarget_iff_port (h : q.code ∈ ([0x02, 0x07] : List Byte)) :
    q.badTarget ↔ portOfNat (targetOf q) = none := by
  simp only [List.mem_cons, List.not_mem_nil, or_false] at h
  rw [portOfNat_eq_none_iff]
  obtain h | h := h <;> simp [Request.badTarget, h]

theorem badTarget_iff_notice (h : q.code ∈ ([0x05, 0x0F] : List Byte)) :
    q.badTarget ↔ noticeTargetOf q = none := by
  simp only [List.mem_cons, List.not_mem_nil, or_false] at h
  obtain h | h := h <;> simp [Request.badTarget, h]

/-- The commands whose requests name no target but in a COMMIT's list. -/
theorem not_badTarget (h : q.code ∈ ([0x01, 0x06, 0x0A, 0x11] : List Byte)) : ¬ q.badTarget := by
  simp only [List.mem_cons, List.not_mem_nil, or_false] at h
  obtain h | h | h | h := h <;> simp [Request.badTarget, h]

/-- A command code, and the greatest selector that its command defines. -/
theorem badSelector_iff {n : Nat}
    (h : (q.code, n) ∈ ([(0x01, 2), (0x02, 2), (0x03, 1), (0x04, 3), (0x09, 3), (0x0C, 1), (0x0E, 2), (0x10, 3)] :
      List (Byte × Nat))) : q.badSelector ↔ n < selectorOf q := by
  simp only [List.mem_cons, List.not_mem_nil, or_false, Prod.mk.injEq] at h
  obtain ⟨h, rfl⟩ | ⟨h, rfl⟩ | ⟨h, rfl⟩ | ⟨h, rfl⟩ | ⟨h, rfl⟩ | ⟨h, rfl⟩ | ⟨h, rfl⟩ | ⟨h, rfl⟩ := h <;>
    simp [Request.badSelector, h]

/-- The commands without a selector, and COMMIT, whose selectors are checked with its list (R151). -/
theorem not_badSelector (h : q.code ∈ ([0x05, 0x06, 0x07, 0x08, 0x0A, 0x0B, 0x0D, 0x0F, 0x11] : List Byte)) :
    ¬ q.badSelector := by
  simp only [List.mem_cons, List.not_mem_nil, or_false] at h
  obtain h | h | h | h | h | h | h | h | h := h <;> simp [Request.badSelector, h]

end operands

/-- What becomes of a request's operands: the first check that fails decides (R146 steps 4 and 5); a COMMIT's list is
checked with its scope (R151). -/
structure Checked (q : Request) (b : Except Status Action) : Prop where
  target : q.badTarget → b = .error .badTarget
  selector : ¬ q.badTarget → q.badSelector → b = .error .badValue
  passes : ¬ q.badTarget → ¬ q.badSelector → (q.code = 0x0A → ∃ scope, commitScopeOf q = .ok scope) →
    ∃ act, b = .ok act

/-- The check of the selector, where the target is in range. -/
def SelectorChecked (q : Request) (b : Except Status Action) : Prop :=
  (q.badSelector → b = .error .badValue) ∧ (¬ q.badSelector → ∃ act, b = .ok act)

section checks
variable {q : Request}

theorem selectorChecked_ok (h : ¬ q.badSelector) (act : Action) : SelectorChecked q (.ok act) :=
  ⟨fun hbad => absurd hbad h, fun _ => ⟨act, rfl⟩⟩

/-- A READ of a part that it may not define. -/
theorem selectorChecked_withPart {n : Nat} {part : Option (State → List Byte)} (h : q.badSelector ↔ n < selectorOf q)
    (hpart : part = none ↔ n < selectorOf q) : SelectorChecked q (withPart part) := by
  cases part with
  | none => exact ⟨fun _ => rfl, fun hgood => absurd (h.2 (hpart.1 rfl)) hgood⟩
  | some octets => exact selectorChecked_ok (fun hbad => nomatch hpart.2 (h.1 hbad)) _

/-- A row of one selector, which takes that and those that its command does not define (log 4). -/
theorem selectorChecked_withSelector {k n : Nat} {f : State → Status × State} (h : q.badSelector ↔ n < selectorOf q)
    (hk : k ≤ n) (hrow : (selectorOf q == k || decide (n + 1 ≤ selectorOf q)) = true) :
    SelectorChecked q (withSelector q k (answering f)) := by
  rw [Bool.or_eq_true, beq_iff_eq, decide_eq_true_iff] at hrow
  unfold withSelector
  split
  · next heq => exact selectorChecked_ok (fun hbad => by have := h.1 hbad; omega) _
  · next hne => exact ⟨fun _ => rfl, fun hgood => absurd (h.2 (hrow.resolve_left hne)) hgood⟩

theorem checked_withTarget {α : Type} {target : Option α} {f : α → Except Status Action}
    (h : q.badTarget ↔ target = none) (hf : ∀ x, SelectorChecked q (f x)) : Checked q (withTarget target f) := by
  cases target with
  | none => exact ⟨fun _ => rfl, fun hgood => absurd (h.2 rfl) hgood, fun hgood => absurd (h.2 rfl) hgood⟩
  | some x => exact ⟨fun hbad => (nomatch h.1 hbad), fun _ => (hf x).1, fun _ hgood _ => (hf x).2 hgood⟩

/-- A command whose requests name no target. -/
theorem checked_noTarget {b : Except Status Action} (h : ¬ q.badTarget) (hb : SelectorChecked q b) : Checked q b :=
  ⟨fun hbad => absurd hbad h, fun _ => hb.1, fun _ hgood _ => hb.2 hgood⟩

theorem checked_bodyCommit (p : PortNo) (h : q.code = 0x0A) : Checked q (bodyCommit p q) := by
  refine ⟨fun hbad => absurd hbad (not_badTarget (by simp [h])),
    fun _ hbad => absurd hbad (not_badSelector (by simp [h])), fun _ _ hscope => ?_⟩
  obtain ⟨scope, hscope⟩ := hscope h
  exact ⟨takeCommit p q scope, by simp only [bodyCommit, hscope]⟩

theorem readDeviceOctets_eq_none_iff {n : Nat} : readDeviceOctets n = none ↔ 2 < n := by
  unfold readDeviceOctets
  split_ifs <;> simp <;> omega

theorem readPortOctets_eq_none_iff {x : PortNo} {n : Nat} : readPortOctets x n = none ↔ 2 < n := by
  unfold readPortOctets
  split_ifs <;> simp <;> omega

theorem readLaneOctets_eq_none_iff {l : LaneNo} {n : Nat} : readLaneOctets l n = none ↔ 1 < n := by
  unfold readLaneOctets
  split_ifs <;> simp <;> omega

theorem readStreamOctets_eq_none_iff {i : StreamNo} {n : Nat} : readStreamOctets i n = none ↔ 3 < n := by
  unfold readStreamOctets
  split_ifs <;> simp <;> omega

/-! DISCARD is on a stream, the device set, a port or everything, by its selector (R117). -/

theorem bodyDiscard_stream (p : PortNo) (h : selectorOf q = 0) :
    bodyDiscard p q = withStream q fun i => answering (discard (.stream i)) := by
  unfold bodyDiscard discardScopeOf withStream
  rw [if_pos h]
  cases streamOfNat (targetOf q) <;> rfl

theorem bodyDiscard_port (p : PortNo) (h : selectorOf q = 2) :
    bodyDiscard p q = withPort q fun x => answering (discard (.port x)) := by
  unfold bodyDiscard discardScopeOf withPort
  rw [if_neg (by omega), if_neg (by omega), if_pos h]
  cases portOfNat (targetOf q) <;> rfl

theorem bodyDiscard_scope {scope : DiscardScope} (p : PortNo) (h : discardScopeOf q = .ok scope) :
    bodyDiscard p q = answering (discard scope) := by simp only [bodyDiscard, h]

theorem bodyDiscard_undefined (p : PortNo) (h : 3 < selectorOf q) : bodyDiscard p q = .error .badValue := by
  unfold bodyDiscard discardScopeOf
  rw [if_neg (by omega), if_neg (by omega), if_neg (by omega), if_neg (by omega)]

theorem badTarget_discard (h : q.code = 0x09) :
    q.badTarget ↔ (selectorOf q = 0 ∧ 511 < targetOf q) ∨ (selectorOf q = 2 ∧ 5 < targetOf q) := by
  simp [Request.badTarget, h]

theorem checked_bodyDiscard (p : PortNo) (h : q.code = 0x09) : Checked q (bodyDiscard p q) := by
  have hselector : q.badSelector ↔ 3 < selectorOf q := badSelector_iff (by simp [h])
  have hdefined (hs : selectorOf q ≤ 3) (scope : DiscardScope) : SelectorChecked q (answering (discard scope)) :=
    selectorChecked_ok (fun hbad => Nat.not_lt.2 hs (hselector.1 hbad)) _
  have hnoTarget (h0 : selectorOf q ≠ 0) (h2 : selectorOf q ≠ 2) : ¬ q.badTarget := by
    rw [badTarget_discard h]
    omega
  by_cases h0 : selectorOf q = 0
  · rw [bodyDiscard_stream p h0]
    refine checked_withTarget ?_ fun i => hdefined (by omega) _
    rw [badTarget_discard h, streamOfNat_eq_none_iff]
    omega
  by_cases h2 : selectorOf q = 2
  · rw [bodyDiscard_port p h2]
    refine checked_withTarget ?_ fun x => hdefined (by omega) _
    rw [badTarget_discard h, portOfNat_eq_none_iff]
    omega
  refine checked_noTarget (hnoTarget h0 h2) ?_
  by_cases h1 : selectorOf q = 1
  · rw [bodyDiscard_scope p (Staging.discardScopeOf_device h1)]
    exact hdefined (by omega) _
  by_cases h3 : selectorOf q = 3
  · rw [bodyDiscard_scope p (Staging.discardScopeOf_all h3)]
    exact hdefined (by omega) _
  have hundefined : 3 < selectorOf q := by omega
  rw [bodyDiscard_undefined p hundefined]
  exact ⟨fun _ => rfl, fun hgood => absurd (hselector.2 hundefined) hgood⟩

end checks

section rows
variable {q : Request} {p : PortNo}

/-- Each command's body checks the operands as R146 has it. -/
theorem checked_bodyOf {c : Instr} (h : c.takes q = true) (hc : c ≠ .unknownCommandCode) :
    Checked q (bodyOf c p q) := by
  have hcode {x : Command} (hx : commandOf c = some x) : q.code = codeOf x :=
    codeOf_of_ofCode ((ofCode_of_takes h).trans hx)
  have listed {x : Command} {codes : List Byte} (hx : commandOf c = some x) (hcodes : codeOf x ∈ codes) :
      q.code ∈ codes := hcode hx ▸ hcodes
  have numbered {x : Command} {n : Nat} {rows : List (Byte × Nat)} (hx : commandOf c = some x)
      (hrows : (codeOf x, n) ∈ rows) : (q.code, n) ∈ rows := hcode hx ▸ hrows
  cases c with
  | unknownCommandCode => exact absurd rfl hc
  | readDevice =>
    exact checked_noTarget (not_badTarget (listed rfl (by decide)))
      (selectorChecked_withPart (badSelector_iff (numbered rfl (by decide))) readDeviceOctets_eq_none_iff)
  | readPort =>
    exact checked_withTarget (badTarget_iff_port (listed rfl (by decide))) fun _ =>
      selectorChecked_withPart (badSelector_iff (numbered rfl (by decide))) readPortOctets_eq_none_iff
  | readLane =>
    exact checked_withTarget (badTarget_iff_lane (listed rfl (by decide))) fun _ =>
      selectorChecked_withPart (badSelector_iff (numbered rfl (by decide))) readLaneOctets_eq_none_iff
  | readStream =>
    exact checked_withTarget (badTarget_iff_stream (listed rfl (by decide))) fun _ =>
      selectorChecked_withPart (badSelector_iff (numbered rfl (by decide))) readStreamOctets_eq_none_iff
  | readNotices | ackNotice =>
    exact checked_withTarget (badTarget_iff_notice (listed rfl (by decide))) fun _ =>
      selectorChecked_ok (not_badSelector (listed rfl (by decide))) _
  | stageDevice | restart =>
    exact checked_noTarget (not_badTarget (listed rfl (by decide)))
      (selectorChecked_ok (not_badSelector (listed rfl (by decide))) _)
  | stagePort =>
    exact checked_withTarget (badTarget_iff_port (listed rfl (by decide))) fun _ =>
      selectorChecked_ok (not_badSelector (listed rfl (by decide))) _
  | stageStream | openStream | clearHold =>
    exact checked_withTarget (badTarget_iff_stream (listed rfl (by decide))) fun _ =>
      selectorChecked_ok (not_badSelector (listed rfl (by decide))) _
  | discard => exact checked_bodyDiscard p (hcode rfl)
  | commit => exact checked_bodyCommit p (hcode rfl)
  | closeStream | closeStreamDiscard =>
    exact checked_withTarget (badTarget_iff_stream (listed rfl (by decide))) fun _ =>
      selectorChecked_withSelector (n := 1) (badSelector_iff (numbered rfl (by decide))) (by decide)
        (Bool.and_eq_true_iff.1 h).2
  | timerControlRun | timerControlStop | timerControlPreset =>
    exact checked_withTarget (badTarget_iff_stream (listed rfl (by decide))) fun _ =>
      selectorChecked_withSelector (n := 2) (badSelector_iff (numbered rfl (by decide))) (by decide)
        (Bool.and_eq_true_iff.1 h).2
  | laneControlEnable | laneControlDisable | laneControlRetire | laneControlRecover =>
    exact checked_withTarget (badTarget_iff_lane (listed rfl (by decide))) fun _ =>
      selectorChecked_withSelector (n := 3) (badSelector_iff (numbered rfl (by decide))) (by decide)
        (Bool.and_eq_true_iff.1 h).2
  | _ => cases h

end rows

/-! ### Privilege (R146 steps 1 to 3) -/

section privilege
variable {level : Level} {q : Request}

theorem privilegeFailure_none (q : Request) : privilegeFailure .none q = some .noPrivilege := rfl

/-- Level READ refuses every command but the READs. -/
theorem privilegeFailure_read_known (hlow : 0x06 ≤ q.code.toNat) (hhigh : q.code.toNat ≤ 0x11) :
    privilegeFailure .read q = some .noPrivilege := by
  cases hx : Command.ofCode q.code with
  | none =>
    obtain h0 | hbig := (ofCode_eq_none_iff _).1 hx
    · rw [h0] at hlow
      exact absurd hlow (by decide)
    · omega
  | some c =>
    have hc : c.isRead = false := by
      rw [← Bool.not_eq_true, isRead_iff, ← codeOf_of_ofCode hx]
      omega
    simp [privilegeFailure, hx, hc]

theorem privilegeFailure_unknown (hl : level ≠ .none) (h : Command.ofCode q.code = none) :
    privilegeFailure level q = some .badCommand := by
  cases level <;> simp_all [privilegeFailure]

/-- Level FULL allows every command, level READ those of the READs' codes. -/
theorem privilegeFailure_allowed {c : Command} (h : Command.ofCode q.code = some c)
    (hl : level = .full ∨ (level = .read ∧ q.code.toNat ≤ 5)) : privilegeFailure level q = none := by
  obtain rfl | ⟨rfl, hread⟩ := hl
  · exact Pacing.privilegeFailure_full h
  · exact Pacing.privilegeFailure_read nofun h ((isRead_iff c).2 (codeOf_of_ofCode h ▸ hread))

end privilege

/-! ### The taking of a request by its row (R145, R146) -/

section taking
variable {c : Instr} {s : State} {p : PortNo} {q : Request} (hpin : s.resetPin = false) (hcount : s.uncounted = false)
  (hnext : s.nextRequest = some (p, q)) (htakes : c.takes q = true)
include hpin hcount hnext htakes

theorem exec_takes : exec c s = .next (takeAndCheck p q (bodyOf c) s) := by
  rw [exec_management (isManagement_of_takes htakes), running_counted hpin hcount, serve_takes hnext htakes]

/-- A request that its port's level does not allow, or of an unknown code. -/
theorem exec_refused_privilege {status : Status} (h : privilegeFailure (s.port p).record.level q = some status) :
    exec c s = .next (refuseRequest p q status (takeRequest p q s)) := by
  rw [exec_takes hpin hcount hnext htakes, takeAndCheck_privilege h]

/-- A request that the level allows, with an operand that fails its check. -/
theorem exec_refused_operand {status : Status} (h : privilegeFailure (s.port p).record.level q = none)
    (hbody : bodyOf c p q = .error status) :
    exec c s = .next (refuseRequest p q status (takeRequest p q s)) := by
  rw [exec_takes hpin hcount hnext htakes, takeAndCheck_error h hbody]

end taking

/-- A refusal for another reason than privilege raises nothing. -/
theorem refuseRequest_other {status : Status} (h : status ≠ .noPrivilege) (p : PortNo) (q : Request) (s : State) :
    refuseRequest p q status s = respond p q (bare status) s := by rw [refuseRequest, if_neg h]

/-- The codes of the commands whose requests carry a target or a selector that these checks look at. -/
def operandCodes : List Byte :=
  [0x01, 0x02, 0x03, 0x04, 0x05, 0x07, 0x08, 0x09, 0x0B, 0x0C, 0x0D, 0x0E, 0x0F, 0x10]

theorem code_of_badOperand {q : Request} (h : q.badTarget ∨ q.badSelector) : q.code ∈ operandCodes := by
  simp only [operandCodes, Request.badTarget, Request.badSelector, List.mem_cons, List.not_mem_nil, or_false] at h ⊢
  tauto

theorem ofCode_operandCodes : ∀ b ∈ operandCodes, (Command.ofCode b).isSome = true := by decide

/-- A request of an unknown code has no operand that could fail a check. -/
theorem known_of_badOperand {q : Request} (h : q.badTarget ∨ q.badSelector) : ∃ x, Command.ofCode q.code = some x :=
  Option.isSome_iff_exists.1 (ofCode_operandCodes _ (code_of_badOperand h))

/-- Settles O49, by the first check that the request fails. -/
theorem requestsChecked : Obligations.RequestsChecked := by
  intro c s p q hpin hcount hnext htakes t refused allowed
  have hprivilege {status : Status} (h : privilegeFailure (s.port p).record.level q = some status) :
      exec c s = .next (refuseRequest p q status t) := exec_refused_privilege hpin hcount hnext htakes h
  have hoperand {status : Status} (hallowed : allowed) (hbad : q.badTarget ∨ q.badSelector)
      (hstatus : status ≠ .noPrivilege) (hbody : bodyOf c p q = .error status) :
      exec c s = .next (respond p q (bare status) t) := by
    obtain ⟨x, hx⟩ := known_of_badOperand hbad
    rw [exec_refused_operand hpin hcount hnext htakes (privilegeFailure_allowed hx hallowed) hbody,
      refuseRequest_other hstatus]
  have hchecked (hbad : q.badTarget ∨ q.badSelector) : Checked q (bodyOf c p q) := by
    refine checked_bodyOf htakes fun hc => ?_
    obtain ⟨x, hx⟩ := known_of_badOperand hbad
    rw [ofCode_of_takes htakes, hc] at hx
    cases hx
  refine ⟨fun hlevel => ?noLevel, fun hlevel hlow hhigh => ?readLevel, fun hlevel hc => ?unknown,
    fun hallowed hbad => ?target, fun hallowed hgood hbad => ?selector⟩
  case noLevel => exact hprivilege (hlevel ▸ privilegeFailure_none q)
  case readLevel => exact hprivilege (hlevel ▸ privilegeFailure_read_known hlow hhigh)
  case unknown =>
    have hx : Command.ofCode q.code = none := (ofCode_of_takes htakes).trans (hc ▸ rfl)
    rw [hprivilege (privilegeFailure_unknown hlevel hx), refuseRequest_other (status := .badCommand) nofun]
  case target => exact hoperand hallowed (.inl hbad) nofun ((hchecked (.inl hbad)).target hbad)
  case selector => exact hoperand hallowed (.inr hbad) nofun ((hchecked (.inr hbad)).selector hgood hbad)

/-! ### What the claims of a request leave to the agent -/

/-- What the going on of a request in execution looks at: whether a command has its effect at once, and the request. -/
def standing (s : State) : Bool × Bool × Option Execution := (s.resetPin, s.uncounted, s.inExecution)

section standing
variable {s t : State}

theorem standing_of_sansBinding (h : t.sansBinding = s.sansBinding) : standing t = standing s :=
  (congrArg standing h :)

theorem standing_of_sansNotices (h : t.sansNotices = s.sansNotices) : standing t = standing s :=
  (congrArg standing h :)

variable (s)

@[simp] theorem standing_modStream (i : StreamNo) (f : StreamRec → StreamRec) :
    standing (s.modStream i f) = standing s := rfl

@[simp] theorem standing_modLane (l : LaneNo) (f : LaneRec → LaneRec) : standing (s.modLane l f) = standing s := rfl

@[simp] theorem standing_setFree (g : GroupNo) (ls : List LaneNo) : standing (s.setFree g ls) = standing s := rfl

@[simp] theorem standing_dropTurn : standing s.dropTurn = standing s := rfl

@[simp] theorem standing_modRecord (f : CommitRecord → CommitRecord) : standing (modRecord f s) = standing s := rfl

@[simp] theorem standing_demandChanged (i : StreamNo) : standing (demandChanged i s) = standing s :=
  standing_of_sansBinding (demandChanged_sansBinding s i)

@[simp] theorem standing_removeEntry (i : StreamNo) : standing (removeEntry i s) = standing s :=
  standing_of_sansBinding (removeEntry_sansBinding s i)

@[simp] theorem standing_startRelease (l : LaneNo) : standing (startRelease l s) = standing s :=
  standing_of_sansBinding (startRelease_sansBinding s l)

@[simp] theorem standing_judgeGroup (g : GroupNo) : standing (judgeGroup g s) = standing s :=
  standing_of_sansBinding (judgeGroup_sansBinding s g)

@[simp] theorem standing_removeNotice (pt : CausePoint) : standing (removeNotice pt s) = standing s :=
  standing_of_sansNotices (removeNotice_sansNotices s pt)

/-! #### Pacing, queues and life states -/

@[simp] theorem standing_changePacing (i : StreamNo) (f : StreamRec → StreamRec) :
    standing (changePacing i f s) = standing s := by
  unfold changePacing
  dsimp only
  split <;> simp

@[simp] theorem standing_consumeCredit (i : StreamNo) : standing (consumeCredit i s).2 = standing s := by
  unfold consumeCredit
  split <;> simp

theorem standing_emptinessChanged (i : StreamNo) (wasEmpty : Bool) :
    standing (emptinessChanged i wasEmpty s) = standing s := by
  unfold emptinessChanged
  split <;> simp

@[simp] theorem standing_takeHead (i : StreamNo) : standing (takeHead i s).2 = standing s := by
  unfold takeHead
  split
  · rfl
  · exact standing_emptinessChanged _ _ _

@[simp] theorem standing_flush (i : StreamNo) : standing (flush i s) = standing s := by
  unfold flush
  dsimp only
  split
  · rfl
  · exact standing_demandChanged _ _

@[simp] theorem standing_setLife (i : StreamNo) (life : Life) : standing (setLife i life s) = standing s :=
  standing_demandChanged _ _

@[simp] theorem standing_enterClosed (i : StreamNo) : standing (enterClosed i s) = standing s := by
  simp [enterClosed]

@[simp] theorem standing_judgeDrain (i : StreamNo) : standing (judgeDrain i s) = standing s := by
  unfold judgeDrain
  split <;> simp

theorem standing_openStream (i : StreamNo) : standing (openStream i s).2 = standing s := by
  unfold openStream
  dsimp only
  split <;> simp

theorem standing_closeDiscarding (i : StreamNo) : standing (closeDiscarding i s) = standing s := by
  unfold closeDiscarding
  dsimp only
  split <;> simp

theorem standing_closePlain (i : StreamNo) : standing (closePlain i s).2 = standing s := by
  unfold closePlain
  split <;> simp

theorem standing_closeDiscard (i : StreamNo) : standing (closeDiscard i s).2 = standing s := by
  unfold closeDiscard
  split <;> simp [standing_closeDiscarding]

theorem standing_clearHold (i : StreamNo) : standing (clearHold i s).2 = standing s := by
  unfold clearHold
  split <;> simp

theorem standing_timerControl (i : StreamNo) (f : StreamRec → StreamRec) :
    standing (timerControl i f s).2 = standing s := by
  unfold timerControl
  split <;> simp

/-! #### Lanes and launches -/

theorem standing_leaveFreeList (l : LaneNo) : standing (leaveFreeList l s) = standing s := by
  unfold leaveFreeList
  dsimp only
  split <;> simp

theorem standing_laneDisable (l : LaneNo) : standing (laneDisable l s).2 = standing s := by
  unfold laneDisable
  dsimp only
  split <;> simp [standing_leaveFreeList]

theorem standing_duringPass {event : State → State} (hevent : ∀ t, standing (event t) = standing t) :
    standing (duringPass event s) = standing s :=
  duringPass_keeps (P := fun t => standing t = standing s) (fun _ _ h => (standing_of_sansBinding h).trans)
    (fun t => (hevent t).trans) rfl

theorem standing_disableLane (l : LaneNo) : standing (disableLane l s).2 = standing s := by
  unfold disableLane
  split
  · exact standing_duringPass s fun t => standing_laneDisable t l
  · exact standing_laneDisable s l

theorem standing_laneEnable (l : LaneNo) : standing (laneEnable l s).2 = standing s := by
  unfold laneEnable startRecovery
  split
  · split <;> rfl
  · rfl

theorem standing_laneRetire (l : LaneNo) : standing (laneRetire l s).2 = standing s := by
  unfold laneRetire
  split <;> simp

theorem standing_laneRecover (l : LaneNo) : standing (laneRecover l s).2 = standing s := by
  unfold laneRecover startRecovery
  split <;> rfl

theorem standing_launchCell (l : LaneNo) (i : StreamNo) : standing (launchCell l i s) = standing s := by
  have htaken := standing_takeHead s i
  unfold launchCell
  split
  · next heq => rwa [heq] at htaken
  · next heq =>
    rw [heq] at htaken
    refine Eq.trans ?_ htaken
    dsimp only [sendOnLane]
    rw [standing_modStream, standing_modLane]
    split <;> simp

theorem standing_chargeLaunches (flights : List (LaneNo × StreamNo)) :
    standing (chargeLaunches flights s).2 = standing s := by
  induction flights generalizing s with
  | nil => rfl
  | cons f fs ih =>
    unfold chargeLaunches
    dsimp only [takeTurn_eq]
    split
    · exact ih s
    · split
      · exact (ih _).trans (standing_consumeCredit _ _)
      · exact ih _

theorem standing_endLaunch (charged : List (LaneNo × StreamNo)) (f : LaneNo × StreamNo) :
    standing (endLaunch charged s f) = standing s := by
  unfold endLaunch
  split
  · exact standing_launchCell s f.1 f.2
  · split <;> rfl

theorem standing_duringLaunches (which : StreamNo → Bool) {event : State → State}
    (hevent : ∀ t, standing (event t) = standing t) : standing (duringLaunches which event s) = standing s :=
  ((foldl_keeps _ (fun t f => standing_endLaunch t _ f) _).trans (hevent _)).trans (standing_chargeLaunches s _)

theorem standing_presetTimer (clear : Bool) (i : StreamNo) : standing (presetTimer clear i s).2 = standing s := by
  unfold presetTimer
  split
  · rfl
  · exact (foldl_keeps _ (fun t f => standing_endLaunch t _ f) _).trans (standing_changePacing s i _)

theorem standing_discardClose (i : StreamNo) : standing (discardClose i s).2 = standing s :=
  standing_duringLaunches s _ fun t => standing_closeDiscard t i

/-! #### Notices, staging and commits -/

theorem standing_ackNotice (n : NoticeTarget) (mask : Nat) : standing (ackNotice n mask s).2 = standing s := by
  unfold ackNotice
  split
  · exact foldl_keeps s standing_removeNotice _
  · rfl

theorem standing_closeRecord (c : CommitRecord) (status : Status) (result : List Byte) :
    standing (closeRecord c status result s) = standing s := by
  cases hb : s.barred with
  | none => rw [Management.closeRecord_unbarred c status result hb]; rfl
  | some p => rw [Management.closeRecord_barred c status result hb]; rfl

@[simp] theorem standing_judgeCompletion : standing (judgeCompletion s) = standing s := by
  unfold judgeCompletion
  split
  · split
    · exact standing_closeRecord _ _ _ _
    · rfl
  · rfl

theorem standing_discard (scope : DiscardScope) : standing (discard scope s).2 = standing s := by
  cases scope with
  | stream i => exact standing_judgeCompletion _
  | device => exact (standing_judgeCompletion _).trans (congrArg standing (Staging.discardDevice_sansBinding s) :)
  | port p => rfl
  | all => exact (standing_judgeCompletion _).trans (congrArg standing (Staging.discardAll_sansBinding s) :)

theorem standing_commitDevice (quiet : Bool) : standing (commitDevice quiet s) = standing s := by
  unfold commitDevice
  split
  · rfl
  · split <;> rfl

theorem standing_claimed (p : PortNo) (q : Request) (scope : CommitScope) (record : Option CommitRecord) :
    standing (Holding.claimed p q scope record s) = standing s := by
  have himages : standing (Holding.takeImages p q scope s) = standing s :=
    (congrArg standing Holding.sansImages_takeImages :)
  refine (standing_of_sansBinding (Holding.claimed_sansBinding record)).trans ?_
  unfold Holding.commitEvent
  split
  · exact (standing_commitDevice _ _).trans himages
  · exact himages

/-- A COMMIT is refused with nothing changed, or taken. -/
theorem standing_takeCommit (p : PortNo) (q : Request) (scope : CommitScope) :
    standing (takeCommit p q scope s).2 = standing s := by
  by_cases hrecord : s.record = none
  · by_cases hfull : scope.ports = true → s.keepsFull = true
    · rw [Holding.takeCommit_taken hrecord hfull]
      split <;> exact standing_claimed s p q scope _
    · have hrefused : (scope.ports && !s.keepsFull) = true := by simpa using hfull
      simp only [takeCommit, hrecord, hrefused, Option.isSome_none, Bool.false_eq_true, if_false, if_true]
  · simp only [takeCommit, Option.isSome_iff_ne_none.2 hrecord, if_true]

/-! #### RESTART -/

theorem standing_restartCommit : standing (restartCommit s) = standing s := by
  have hdevice : standing (Management.restartDevice (Management.restartImages s)) = standing s := by
    unfold Management.restartDevice
    split <;> rfl
  rw [Management.restartCommit_eq]
  split
  · exact (standing_closeRecord _ _ _ _).trans hdevice
  · exact hdevice

theorem standing_deviceRestart : standing (deviceRestart s) = standing s := by
  have hcommit := standing_restartCommit (restartStreams (restartQueues (restartArbiter (dropLanes s))))
  unfold deviceRestart restartRecoveries
  split <;> exact hcommit

end standing

/-! #### Every management command -/

/-- What a request asks for leaves the agent as it stands. -/
def KeepsStanding (b : Except Status Action) : Prop := ∀ x, Arbiter.KeepsAction (fun s => standing s = x) b

theorem keepsStanding_ok {act : Action} (h : ∀ s, standing (act s).2 = standing s) : KeepsStanding (.ok act) :=
  fun _ => Arbiter.keepsAction_ok fun s hs => (h s).trans hs

theorem keepsStanding_answering {f : State → Status × State} (h : ∀ s, standing (f s).2 = standing s) :
    KeepsStanding (answering f) := keepsStanding_ok h

theorem keepsStanding_withTarget {α : Type} {target : Option α} {f : α → Except Status Action}
    (h : ∀ x, KeepsStanding (f x)) : KeepsStanding (withTarget target f) :=
  fun v => Arbiter.keepsAction_withTarget fun x => h x v

theorem keepsStanding_withSelector {q : Request} {selector : Nat} {b : Except Status Action} (h : KeepsStanding b) :
    KeepsStanding (withSelector q selector b) := fun v => Arbiter.keepsAction_withSelector (h v)

/-- A command on a target, and one with a selector. -/
theorem keepsStanding_target {α : Type} {target : Option α} {f : α → State → Status × State}
    (h : ∀ s x, standing (f x s).2 = standing s) : KeepsStanding (withTarget target fun x => answering (f x)) :=
  keepsStanding_withTarget fun x => keepsStanding_answering fun s => h s x

theorem keepsStanding_selected {α : Type} {target : Option α} {q : Request} {selector : Nat}
    {f : α → State → Status × State} (h : ∀ s x, standing (f x s).2 = standing s) :
    KeepsStanding (withTarget target fun x => withSelector q selector (answering (f x))) :=
  keepsStanding_withTarget fun x => keepsStanding_withSelector (keepsStanding_answering fun s => h s x)

theorem keepsStanding_bodyOf (c : Instr) (p : PortNo) (q : Request) : KeepsStanding (bodyOf c p q) := by
  cases c with
  | readDevice => exact fun _ => Arbiter.keepsAction_withPart _
  | readPort | readLane | readStream =>
    exact keepsStanding_withTarget fun _ _ => Arbiter.keepsAction_withPart _
  | readNotices => exact keepsStanding_withTarget fun _ _ => Arbiter.keepsAction_reading _
  | stageDevice => exact keepsStanding_answering fun s => by unfold stageDevice; split <;> rfl
  | stagePort => exact keepsStanding_target fun s x => by unfold stagePort; split <;> rfl
  | stageStream => exact keepsStanding_target fun s i => by unfold stageStream; split <;> rfl
  | discard =>
    change KeepsStanding (bodyDiscard p q)
    unfold bodyDiscard
    split
    · exact keepsStanding_answering fun s => standing_discard s _
    · exact fun _ => Arbiter.keepsAction_error _
  | commit =>
    change KeepsStanding (bodyCommit p q)
    unfold bodyCommit
    split
    · exact keepsStanding_ok fun s => standing_takeCommit s p q _
    · exact fun _ => Arbiter.keepsAction_error _
  | openStream => exact keepsStanding_target standing_openStream
  | closeStream => exact keepsStanding_selected standing_closePlain
  | closeStreamDiscard => exact keepsStanding_selected standing_discardClose
  | clearHold => exact keepsStanding_target standing_clearHold
  | timerControlRun | timerControlStop => exact keepsStanding_selected fun s i => standing_timerControl s i _
  | timerControlPreset => exact keepsStanding_selected fun s i => standing_presetTimer s _ i
  | ackNotice => exact keepsStanding_target fun s n => standing_ackNotice s n _
  | laneControlEnable => exact keepsStanding_selected standing_laneEnable
  | laneControlDisable => exact keepsStanding_selected standing_disableLane
  | laneControlRetire => exact keepsStanding_selected standing_laneRetire
  | laneControlRecover => exact keepsStanding_selected standing_laneRecover
  | restart => exact keepsStanding_ok fun s => standing_duringLaunches s _ standing_deviceRestart
  | _ => exact fun _ => Arbiter.keepsAction_error _

/-! ### The examination of the ports, and the taking of a request (R145) -/

section examination
variable {s : State} {p : PortNo}

theorem eligible_iff (s : State) (p : PortNo) :
    s.eligible p = true ↔
      (s.port p).requests ≠ [] ∧ (s.port p).responses.length + (if (s.port p).reserved then 1 else 0) < 8
        ∧ s.barred ≠ some p := by
  rw [← responsesFull_eq_false_iff]
  simp [State.eligible, and_assoc]

/-- The first eligible port from the one after the last served. -/
theorem find_examinationOrder {k : Nat} (hk : k < 6) (hp : p.val = (s.lastServed.val + 1 + k) % 6)
    (he : s.eligible p = true)
    (hfirst : ∀ j < k, ∀ x : PortNo, x.val = (s.lastServed.val + 1 + j) % 6 → ¬ s.eligible x = true) :
    (examinationOrder s.lastServed).find? s.eligible = some p := by
  have hport : Fin.ofNat 6 (s.lastServed.val + 1 + k) = p := Fin.ext hp.symm
  have hfind : (List.range 6).find? (s.eligible ∘ fun k => Fin.ofNat 6 (s.lastServed.val + 1 + k)) = some k := by
    refine List.find?_range_eq_some.2 ⟨?_, List.mem_range.2 hk, fun j hj => ?_⟩
    · rw [Function.comp_apply, hport, he]
    · simpa using hfirst j hj _ rfl
  rw [examinationOrder, List.find?_map, hfind, Option.map_some, hport]

theorem nextRequest_eq {q : Request} {rest : List Request} (hx : s.inExecution = none)
    (hfind : (examinationOrder s.lastServed).find? s.eligible = some p) (hq : (s.port p).requests = q :: rest) :
    s.nextRequest = some (p, q) := by
  simp [State.nextRequest, hx, hfind, hq]

theorem nextRequest_none (hx : s.inExecution = none) (h : ∀ x, s.eligible x = false) : s.nextRequest = none := by
  have hfind : (examinationOrder s.lastServed).find? s.eligible = none :=
    List.find?_eq_none.2 fun x _ => by simp [h x]
  simp [State.nextRequest, hx, hfind]

theorem takeRequest_eq {q : Request} {rest : List Request} (hq : (s.port p).requests = q :: rest) :
    takeRequest p q s =
      { s.modPort p (fun r => { r with requests := rest, reserved := true }) with
        lastServed := p
        inExecution := some ⟨p, q, false, none⟩ } := by
  simp only [takeRequest, State.modPort, hq, List.tail_cons]

end examination

/-! ### The placing of a response (R147, R168) -/

section response
variable {s : State} {p : PortNo} {q : Request} {a : Reply} {e : Execution}

/-- The selector octet of a response, by the command codes that have one. -/
theorem selectorEcho_eq (q : Request) :
    selectorEcho q = if q.code ∈ selectorCodes then octetAt q.payload 2 else 0 := by
  cases hx : Command.ofCode q.code with
  | some c =>
    rw [selectorEcho, hx, codeOf_of_ofCode hx]
    simp only [hasSelector_iff]
  | none =>
    rw [selectorEcho, hx, if_neg fun hmem => ofCode_selectorCodes _ hmem hx]

theorem respond_eq (he : s.inExecution = some e) :
    respond p q a s =
      { s.modPort p (Management.settled e.void
          ⟨q.tag, a.status, responsePayload q.code (selectorEcho q) a.result⟩) with
        inExecution := none } := by
  simp only [respond, he, Management.settle_eq]

/-- Of the execution, a response looks at whether it is void. -/
theorem respond_answered (he : s.inExecution = some e) (answer : Option Reply) :
    respond p q a { s with inExecution := some { e with answer := answer } } = respond p q a s := by
  rw [respond_eq he, respond_eq (s := { s with inExecution := some { e with answer := answer } }) rfl]
  rfl

end response

/-! ### The course of an execution (R147; log 5) -/

section management
variable {c : Instr} {s : State} (hc : c.isManagement = true) (hpin : s.resetPin = false) (hcount : s.uncounted = false)
include hc hpin hcount

theorem exec_serve : exec c s = .next (serve c.takes (bodyOf c) s) := by
  rw [exec_management hc, running_counted hpin hcount]

theorem exec_otherRow {p : PortNo} {q : Request} (hnext : s.nextRequest = some (p, q)) (hrow : c.takes q = false) :
    exec c s = .next s := by
  rw [exec_serve hc hpin hcount, serve_other hnext hrow]

theorem exec_noRequest (hx : s.inExecution = none) (hnext : s.nextRequest = none) : exec c s = .next s := by
  rw [exec_serve hc hpin hcount, serve_idle hx hnext]

variable {e : Execution} (he : s.inExecution = some e)
include he

theorem exec_otherExecution (hrow : c.takes e.request = false) : exec c s = .next s := by
  rw [exec_serve hc hpin hcount, serve_inExecution he, hrow]
  rfl

theorem exec_answers {a : Reply} (hrow : c.takes e.request = true) (ha : e.answer = some a) :
    exec c s = .next (respond e.port e.request a s) := by
  rw [exec_serve hc hpin hcount, serve_inExecution he, if_pos hrow, goOn_answer ha]

/-- A request in execution whose claims are still to come makes them. -/
theorem exec_claims {act : Action} (hrow : c.takes e.request = true) (ha : e.answer = none)
    (hbody : bodyOf c e.port e.request = .ok act) : exec c s = .next (claimOnly e.port act s) := by
  rw [exec_serve hc hpin hcount, serve_inExecution he, if_pos hrow]
  simp only [goOn, ha, hbody]

end management

/-- What a request has claimed, and then the placing of its response, is what it does in one step; a COMMIT whose record
stays open has nothing left to place (R147, R148). -/
theorem exec_claimOnly {c : Instr} {t : State} {p : PortNo} {q : Request} {act : Action} {v : Bool} {r : Option Reply}
    (hrow : c.takes q = true) (hpin : t.resetPin = false) (hcount : t.uncounted = false)
    (he : t.inExecution = some ⟨p, q, v, r⟩) (hact : standing (act t).2 = standing t) :
    ((claimOnly p act t).inExecution = none → conclude p q act t = claimOnly p act t)
      ∧ ((claimOnly p act t).inExecution ≠ none →
        exec c (claimOnly p act t) = .next (conclude p q act t)) := by
  obtain ⟨⟨reply, u⟩, hclaimed⟩ : ∃ x, act t = x := ⟨_, rfl⟩
  rw [hclaimed] at hact
  simp only [standing, Prod.mk.injEq] at hact
  obtain ⟨hpin', hcount', he'⟩ := hact
  cases reply with
  | none =>
    have hu : claimOnly p act t = barPort p u := by simp only [claimOnly, hclaimed]
    have hwhole : conclude p q act t = barPort p u := by simp only [conclude, hclaimed]
    rw [hu, hwhole]
    exact ⟨fun _ => rfl, fun h => absurd rfl h⟩
  | some a =>
    have hu : claimOnly p act t = { u with inExecution := some ⟨p, q, v, some a⟩ } := by
      simp only [claimOnly, hclaimed, he', he, Option.map_some]
    have hwhole : conclude p q act t = respond p q a u := by simp only [conclude, hclaimed]
    rw [hu, hwhole]
    refine ⟨nofun, fun _ => ?_⟩
    have hplaced := exec_answers (s := { u with inExecution := some ⟨p, q, v, some a⟩ }) (isManagement_of_takes hrow)
      (hpin'.trans hpin) (hcount'.trans hcount) rfl hrow rfl
    exact hplaced.trans (congrArg _ (respond_answered (he'.trans he) (some a)))

/-- What a READ asks for is its octets (R149). -/
def Reads (b : Except Status Action) : Prop :=
  ∀ act, b = .ok act → ∃ octets : State → List Byte, act = fun s => (some ⟨.done, octets s⟩, s)

theorem reads_reading (octets : State → List Byte) : Reads (reading octets) := by
  rintro _ ⟨⟩
  exact ⟨octets, rfl⟩

theorem reads_withPart (part : Option (State → List Byte)) : Reads (withPart part) := by
  cases part with
  | none => exact nofun
  | some octets => exact reads_reading octets

theorem reads_withTarget {α : Type} {target : Option α} {f : α → Except Status Action} (h : ∀ x, Reads (f x)) :
    Reads (withTarget target f) := by
  cases target with
  | none => exact nofun
  | some x => exact h x

theorem reads_bodyOf {c : Instr} {x : Command} (hx : commandOf c = some x) (hread : x.isRead = true) (p : PortNo)
    (q : Request) : Reads (bodyOf c p q) := by
  cases c with
  | readDevice => exact reads_withPart _
  | readPort | readLane | readStream => exact reads_withTarget fun _ => reads_withPart _
  | readNotices => exact reads_withTarget fun _ => reads_reading _
  | _ =>
    cases hx <;> cases hread

section interrupted
variable {c : Instr} {s : State} {p : PortNo} {q : Request} {act : Action} (hpin : s.resetPin = false)
  (hcount : s.uncounted = false) (hnext : s.nextRequest = some (p, q)) (htakes : c.takes q = true)
  (hpriv : privilegeFailure (s.port p).record.level q = none) (hbody : bodyOf c p q = .ok act)
include hpin hcount hnext htakes hpriv hbody

/-- Other events come between the taking of a request and its claims, or, of a READ, between these and its response. -/
theorem exec_interrupted (hturn : s.turn = true) :
    exec c s =
      .next (if readsOnly q then claimOnly p act (takeRequest p q s).dropTurn else (takeRequest p q s).dropTurn) := by
  rw [exec_takes hpin hcount hnext htakes, takeAndCheck_gap hpriv hbody hturn]

theorem exec_whole :
    exec c { s with turns := false :: s.turns.tail } = .next (conclude p q act (takeRequest p q s).dropTurn) := by
  rw [exec_takes (s := { s with turns := false :: s.turns.tail }) hpin hcount hnext htakes,
    takeAndCheck_ok (s := { s with turns := false :: s.turns.tail }) hpriv hbody rfl]
  rfl

end interrupted

/-- Settles O48: the taking by the examination's order, the response by its port's record, and a course with other
events in it by `exec_claimOnly`. -/
theorem agentTakesAndAnswers : Obligations.AgentTakesAndAnswers := by
  unfold Obligations.AgentTakesAndAnswers
  intro echo
  have hecho (q : Request) : echo q = selectorEcho q := (selectorEcho_eq q).symm
  refine ⟨⟨?taking, ?idle, ?response⟩, fun c s p q hc hpin hcount hnext => exec_otherRow hc hpin hcount hnext,
    fun c s e hc hpin hcount he => ⟨exec_otherExecution hc hpin hcount he, fun a => exec_answers hc hpin hcount he⟩,
    ?interrupted⟩
  case taking =>
    intro s p q rest k eligible hx hk hp he hfirst hq
    have heligible (x : PortNo) : s.eligible x = true ↔ eligible x := eligible_iff s x
    have hfind := find_examinationOrder hk hp ((heligible p).2 he) fun j hj x hxj hex =>
      hfirst j hj x hxj ((heligible x).1 hex)
    exact ⟨nextRequest_eq hx hfind hq, takeRequest_eq hq⟩
  case idle =>
    intro s hx h
    have hnone := nextRequest_none hx h
    exact ⟨hnone, fun c hc hpin hcount => exec_noRequest hc hpin hcount hx hnone⟩
  case response =>
    intro s p q a e he
    rw [hecho]
    exact respond_eq he
  case interrupted =>
    intro c s p q hpin hcount hnext htakes hc hallowed htarget hselector hscope hturn whole t
    obtain ⟨x, hx⟩ := ofCode_known htakes hc
    have hpriv := privilegeFailure_allowed hx hallowed
    obtain ⟨act, hbody⟩ := (checked_bodyOf htakes hc).passes htarget hselector hscope
    have hwhole : whole = .next (conclude p q act t) := exec_whole hpin hcount hnext htakes hpriv hbody
    have hfirst := exec_interrupted hpin hcount hnext htakes hpriv hbody hturn
    have hact : standing (act t).2 = standing t := keepsStanding_bodyOf c p q _ act hbody t rfl
    have hcourse := exec_claimOnly (t := t) htakes hpin hcount rfl hact
    refine ⟨fun hlate => ?_, fun hread => ?_⟩
    · have hclaims : exec c t = .next (claimOnly p act t) :=
        exec_claims (s := t) (isManagement_of_takes htakes) hpin hcount rfl htakes rfl hbody
      rw [if_neg fun h => absurd ((readsOnly_iff hx).1 h) (Nat.not_le.2 hlate)] at hfirst
      refine ⟨hfirst, _, hclaims, fun h => ?_, fun h => ?_⟩
      · rw [hwhole, hcourse.1 h]
      · rw [hwhole, hcourse.2 h]
    · obtain ⟨octets, rfl⟩ := reads_bodyOf ((ofCode_of_takes htakes).symm.trans hx)
        ((isRead_iff x).2 (codeOf_of_ofCode hx ▸ hread)) p q act hbody
      rw [if_pos ((readsOnly_iff hx).2 hread)] at hfirst
      exact ⟨_, hfirst, hwhole.trans (hcourse.2 nofun).symm, ⟨.done, octets t⟩, rfl⟩

end Sys2Proof.Proofs.Agent

/-! The other cells of an edge port: those that are no traffic and no request, those that fail their check, and what
comes in on a HUNTING port. -/

namespace Sys2Proof.Proofs.EdgeCells

open Sys2Proof Sys2Proof.Machine

section edge
variable {s : State} {p : PortNo} (take : State → State)

theorem onEdgeCell_aligned (h : (s.port p).aligned = true) :
    onEdgeCell p take s = take (s.modPort p fun r => { r with received := r.received + 1, failures := 0 }) :=
  if_pos h

/-- On a HUNTING port the cell counts toward the six. -/
theorem onEdgeCell_hunting (h : (s.port p).aligned = false) :
    onEdgeCell p take s = s.modPort p fun r => { r with passes := min 6 (r.passes + 1) } := by
  simp only [onEdgeCell, h, Bool.false_eq_true, if_false]
  rfl

theorem failures_raise (pt : CausePoint) (s : State) (p : PortNo) :
    ((raise pt s).port p).failures = (s.port p).failures :=
  (congrArg PortRec.failures (port_of_sansNotices (raise_sansNotices s pt) p) :)

/-- A failed check on an ALIGNED port is counted with BAD_CHECK; the seventh in a row takes the link DOWN. -/
theorem failedEdgeCell_aligned (h : (s.port p).aligned = true) :
    failedEdgeCell p s =
      let t := raise (.port p .badCheck) (s.modPort p fun r =>
        { r with checkFailures := r.checkFailures + 1, failures := r.failures + 1 })
      if (s.port p).failures + 1 < 7 then t else edgeLinkDown p t := by
  have hseven : Config.failuresToLose ≤ (s.port p).failures + 1 ↔ ¬ (s.port p).failures + 1 < 7 := Nat.not_lt.symm
  simp only [failedEdgeCell, h, if_true, failures_raise, port_modPort_same, hseven, ite_not]

theorem failedEdgeCell_hunting (h : (s.port p).aligned = false) :
    failedEdgeCell p s = s.modPort p fun r => { r with passes := 0 } := by simp [failedEdgeCell, h]

/-- Settles O17, by the port's alignment. -/
theorem otherEdgeCells : Obligations.OtherEdgeCells := by
  intro s p kind hpin hcount
  have run (f : State → State) : running f s = .next (f s) := running_counted hpin hcount
  refine ⟨fun haligned => ⟨?fill, ?badKind, ?badCheck⟩, fun hhunting => ⟨fun c q hfirst => ?passing, ?failing⟩⟩
  case fill => exact (run _).trans (congrArg _ (onEdgeCell_aligned id haligned))
  case badKind =>
    refine (run _).trans (congrArg _ ?_)
    rw [onEdgeCell_aligned _ haligned, badKind, modPort_modPort]
  case badCheck =>
    intro failed
    have down : exec (.edgeLinkDown p) failed = .next (edgeLinkDown p failed) :=
      running_counted ((raise_resetPin _ _).trans hpin) ((raise_uncounted _ _).trans hcount)
    rw [down]
    exact (run _).trans ((congrArg _ (failedEdgeCell_aligned haligned)).trans (apply_ite _ _ _ _))
  case passing =>
    have counted (take : State → State) := onEdgeCell_hunting take hhunting
    simp only [List.forall_mem_cons, List.not_mem_nil, false_implies, implies_true, and_true]
    exact ⟨(run _).trans (congrArg _ (counted _)), (run _).trans (congrArg _ (counted _)),
      (run _).trans (congrArg _ ((trafficCell_first hfirst).trans (counted _))), (run _).trans (congrArg _ (counted _))⟩
  case failing => exact (run _).trans (congrArg _ (failedEdgeCell_hunting hhunting))

end edge

end Sys2Proof.Proofs.EdgeCells

/-! The statements of the formats: the octets that a table carries, those of the READ commands and of a report, and the
images that are sent and read back. -/

namespace Sys2Proof.Proofs.Formats

open Sys2Proof Sys2Proof.Machine

/-! ### The octets of a table (R166) -/

section tables
variable {n : Nat}

theorem octetAt_octetTable (n : Nat) (l : List Byte) (k : Nat) :
    octetAt (octetTable n l) k = if k < n then l.getD k 0 else 0 := by
  simp only [octetAt, octetTable, Vector.toList_mk, List.getD_eq_getElem?_getD, List.getElem?_take]
  split
  · by_cases hl : k < l.length
    · rw [List.getElem?_append_left hl]
    · rw [List.getElem?_append_right (Nat.le_of_not_lt hl), List.getElem?_replicate,
        List.getElem?_eq_none (Nat.le_of_not_lt hl)]
      split <;> rfl
  · rfl

/-- A list that fills the table is kept as it is. -/
theorem toList_octetTable {l : List Byte} (h : l.length = n) : (octetTable n l).toList = l := by
  subst h
  exact List.take_left

theorem octetTable_toList (t : Table n Byte) : octetTable n t.toList = t :=
  Vector.toList_inj.1 (toList_octetTable t.toList_length)

end tables

/-- The table has the octets of the list from `k` on. -/
inductive Carries {n : Nat} (t : Table n Byte) : Nat → List Byte → Prop
  | nil {k : Nat} : Carries t k []
  | cons {k : Nat} {o : Byte} {os : List Byte} (head : octetAt t k = o) (tail : Carries t (k + 1) os) :
      Carries t k (o :: os)

section carries
variable {n k : Nat} {t : Table n Byte} {l l' : List Byte}

@[simp] theorem carries_nil : Carries t k [] := .nil

@[simp] theorem carries_cons (o : Byte) : Carries t k (o :: l) ↔ octetAt t k = o ∧ Carries t (k + 1) l :=
  ⟨fun h => by cases h with | cons head tail => exact ⟨head, tail⟩, fun h => .cons h.1 h.2⟩

@[simp] theorem carries_append : Carries t k (l ++ l') ↔ Carries t k l ∧ Carries t (k + l.length) l' := by
  induction l generalizing k with
  | nil => simp
  | cons o os ih => simp [ih, and_assoc, Nat.add_assoc, Nat.add_comm 1]

/-- A table made of a list carries each part of it that fits. -/
theorem carries_octetTable (pre l post : List Byte) (h : pre.length + l.length ≤ n) :
    Carries (octetTable n (pre ++ (l ++ post))) pre.length l := by
  induction l generalizing pre with
  | nil => exact .nil
  | cons o os ih =>
    rw [List.length_cons] at h
    refine .cons ?_ ?_
    · rw [octetAt_octetTable, if_pos (by omega)]
      simp
    · simpa using ih (pre ++ [o]) (by rw [List.length_append, List.length_singleton]; omega)

/-- The items of a list, each sent as `w` octets, follow each other. -/
theorem carries_flatMap {α : Type} {f : α → List Byte} {w : Nat} (hw : ∀ x, (f x).length = w) {xs : List α}
    (h : Carries t k (xs.flatMap f)) {j : Nat} {x : α} (hx : xs[j]? = some x) : Carries t (k + w * j) (f x) := by
  induction xs generalizing k j with
  | nil => simp at hx
  | cons y ys ih =>
    rw [List.flatMap_cons, carries_append, hw] at h
    obtain ⟨hy, hys⟩ := h
    cases j with
    | zero =>
      obtain rfl : y = x := by simpa using hx
      exact hy
    | succ j =>
      rw [Nat.mul_succ, Nat.add_comm (w * j), ← Nat.add_assoc]
      exact ih hys (by simpa using hx)

end carries

/-! ### Numbers in octets (R166) -/

@[simp] theorem length_octet1 (v : Nat) : (octet1 v).length = 1 := rfl
@[simp] theorem length_octets2 (v : Nat) : (octets2 v).length = 2 := rfl
@[simp] theorem length_octets4 (b : BitVec 32) : (octets4 b).length = 4 := rfl
@[simp] theorem length_octetOfBool (b : Bool) : (octetOfBool b).length = 1 := rfl

section numbers
variable {n k : Nat} {t : Table n Byte}

@[simp] theorem carries_octet1 (v : Nat) : Carries t k (octet1 v) ↔ octetAt t k = BitVec.ofNat 8 v := by
  simp [octet1]

@[simp] theorem carries_octetOfBool (b : Bool) : Carries t k (octetOfBool b) ↔ octetAt t k = if b then 1 else 0 := by
  simp [octetOfBool]

theorem toNat_octetAt {v : Nat} (h : octetAt t k = BitVec.ofNat 8 v) (hv : v ≤ 255) : (octetAt t k).toNat = v := by
  rw [h, BitVec.toNat_ofNat]
  exact Nat.mod_eq_of_lt (by omega)

theorem word16At_octets2 {v : Nat} (h : Carries t k (octets2 v)) (hv : v ≤ 65535) : word16At t k = v := by
  obtain ⟨hhigh, hlow⟩ := by simpa [octets2] using h
  rw [word16At, hhigh, hlow, BitVec.toNat_ofNat, BitVec.toNat_ofNat]
  omega

/-- The number in octets `k` to `k + 3`, most significant first (R166). -/
def word32At (t : Table n Byte) (k : Nat) : BitVec 32 :=
  octetAt t k ++ octetAt t (k + 1) ++ octetAt t (k + 2) ++ octetAt t (k + 3)

theorem word32At_octets4 {b : BitVec 32} (h : Carries t k (octets4 b)) : word32At t k = b := by
  obtain ⟨h0, h1, h2, h3⟩ := by simpa [octets4] using h
  rw [word32At, h0, h1, h2, h3, BitVec.extractLsb'_append_extractLsb'_eq_extractLsb' (start₁ := 16) (len₁ := 8) rfl,
    BitVec.extractLsb'_append_extractLsb'_eq_extractLsb' (start₁ := 8) (len₁ := 8) rfl,
    BitVec.extractLsb'_append_extractLsb'_eq_extractLsb' (start₁ := 0) (len₁ := 8) rfl]
  exact BitVec.extractLsb'_eq_self

end numbers

/-! ### The stream image (R169) -/

/-- A stream image's numbers fit the octets that they are sent in. -/
def StreamFits (m : StreamImage) : Prop :=
  m.queueLimit ≤ 255 ∧ m.creditCap ≤ 15 ∧ m.initialCredit ≤ 15 ∧ m.reload ≤ 65535 ∧ m.holdTime ≤ 65535
    ∧ ∀ n, m.leadPoint = some n → n ≤ 65535

/-- What the octets from `k` say when they are a stream image's block with a generation (R169, R173). -/
structure SaysStreamImage (t : Payload) (k : Nat) (m : StreamImage) (generation : Nat) : Prop where
  sourcePort : (octetAt t k).toNat = m.sourcePort.val
  group : (octetAt t (k + 1)).toNat = m.group.val
  queueLimit : (octetAt t (k + 2)).toNat = m.queueLimit
  creditCap : (octetAt t (k + 3)).toNat = m.creditCap
  initialCredit : (octetAt t (k + 4)).toNat = m.initialCredit
  leadPresent : (octetAt t (k + 5)).getLsbD 0 = m.leadPoint.isSome
  sequenceCheck : (octetAt t (k + 5)).getLsbD 1 = m.sequenceCheck
  runAtOpen : (octetAt t (k + 5)).getLsbD 2 = m.runAtOpen
  reload : word16At t (k + 6) = m.reload
  leadPoint : word16At t (k + 8) = m.leadPoint.getD 0
  holdTime : word16At t (k + 10) = m.holdTime
  reportMask : octetAt t (k + 12) = m.reportMask.setWidth 8
  generation : generation ≤ 65535 → word16At t (k + 13) = generation
  last : octetAt t (k + 15) = 0

section streamImage
variable {t : Payload} {k : Nat} {m : StreamImage} {generation : Nat}

@[simp] theorem length_streamImage_octets (m : StreamImage) (generation : Nat) : (m.octets generation).length = 16 :=
  rfl

/-- The three flags of a stream image, each in its bit (R169). -/
theorem getLsbD_flags : ∀ a b c : Bool,
    let o := BitVec.ofNat 8 (a.toNat + 2 * b.toNat + 4 * c.toNat)
    o.getLsbD 0 = a ∧ o.getLsbD 1 = b ∧ o.getLsbD 2 = c := by decide

theorem carries_streamImage : Carries t k (m.octets generation) ↔
    octetAt t k = BitVec.ofNat 8 m.sourcePort.val ∧ octetAt t (k + 1) = BitVec.ofNat 8 m.group.val
    ∧ octetAt t (k + 2) = BitVec.ofNat 8 m.queueLimit ∧ octetAt t (k + 3) = BitVec.ofNat 8 m.creditCap
    ∧ octetAt t (k + 4) = BitVec.ofNat 8 m.initialCredit
    ∧ octetAt t (k + 5) =
        BitVec.ofNat 8 (m.leadPoint.isSome.toNat + 2 * m.sequenceCheck.toNat + 4 * m.runAtOpen.toNat)
    ∧ Carries t (k + 6) (octets2 m.reload) ∧ Carries t (k + 8) (octets2 (m.leadPoint.getD 0))
    ∧ Carries t (k + 10) (octets2 m.holdTime) ∧ octetAt t (k + 12) = m.reportMask.setWidth 8
    ∧ Carries t (k + 13) (octets2 generation) ∧ octetAt t (k + 15) = 0 := by
  simp [StreamImage.octets]

/-- The block of a stream image says that image. -/
theorem says_of_carries_streamImage (h : Carries t k (m.octets generation)) (hfits : StreamFits m) :
    SaysStreamImage t k m generation := by
  obtain ⟨hport, hgroup, hlimit, hcap, hcredit, hflags, hreload, hlead, hhold, hmask, hgeneration, hlast⟩ :=
    carries_streamImage.1 h
  obtain ⟨limitFits, capFits, creditFits, reloadFits, holdFits, leadFits⟩ := hfits
  obtain ⟨hpresent, hcheck, hrun⟩ := getLsbD_flags m.leadPoint.isSome m.sequenceCheck m.runAtOpen
  rw [← hflags] at hpresent hcheck hrun
  have leadFits : m.leadPoint.getD 0 ≤ 65535 := by
    cases hm : m.leadPoint with
    | none => exact Nat.zero_le _
    | some n => exact leadFits n hm
  exact {
    sourcePort := toNat_octetAt hport (by omega)
    group := toNat_octetAt hgroup (by omega)
    queueLimit := toNat_octetAt hlimit limitFits
    creditCap := toNat_octetAt hcap (by omega)
    initialCredit := toNat_octetAt hcredit (by omega)
    leadPresent := hpresent
    sequenceCheck := hcheck
    runAtOpen := hrun
    reload := word16At_octets2 hreload reloadFits
    leadPoint := word16At_octets2 hlead leadFits
    holdTime := word16At_octets2 hhold holdFits
    reportMask := hmask
    generation := word16At_octets2 hgeneration
    last := hlast }

/-- A mask sent in an octet is its low bits. -/
theorem extractLsb'_setWidth {w : Nat} (hw : w ≤ 8) (x : BitVec w) : (x.setWidth 8).extractLsb' 0 w = x := by
  rw [← BitVec.setWidth_eq_extractLsb' (by omega)]
  simp [hw]

/-- The image read is the image said. -/
theorem SaysStreamImage.streamImageOf (h : SaysStreamImage t k m generation) (hport : (octetAt t k).toNat < 6)
    (hgroup : (octetAt t (k + 1)).toNat < 4) : Staging.streamImageOf t k ⟨_, hport⟩ ⟨_, hgroup⟩ = m := by
  have lead : (if m.leadPoint.isSome then some (m.leadPoint.getD 0) else none) = m.leadPoint := by
    cases m.leadPoint <;> rfl
  simp only [Staging.streamImageOf, h.sourcePort, h.group, h.queueLimit, h.creditCap, h.initialCredit, h.leadPresent,
    h.sequenceCheck, h.runAtOpen, h.reload, h.leadPoint, h.holdTime, h.reportMask, lead,
    extractLsb'_setWidth (w := 6) (by omega)]

end streamImage

/-! ### The device parameter set (R170) -/

/-- Each lane's group is a base-4 digit of its map octet (R170). -/
theorem mapOctet_digit (gs : List GroupNo) (j : Nat) (hj : j < gs.length) : mapOctet gs / 4 ^ j % 4 = gs[j].val := by
  induction gs generalizing j with
  | nil => exact absurd hj (Nat.not_lt_zero j)
  | cons g gs ih =>
    have hg := g.isLt
    cases j with
    | zero =>
      simp only [mapOctet, Nat.pow_zero, Nat.div_one, List.getElem_cons_zero]
      omega
    | succ j =>
      have hdiv : (g.val + 4 * mapOctet gs) / 4 = mapOctet gs := by omega
      rw [mapOctet, Nat.pow_succ', ← Nat.div_div_eq_div_mul, hdiv, List.getElem_cons_succ]
      exact ih j (Nat.lt_of_succ_lt_succ hj)

theorem mapOctet_lt (gs : List GroupNo) : mapOctet gs < 4 ^ gs.length := by
  induction gs with
  | nil => exact Nat.zero_lt_one
  | cons g gs ih =>
    have hg := g.isLt
    rw [mapOctet, List.length_cons, Nat.pow_succ']
    omega

/-- A device parameter set's numbers fit the octets that they are sent in. -/
def DeviceFits (d : DeviceParams) : Prop :=
  d.paceMultiplier ≤ 65535 ∧ d.budgetCount ≤ 255 ∧ d.budgetWindow ≤ 65535 ∧ d.bindSpacing ≤ 65535
    ∧ d.answerTimeout ≤ 65535 ∧ d.refusalLimit ≤ 255 ∧ d.settleInterval ≤ 255 ∧ d.commitTimeout ≤ 65535

/-- The report port's octet: 0xFF for NONE (R170). -/
def reportPortCode (x : Option PortNo) : Nat := match x with | some p => p.val | none => 255

/-- What the octets from `k` say when they are a device parameter set's block (R170). -/
structure SaysDevice (t : Payload) (k : Nat) (d : DeviceParams) : Prop where
  paceMultiplier : word16At t k = d.paceMultiplier
  budgetCount : (octetAt t (k + 2)).toNat = d.budgetCount
  budgetWindow : word16At t (k + 3) = d.budgetWindow
  bindSpacing : word16At t (k + 5) = d.bindSpacing
  answerTimeout : word16At t (k + 7) = d.answerTimeout
  refusalLimit : (octetAt t (k + 9)).toNat = d.refusalLimit
  settleInterval : (octetAt t (k + 10)).toNat = d.settleInterval
  commitTimeout : word16At t (k + 11) = d.commitTimeout
  reportPort : (octetAt t (k + 13)).toNat = reportPortCode d.reportPort
  groupMap : ∀ l : LaneNo,
    (octetAt t (k + 14 + l.val / 4)).toNat / 4 ^ (l.val % 4) % 4 = (d.groupMap.read l).val
  laneMask : octetAt t (k + 18) = d.laneMask.setWidth 8
  portMask : octetAt t (k + 19) = d.portMask.setWidth 8
  deviceMask : octetAt t (k + 20) = d.deviceMask.setWidth 8

section device
variable {t : Payload} {k : Nat} {d : DeviceParams}

@[simp] theorem length_mapOctets (m : Table 16 GroupNo) : (mapOctets m).length = 4 := rfl

@[simp] theorem length_device_octets (d : DeviceParams) : d.octets.length = 21 := rfl

/-- A lane's group stands in the map octet of its four lanes (R170). -/
theorem group_of_carries_mapOctets {m : Table 16 GroupNo} (h : Carries t k (mapOctets m)) (l : LaneNo) :
    (octetAt t (k + l.val / 4)).toNat / 4 ^ (l.val % 4) % 4 = (m.read l).val := by
  have hl := l.isLt
  have octet (q : Nat) (hq : q < 4) :
      octetAt t (k + q) = BitVec.ofNat 8 (mapOctet ((m.toList.drop (4 * q)).take 4)) := by
    obtain ⟨h0, h1, h2, h3⟩ := by simpa [mapOctets] using h
    interval_cases q
    exacts [h0, h1, h2, h3]
  have hlength : ((m.toList.drop (4 * (l.val / 4))).take 4).length = 4 := by
    rw [List.length_take, List.length_drop, m.toList_length]
    omega
  have hlt := mapOctet_lt ((m.toList.drop (4 * (l.val / 4))).take 4)
  rw [hlength] at hlt
  rw [toNat_octetAt (octet (l.val / 4) (by omega)) (by omega), mapOctet_digit _ _ (by omega), List.getElem_take,
    List.getElem_drop, ← m.toList_getElem l]
  simp only [Nat.div_add_mod]

theorem carries_device : Carries t k d.octets ↔
    Carries t k (octets2 d.paceMultiplier) ∧ octetAt t (k + 2) = BitVec.ofNat 8 d.budgetCount
    ∧ Carries t (k + 3) (octets2 d.budgetWindow) ∧ Carries t (k + 5) (octets2 d.bindSpacing)
    ∧ Carries t (k + 7) (octets2 d.answerTimeout) ∧ octetAt t (k + 9) = BitVec.ofNat 8 d.refusalLimit
    ∧ octetAt t (k + 10) = BitVec.ofNat 8 d.settleInterval ∧ Carries t (k + 11) (octets2 d.commitTimeout)
    ∧ octetAt t (k + 13) = BitVec.ofNat 8 (reportPortCode d.reportPort) ∧ Carries t (k + 14) (mapOctets d.groupMap)
    ∧ octetAt t (k + 18) = d.laneMask.setWidth 8 ∧ octetAt t (k + 19) = d.portMask.setWidth 8
    ∧ octetAt t (k + 20) = d.deviceMask.setWidth 8 := by
  cases hport : d.reportPort <;> simp [DeviceParams.octets, reportPortCode, hport]

theorem reportPortCode_le (x : Option PortNo) : reportPortCode x ≤ 255 := by
  cases x with
  | none => exact Nat.le_refl _
  | some p => exact Nat.le_trans (Nat.le_of_lt p.isLt) (by omega)

/-- The block of a device parameter set says that set. -/
theorem says_of_carries_device (h : Carries t k d.octets) (hfits : DeviceFits d) : SaysDevice t k d := by
  obtain ⟨hpace, hcount, hwindow, hspacing, hanswer, hrefusals, hsettle, hcommit, hport, hmap, hlane, hports,
    hdevice⟩ := carries_device.1 h
  obtain ⟨paceFits, countFits, windowFits, spacingFits, answerFits, refusalsFit, settleFits, commitFits⟩ := hfits
  exact {
    paceMultiplier := word16At_octets2 hpace paceFits
    budgetCount := toNat_octetAt hcount countFits
    budgetWindow := word16At_octets2 hwindow windowFits
    bindSpacing := word16At_octets2 hspacing spacingFits
    answerTimeout := word16At_octets2 hanswer answerFits
    refusalLimit := toNat_octetAt hrefusals refusalsFit
    settleInterval := toNat_octetAt hsettle settleFits
    commitTimeout := word16At_octets2 hcommit commitFits
    reportPort := toNat_octetAt hport (reportPortCode_le _)
    groupMap := group_of_carries_mapOctets hmap
    laneMask := hlane
    portMask := hports
    deviceMask := hdevice }

theorem SaysDevice.reportPortOf (h : SaysDevice t k d) : reportPortOf (octetAt t (k + 13)) = some d.reportPort := by
  cases hport : d.reportPort with
  | none => exact Staging.reportPortOf_none (h.reportPort.trans (congrArg reportPortCode hport))
  | some p => exact Staging.reportPortOf_port (h.reportPort.trans (congrArg reportPortCode hport))

/-- The set read is the set said. -/
theorem SaysDevice.deviceImageOf (h : SaysDevice t k d) : Staging.deviceImageOf t k d.reportPort = d := by
  have hmap : groupMapAt t (k + 14) = d.groupMap := by
    ext l
    rw [Staging.read_groupMapAt, ← Nat.add_assoc]
    exact h.groupMap l
  simp only [Staging.deviceImageOf, h.paceMultiplier, h.budgetCount, h.budgetWindow, h.bindSpacing, h.answerTimeout,
    h.refusalLimit, h.settleInterval, h.commitTimeout, h.laneMask, h.portMask, h.deviceMask, hmap,
    extractLsb'_setWidth (w := 4) (by omega), extractLsb'_setWidth (w := 6) (by omega)]

end device

/-- Settles O54: what a block says is what the checks read, and its ranges are those of the checks. -/
theorem imageRoundTrip : Obligations.ImageRoundTrip := by
  refine ⟨?stream, ?device⟩
  case stream =>
    intro m generation lead hlength hlimit hlimit' hreload hreload' hlead hcap hcap' hcredit hhold
    have hcarries : Carries (octetTable 56 (lead ++ m.octets generation)) 3 (m.octets generation) := by
      simpa [hlength] using carries_octetTable (n := 56) lead (m.octets generation) [] (by simp [hlength])
    have hfits : StreamFits m := ⟨hlimit', hcap', by omega, hreload', by omega, fun n hn => (hlead n hn).trans hreload'⟩
    have h := says_of_carries_streamImage hcarries hfits
    have hport := h.sourcePort.trans_lt m.sourcePort.isLt
    have hgroup := h.group.trans_lt m.group.isLt
    have hrange : Staging.StreamFieldsInRange (octetTable 56 (lead ++ m.octets generation)) 3 := by
      rw [Staging.StreamFieldsInRange, Staging.leadPoint_le_iff, h.queueLimit, h.reload, h.leadPresent, h.leadPoint,
        h.creditCap, h.initialCredit, h.holdTime]
      refine ⟨hlimit, hreload, fun hsome => ?_, hcap, hcap', hcredit, hhold⟩
      obtain ⟨n, hn⟩ := Option.isSome_iff_exists.1 hsome
      exact hn ▸ hlead n hn
    rw [Staging.streamImageAt_inRange hport hgroup hrange, h.streamImageOf]
  case device =>
    intro d lead hlength hpace hpace' hcount hcount' hwindow hwindow' hspacing hspacing' hanswer hanswer' hrefusals
      hrefusals' hsettle hcommit hcommit'
    have hcarries : Carries (octetTable 56 (lead ++ d.octets)) 3 d.octets := by
      simpa [hlength] using carries_octetTable (n := 56) lead d.octets [] (by simp [hlength])
    have hfits : DeviceFits d :=
      ⟨by omega, by omega, hwindow', by omega, by omega, by omega, hsettle, hcommit'⟩
    have h := says_of_carries_device hcarries hfits
    have hrange : Staging.DeviceFieldsInRange (octetTable 56 (lead ++ d.octets)) 3 := by
      rw [Staging.DeviceFieldsInRange, h.paceMultiplier, h.budgetCount, h.budgetWindow, h.bindSpacing, h.answerTimeout,
        h.refusalLimit, h.commitTimeout]
      exact ⟨hpace, hpace', hcount, hcount', hwindow, hspacing, hspacing', hanswer, hanswer', hrefusals, hrefusals',
        hcommit⟩
    rw [Staging.deviceImageAt_inRange h.reportPortOf hrange, h.deviceImageOf]

/-! ### What the READ commands return, and a report (R149, R169 to R171, R173) -/

section result
variable {code selector : Byte} {octets : List Byte} {k : Nat}

/-- A result stands in its response from octet 2 on (R168). -/
theorem carries_result (h : octets.length ≤ 54) : Carries (responsePayload code selector octets) 2 octets := by
  have hfits : [code, selector].length + octets.length ≤ 56 := by
    rw [List.length_cons, List.length_singleton]
    omega
  simpa [responsePayload] using carries_octetTable [code, selector] octets [] hfits

/-- Past its result a response is zero. -/
theorem octetAt_pastResult (h : octets.length + 2 ≤ k) : octetAt (responsePayload code selector octets) k = 0 := by
  rw [responsePayload, octetAt_octetTable, List.getD_eq_default _ _ h, ite_self]

end result

section layouts
variable {n k : Nat} {t : Table n Byte}

@[simp] theorem length_octetsOfDeadline (d : Option PaceCount) : (octetsOfDeadline d).length = 5 := rfl

@[simp] theorem carries_octetsOfDeadline (d : Option PaceCount) : Carries t k (octetsOfDeadline d) ↔
    octetAt t k = (if d.isSome then 1 else 0) ∧ Carries t (k + 1) (octets4 (d.getD 0)) := by
  rw [octetsOfDeadline, carries_append, carries_octetOfBool, length_octetOfBool]

theorem carries_deviceStatus (s : State) : Carries t k (deviceStatusOctets s) ↔
    octetAt t k = BitVec.ofNat 8 Config.vendorCode ∧ Carries t (k + 1) (octets2 Config.partCode)
    ∧ octetAt t (k + 3) = BitVec.ofNat 8 Config.revision ∧ Carries t (k + 4) (octets2 s.freeBuffers)
    ∧ octetAt t (k + 6) = (if s.trunkUp then 1 else 0) ∧ octetAt t (k + 7) = (if s.trunkCommitPending then 1 else 0)
    ∧ Carries t (k + 8) (octets4 s.paceCount) := by
  simp [deviceStatusOctets]

theorem carries_deviceConfig (s : State) : Carries t k (deviceConfigOctets s) ↔
    Carries t k s.params.octets ∧ octetAt t (k + 21) = (if s.stagedParams.isSome then 1 else 0)
    ∧ ∀ d, s.stagedParams = some d → Carries t (k + 22) d.octets := by
  cases hd : s.stagedParams <;> simp [deviceConfigOctets, hd]

theorem length_deviceConfig (s : State) :
    (deviceConfigOctets s).length = if s.stagedParams.isSome then 43 else 22 := by
  cases hd : s.stagedParams <;> simp [deviceConfigOctets, hd]

theorem carries_portConfig (r : PortRec) : Carries t k (portConfigOctets r) ↔
    octetAt t k = (if r.record.acceptance then 1 else 0) ∧ octetAt t (k + 1) = BitVec.ofNat 8 r.record.level.code
    ∧ octetAt t (k + 2) = (if r.staged.isSome then 1 else 0)
    ∧ ((∀ x, r.staged = some x →
        octetAt t (k + 3) = (if x.acceptance then 1 else 0) ∧ octetAt t (k + 4) = BitVec.ofNat 8 x.level.code)
      ∧ (r.staged = none → octetAt t (k + 3) = 0 ∧ octetAt t (k + 4) = 0))
    ∧ octetAt t (k + 5) = (if r.aligned then 1 else 0) ∧ octetAt t (k + 6) = BitVec.ofNat 8 r.requests.length
    ∧ octetAt t (k + 7) = BitVec.ofNat 8 r.placesUsed := by
  cases hx : r.staged <;> simp [portConfigOctets, hx, and_assoc]

theorem length_portConfig (r : PortRec) : (portConfigOctets r).length = 8 := by
  cases hx : r.staged <;> simp [portConfigOctets, hx]

/-- The number of a thing that may be absent, 0 where it is (R173). -/
def numberOf {m : Nat} (x : Option (Fin m)) : Nat := x.elim 0 Fin.val

theorem numberOf_le {m v : Nat} (h : m ≤ v) (x : Option (Fin m)) : numberOf x ≤ v := by
  cases x with
  | none => exact Nat.zero_le _
  | some i => exact Nat.le_trans (Nat.le_of_lt i.isLt) h

theorem carries_portCounters (r : PortRec) : Carries t k (portCounterOctets r) ↔
    Carries t k (octets4 r.received) ∧ Carries t (k + 4) (octets4 r.checkFailures)
    ∧ Carries t (k + 8) (octets4 r.badKinds) ∧ Carries t (k + 12) (octets4 r.misrouted)
    ∧ octetAt t (k + 16) = (if r.lastMisrouted.isSome then 1 else 0)
    ∧ Carries t (k + 17) (octets2 (numberOf r.lastMisrouted)) := by
  cases hi : r.lastMisrouted <;> simp [portCounterOctets, numberOf, hi]

theorem carries_laneRecord (r : LaneRec) : Carries t k (laneRecordOctets r) ↔
    octetAt t k = BitVec.ofNat 8 r.state.code ∧ octetAt t (k + 1) = (if r.holder.isSome then 1 else 0)
    ∧ Carries t (k + 2) (octets2 (numberOf r.holder)) ∧ octetAt t (k + 4) = r.tag
    ∧ octetAt t (k + 5) = BitVec.ofNat 8 (outstandingCode r.outstanding)
    ∧ octetAt t (k + 6) = (if r.answerDeadline.isSome then 1 else 0)
    ∧ Carries t (k + 7) (octets4 (r.answerDeadline.getD 0))
    ∧ octetAt t (k + 11) = (if r.holdDeadline.isSome then 1 else 0)
    ∧ Carries t (k + 12) (octets4 (r.holdDeadline.getD 0)) ∧ octetAt t (k + 16) = (if r.paused then 1 else 0)
    ∧ octetAt t (k + 17) = (if r.disablePending then 1 else 0) ∧ octetAt t (k + 18) = BitVec.ofNat 8 r.group.val
    ∧ Carries t (k + 19) (octets4 r.bindsAccepted) ∧ Carries t (k + 23) (octets4 r.bindsRefused)
    ∧ Carries t (k + 27) (octets4 r.answerTimeouts) ∧ Carries t (k + 31) (octets4 r.staleAnswers) := by
  cases hi : r.holder <;> simp [laneRecordOctets, numberOf, hi, and_assoc]

theorem carries_streamConfig (r : StreamRec) : Carries t k (streamConfigOctets r) ↔
    Carries t k (r.config.octets r.generation) ∧ octetAt t (k + 16) = (if r.staged.isSome then 1 else 0)
    ∧ ∀ m, r.staged = some m → Carries t (k + 17) (m.octets (nextGeneration r.generation)) := by
  cases hm : r.staged <;> simp [streamConfigOctets, hm]

/-- A generation stays a number of two octets (R1). -/
theorem nextGeneration_le {g : Nat} (h : g ≤ 65535) : nextGeneration g ≤ 65535 := by
  unfold nextGeneration
  split <;> omega

theorem length_streamConfig (r : StreamRec) :
    (streamConfigOctets r).length = if r.staged.isSome then 33 else 17 := by
  cases hm : r.staged <;> simp [streamConfigOctets, hm]

@[simp] theorem length_codes (x : Life) : x.codes.length = 2 := by
  rcases x with _ | _ | _ | (_ | _) <;> rfl

theorem carries_codes (x : Life) :
    Carries t k x.codes ↔ octetAt t k = x.codes.getD 0 0 ∧ octetAt t (k + 1) = x.codes.getD 1 0 := by
  rcases x with _ | _ | _ | (_ | _) <;> simp [Life.codes]

theorem carries_streamState (i : StreamNo) (s : State) : Carries t k (streamStateOctets i s) ↔
    let r := s.stream i
    let entry := s.requests.find? fun e => e.stream == i
    Carries t k r.life.codes ∧ Carries t (k + 2) (octets2 r.count) ∧ octetAt t (k + 4) = BitVec.ofNat 8 r.credit
    ∧ octetAt t (k + 5) = BitVec.ofNat 8 r.timer.code ∧ octetAt t (k + 6) = BitVec.ofNat 8 r.queue.length
    ∧ octetAt t (k + 7) = (if r.expected.isSome then 1 else 0) ∧ octetAt t (k + 8) = r.expected.getD 0
    ∧ octetAt t (k + 9) = (if r.heldLane.isSome then 1 else 0)
    ∧ octetAt t (k + 10) = BitVec.ofNat 8 (numberOf r.heldLane)
    ∧ ((∀ e, entry = some e →
        octetAt t (k + 11) = 1 ∧ Carries t (k + 12) (octets4 e.time)
        ∧ octetAt t (k + 16) = BitVec.ofNat 8 e.reason.code)
      ∧ (entry = none → octetAt t (k + 11) = 0 ∧ Carries t (k + 12) (octets4 0) ∧ octetAt t (k + 16) = 0))
    ∧ octetAt t (k + 17) = BitVec.ofNat 8 r.refusals ∧ octetAt t (k + 18) = (if r.commitPending then 1 else 0)
    ∧ octetAt t (k + 19) = (if r.settle.isSome then 1 else 0) ∧ Carries t (k + 20) (octets4 (r.settle.getD 0)) := by
  have hzero : octets4 0#32 = [0#8, 0#8, 0#8, 0#8] := by decide
  cases hl : (s.stream i).heldLane <;> cases he : s.requests.find? fun e => e.stream == i <;>
    simp [streamStateOctets, numberOf, hl, he, hzero, and_assoc]

theorem length_streamState (i : StreamNo) (s : State) : (streamStateOctets i s).length = 24 := by
  cases he : s.requests.find? fun e => e.stream == i <;> simp [streamStateOctets, he]

theorem carries_streamCounters (r : StreamRec) : Carries t k (streamCounterOctets r) ↔
    Carries t k (octets4 r.admitted) ∧ Carries t (k + 4) (octets4 r.launched)
    ∧ Carries t (k + 8) (octets4 r.queueDrops) ∧ Carries t (k + 12) (octets4 r.duplicateDrops)
    ∧ Carries t (k + 16) (octets4 r.sequenceGaps) := by
  simp [streamCounterOctets]

end layouts

/-! #### A notice set (R139, R171) -/

section present
variable {α β : Type} {g : α → Option β}

theorem length_filterMap_pair (xs : List α) :
    (xs.filterMap fun x => (g x).map fun y => (x, y)).length = (xs.filter fun x => (g x).isSome).length := by
  simp [List.length_filterMap_eq_countP, List.countP_eq_length_filter]

/-- The present members, each with its value, stand in the order of the members. -/
theorem getElem?_filterMap_pair {xs : List α} {j : Nat} {x : α} {y : β}
    (hx : (xs.filter fun x => (g x).isSome)[j]? = some x) (hy : g x = some y) :
    (xs.filterMap fun x => (g x).map fun y => (x, y))[j]? = some (x, y) := by
  induction xs generalizing j with
  | nil => simp at hx
  | cons a as ih =>
    cases ha : g a with
    | none =>
      rw [List.filter_cons_of_neg (by simp [ha])] at hx
      rw [List.filterMap_cons_none (by simp [ha])]
      exact ih hx
    | some b =>
      rw [List.filter_cons_of_pos (by simp [ha])] at hx
      rw [List.filterMap_cons_some (b := (a, b)) (by simp [ha])]
      cases j with
      | zero =>
        obtain rfl : a = x := by simpa using hx
        rw [hy] at ha
        simp [Option.some.inj ha]
      | succ j => exact ih hx

end present

section notices
variable {n k : Nat} {t : Table n Byte} {target : NoticeTarget} {s : State}

theorem length_points_le (target : NoticeTarget) : target.points.length ≤ 6 := by
  cases target <;> simp [NoticeTarget.points]

/-- The octets of one entry (R171). -/
def entryOctets (pe : CausePoint × NoticeEntry) : List Byte :=
  octet1 pe.1.code ++ octet1 pe.2.occurrences ++ octets4 pe.2.first

/-- The present entries at a target, each with its cause, in the order of R130. -/
def presentEntries (target : NoticeTarget) (s : State) : List (CausePoint × NoticeEntry) :=
  target.points.filterMap fun pt => (s.entry pt).map fun e => (pt, e)

theorem noticeOctets_eq : noticeOctets target s =
    octet1 (presentEntries target s).length ++ (presentEntries target s).flatMap entryOctets := rfl

theorem length_presentEntries_le : (presentEntries target s).length ≤ 6 :=
  (List.length_filterMap_le _ _).trans (length_points_le target)

theorem length_noticeOctets : (noticeOctets target s).length = 1 + 6 * (presentEntries target s).length := by
  rw [noticeOctets_eq, List.length_append, length_octet1, List.length_flatMap]
  simp [entryOctets, Nat.mul_comm]

theorem count_of_carries_noticeOctets (h : Carries t k (noticeOctets target s)) :
    octetAt t k = BitVec.ofNat 8 (presentEntries target s).length := by
  rw [noticeOctets_eq, carries_append, carries_octet1] at h
  exact h.1

/-- One entry's octets, in a notice set's (R171). -/
theorem entry_of_carries_noticeOctets (h : Carries t k (noticeOctets target s)) {j : Nat} {pt : CausePoint}
    {e : NoticeEntry} (hpt : (target.points.filter fun pt => (s.entry pt).isSome)[j]? = some pt)
    (he : s.entry pt = some e) :
    octetAt t (k + 1 + 6 * j) = BitVec.ofNat 8 pt.code ∧ octetAt t (k + 2 + 6 * j) = BitVec.ofNat 8 e.occurrences
    ∧ Carries t (k + 3 + 6 * j) (octets4 e.first) := by
  rw [noticeOctets_eq, carries_append, length_octet1] at h
  obtain ⟨-, hentries⟩ := h
  have hentry := carries_flatMap (w := 6) (fun _ => rfl) hentries (getElem?_filterMap_pair hpt he)
  simp only [entryOctets, carries_append, carries_octet1, List.length_append, length_octet1] at hentry
  obtain ⟨⟨hcode, hoccurrences⟩, hfirst⟩ := hentry
  rw [Nat.add_right_comm _ _ 1] at hoccurrences
  rw [Nat.add_right_comm _ _ (1 + 1)] at hfirst
  exact ⟨hcode, hoccurrences, hfirst⟩

end notices

theorem code_le (pt : CausePoint) : pt.code ≤ 255 := by
  cases pt <;> simp only [CausePoint.code] <;> omega

theorem level_le (pt : CausePoint) : pt.level ≤ 255 := by
  cases pt <;> simp only [CausePoint.level] <;> omega

theorem target_le (pt : CausePoint) : pt.target ≤ 65535 := by
  cases pt <;> simp only [CausePoint.target] <;> omega

/-- A report's payload, octet by octet (R171). -/
theorem carries_report (r : Report) :
    octetAt r.payload 0 = BitVec.ofNat 8 r.point.level ∧ Carries r.payload 1 (octets2 r.point.target)
    ∧ octetAt r.payload 3 = BitVec.ofNat 8 r.point.code ∧ octetAt r.payload 4 = BitVec.ofNat 8 r.occurrences
    ∧ Carries r.payload 5 (octets4 r.first) := by
  have h := carries_octetTable (n := 56) [] (octet1 r.point.level ++ octets2 r.point.target ++ octet1 r.point.code
    ++ octet1 r.occurrences ++ octets4 r.first) [] (by simp)
  simpa [Report.payload, and_assoc] using h

/-- Settles O51: each part's octets, one after the other, stand in the response from octet 2 on, those of a report in
its payload from octet 0 on. -/
theorem readLayouts : Obligations.ReadLayouts := by
  unfold Obligations.ReadLayouts
  intro at2 pair four yes level streamBlock streamFits deviceBlock deviceFits causeCode
  have streamSays {o : List Byte} {k : Nat} {m : StreamImage} {generation : Nat}
      (h : Carries (responsePayload 0 0 o) k (m.octets generation)) (hfits : StreamFits m) (hg : generation ≤ 65535) :
      streamBlock o k m generation := by
    have h := says_of_carries_streamImage h hfits
    exact ⟨h.sourcePort, h.group, h.queueLimit, h.creditCap, h.initialCredit, h.leadPresent, h.sequenceCheck,
      h.runAtOpen, h.reload, h.leadPoint, h.holdTime, h.reportMask, h.generation hg, h.last⟩
  have deviceSays {o : List Byte} {k : Nat} {d : DeviceParams}
      (h : Carries (responsePayload 0 0 o) k d.octets) (hfits : DeviceFits d) : deviceBlock o k d := by
    have h := says_of_carries_device h hfits
    exact ⟨h.paceMultiplier, h.budgetCount, h.budgetWindow, h.bindSpacing, h.answerTimeout, h.refusalLimit,
      h.settleInterval, h.commitTimeout, h.reportPort, h.groupMap, h.laneMask, h.portMask, h.deviceMask⟩
  have result {o : List Byte} (h : o.length ≤ 54) : Carries (responsePayload 0 0 o) 2 o := carries_result h
  have hcause (pt : CausePoint) : causeCode pt = pt.code := by
    rcases pt with c | ⟨_, c⟩ | ⟨_, c⟩ | ⟨_, c⟩ <;> cases c <;> rfl
  refine ⟨?deviceStatus, ?deviceConfig, ?portConfig, ?portCounters, ?laneRecord, ?streamConfig, ?streamState,
    ?streamCounters, ?notices, ?report⟩
  case deviceStatus =>
    intro s hfree o
    obtain ⟨hvendor, hpart, hrevision, hbuffers, hup, hpending, hpace⟩ :=
      (carries_deviceStatus s).1 (result (by simp [deviceStatusOctets]))
    exact ⟨hvendor, word16At_octets2 hpart (by decide), hrevision, word16At_octets2 hbuffers (by omega), hup, hpending,
      word32At_octets4 hpace⟩
  case deviceConfig =>
    intro s hfits o
    have hlength := length_deviceConfig s
    obtain ⟨hactive, hpresent, hstaged⟩ := (carries_deviceConfig s).1 (result (by rw [hlength]; split <;> omega))
    refine ⟨deviceSays hactive hfits, hpresent, fun d hd hdfits => deviceSays (hstaged d hd) hdfits,
      fun hnone k hk => ?_⟩
    exact octetAt_pastResult (by rw [hlength, hnone]; exact hk)
  case portConfig =>
    intro r hrequests hresponses o
    have hlevel (x : Level) : BitVec.ofNat 8 x.code = level x := by cases x <;> rfl
    obtain ⟨haccepts, hlevel', hpresent, ⟨hstaged, habsent⟩, haligned, hqueued, hplaces⟩ := (carries_portConfig r).1
      (result (by rw [length_portConfig]; omega))
    rw [Agent.placesUsed_eq] at hplaces
    exact ⟨haccepts, hlevel'.trans (hlevel _), hpresent,
      fun x hx => ⟨(hstaged x hx).1, (hstaged x hx).2.trans (hlevel _)⟩, habsent, haligned,
      toNat_octetAt hqueued hrequests, toNat_octetAt hplaces hresponses⟩
  case portCounters =>
    intro r o
    obtain ⟨hreceived, hfailed, hkinds, hmisrouted, hpresent, hlast⟩ := (carries_portCounters r).1
      (result (by simp [portCounterOctets]))
    exact ⟨word32At_octets4 hreceived, word32At_octets4 hfailed, word32At_octets4 hkinds, word32At_octets4 hmisrouted,
      hpresent, (word16At_octets2 hlast (numberOf_le (by decide) _)).trans (by cases r.lastMisrouted <;> rfl)⟩
  case laneRecord =>
    intro r o
    obtain ⟨hstate, hheld, hholder, htag, houtstanding, hanswer, hanswerAt, hhold, hholdAt, hpaused, hdisable, hgroup,
      haccepted, hrefused, htimeouts, hstale⟩ := (carries_laneRecord r).1 (result (by simp [laneRecordOctets]))
    exact ⟨hstate.trans (by cases r.state <;> rfl), hheld,
      (word16At_octets2 hholder (numberOf_le (by decide) _)).trans (by cases r.holder <;> rfl), htag,
      houtstanding.trans (by rcases r.outstanding with _ | (_ | _ | _) <;> rfl), hanswer, word32At_octets4 hanswerAt,
      hhold, word32At_octets4 hholdAt, hpaused, hdisable, toNat_octetAt hgroup (by omega), word32At_octets4 haccepted,
      word32At_octets4 hrefused, word32At_octets4 htimeouts, word32At_octets4 hstale, rfl⟩
  case streamConfig =>
    intro r hfits hgeneration o
    have hlength := length_streamConfig r
    obtain ⟨hactive, hpresent, hstaged⟩ :=
      (carries_streamConfig r).1 (result (by rw [hlength]; split <;> omega))
    refine ⟨streamSays hactive hfits hgeneration, hpresent,
      fun m hm hmfits => streamSays (hstaged m hm) hmfits (nextGeneration_le hgeneration), fun hnone k hk => ?_⟩
    exact octetAt_pastResult (by rw [hlength, hnone]; exact hk)
  case streamState =>
    intro s i r o hcount hcredit hqueue hrefusals
    obtain ⟨hlife, hcount', hcredit', htimer, hqueue', hsynced, hexpected, hholds, hheld, ⟨hentry, hnoEntry⟩,
      hrefusals', hpending, hsettling, hsettle⟩ :=
      (carries_streamState i s).1 (result (by rw [length_streamState]; omega))
    obtain ⟨hstate, hkind⟩ := (carries_codes _).1 hlife
    refine ⟨hstate.trans (by rcases r.life with _ | _ | _ | (_ | _) <;> rfl),
      hkind.trans (by rcases r.life with _ | _ | _ | (_ | _) <;> rfl), word16At_octets2 hcount' hcount,
      toNat_octetAt hcredit' (by omega), htimer.trans (by cases r.timer <;> rfl), toNat_octetAt hqueue' hqueue, hsynced,
      hexpected, hholds,
      (toNat_octetAt hheld (numberOf_le (by decide) _)).trans (by cases r.heldLane <;> rfl), fun e he => ?_,
      fun hnone => ?_, toNat_octetAt hrefusals' (by omega), hpending, hsettling, word32At_octets4 hsettle⟩
    · obtain ⟨hpresent, htime, hreason⟩ := hentry e (by simpa only [beq_eq_decide] using he)
      exact ⟨hpresent, word32At_octets4 htime, hreason.trans (by cases e.reason <;> rfl)⟩
    · obtain ⟨hpresent, htime, hreason⟩ := hnoEntry (List.find?_eq_none.2 (by simpa [State.hasEntry] using hnone))
      exact ⟨hpresent, word32At_octets4 htime, hreason⟩
  case streamCounters =>
    intro r o
    obtain ⟨hadmitted, hlaunched, hdrops, hduplicates, hgaps⟩ :=
      (carries_streamCounters r).1 (result (by simp [streamCounterOctets]))
    exact ⟨word32At_octets4 hadmitted, word32At_octets4 hlaunched, word32At_octets4 hdrops,
      word32At_octets4 hduplicates, word32At_octets4 hgaps⟩
  case notices =>
    intro s n o present
    have hle : (presentEntries n s).length ≤ 6 := length_presentEntries_le
    have hset : Carries (responsePayload 0 0 o) 2 (noticeOctets n s) := result (by rw [length_noticeOctets]; omega)
    have hnumber : (presentEntries n s).length = present.length := length_filterMap_pair _
    have hcount := count_of_carries_noticeOctets hset
    refine ⟨(toNat_octetAt hcount (hle.trans (by decide))).trans hnumber, fun k pt e hpt he hoccurrences => ?_⟩
    obtain ⟨hcode, hcounted, hfirst⟩ := entry_of_carries_noticeOctets hset hpt he
    rw [hcause]
    exact ⟨toNat_octetAt hcode (code_le pt), toNat_octetAt hcounted hoccurrences, word32At_octets4 hfirst⟩
  case report =>
    intro r hoccurrences
    obtain ⟨hlevel, htarget, hcode, hcounted, hfirst⟩ := carries_report r
    rw [hcause]
    exact ⟨(toNat_octetAt hlevel (level_le _)).trans (by cases r.point <;> rfl),
      (word16At_octets2 htarget (target_le _)).trans (by cases r.point <;> rfl), toNat_octetAt hcode (code_le _),
      toNat_octetAt hcounted hoccurrences, word32At_octets4 hfirst⟩

end Sys2Proof.Proofs.Formats

/-! The cells of the links: a cell as it is formed and read, the command that an inbound cell is, and the search for a
boundary in the octets of a receive pair. -/

namespace Sys2Proof.Proofs.Cells

open Sys2Proof Sys2Proof.Machine

/-! ### A cell as sent (R165, R166) -/

/-- The check of the all-zero header, bit by bit through the register (R165). -/
theorem headerCheck_zeros : headerCheck [0, 0, 0, 0, 0, 0] = 0x0E10 := by decide +kernel

section formed
variable (h : Header) (p : Payload)

/-- A header's check as sent, most significant octet first (R165). -/
def checkOctets (h : Header) : List Byte :=
  [(headerCheck h.octets).extractLsb' 8 8, (headerCheck h.octets).extractLsb' 0 8]

theorem toList_formCell : (formCell h p).toList = h.octets ++ checkOctets h ++ p.toList :=
  Formats.toList_octetTable (by simp [Header.octets])

theorem octetAt_formCell {k : Nat} (hk : k < 8) : octetAt (formCell h p) k = (h.octets ++ checkOctets h).getD k 0 := by
  have hlength : k < (h.octets ++ checkOctets h).length := hk
  rw [octetAt, toList_formCell, List.getD_eq_getElem?_getD, List.getElem?_append_left hlength,
    List.getD_eq_getElem?_getD]

theorem payload_formCell : (formCell h p).payload = p := by
  have hdrop : (formCell h p).toList.drop 8 = p.toList := by rw [toList_formCell]; rfl
  rw [Cell.payload, hdrop, Formats.octetTable_toList]

theorem passes_formCell : (formCell h p).passes = true := by
  have htake : (formCell h p).toList.take 6 = h.octets := by rw [toList_formCell]; rfl
  rw [Cell.passes, htake, octetAt_formCell h p (by omega), octetAt_formCell h p (by omega), beq_iff_eq]
  exact (BitVec.extractLsb'_append_extractLsb' (w := 8) (len := 8) (x := headerCheck h.octets)).symm

/-- The lane stands in the high half of octet 1. -/
theorem lane_of_octet1 {lane stream : Nat} (hlane : lane < 16) (hstream : stream < 512) :
    ((BitVec.ofNat 8 (lane % 16 * 16 + stream / 256)).extractLsb' 4 4).toNat = lane := by
  rw [BitVec.extractLsb'_toNat, BitVec.toNat_ofNat, Nat.shiftRight_eq_div_pow]
  omega

/-- The stream's bit 8 stands in bit 0 of octet 1. -/
theorem streamBit_of_octet1 {lane stream : Nat} (hstream : stream < 512) :
    ((BitVec.ofNat 8 (lane % 16 * 16 + stream / 256)).getLsbD 0).toNat = stream / 256 := by
  rw [BitVec.getLsbD, BitVec.toNat_ofNat, Nat.toNat_testBit]
  omega

theorem header_formCell (hlane : h.lane < 16) : (formCell h p).header = h := by
  have octet {k : Nat} (hk : k < 8) := octetAt_formCell h p hk
  have hkind : (octetAt (formCell h p) 0).extractLsb' 4 4 = h.kind := by
    rw [octet (by omega)]
    exact BitVec.extractLsb'_append_eq_left
  have hflags : (octetAt (formCell h p) 0).extractLsb' 0 4 = h.flags := by
    rw [octet (by omega)]
    exact BitVec.extractLsb'_append_eq_right
  have hlane' : ((octetAt (formCell h p) 1).extractLsb' 4 4).toNat = h.lane := by
    rw [octet (by omega)]
    exact lane_of_octet1 hlane h.stream.isLt
  have hbit : ((octetAt (formCell h p) 1).getLsbD 0).toNat = h.stream.val / 256 := by
    rw [octet (by omega)]
    exact streamBit_of_octet1 h.stream.isLt
  have hlow : (octetAt (formCell h p) 2).toNat = h.stream.val % 256 := by
    rw [octet (by omega)]
    exact BitVec.toNat_ofNat _ _
  have hstream : Fin.ofNat 512 (h.stream.val / 256 * 256 + h.stream.val % 256) = h.stream := by
    rw [Nat.div_add_mod', Fin.ofNat_eq_cast, Fin.cast_val_eq_self]
  rw [Cell.header, hkind, hflags, hlane', hbit, hlow, hstream, octet (by omega), octet (by omega), octet (by omega)]
  rfl

end formed

/-! ### Which command an inbound cell is (R161, R163, R167, R168) -/

section sorted
variable {p : PortNo} {l : LaneNo} {c : Cell}

theorem commandOfEdgeCell_failed (h : c.passes = false) : commandOfEdgeCell p c = .edgeBadCheckCell p := by
  simp [commandOfEdgeCell, h]

theorem commandOfTrunkCell_failed (h : c.passes = false) : commandOfTrunkCell l c = .trunkBadCheckCell l := by
  simp [commandOfTrunkCell, h]

/-- The kind of a cell that passes sorts it on an edge port (R161, codes of R167). -/
theorem commandOfEdgeCell_passed (h : c.passes = true) :
    commandOfEdgeCell p c =
      if c.header.kind = 0x1 then
        .trafficCellArrival p ⟨c.header.stream, c.header.sequence, c.header.flags, c.payload⟩
      else if c.header.kind = 0x2 then .requestCellArrival p ⟨c.header.code, c.header.tag, c.payload⟩
      else if c.header.kind = 0x0 then .edgeFillCell p
      else .edgeBadKindCell p c.header.kind := by
  simp only [commandOfEdgeCell, h, Bool.not_true, Bool.false_eq_true, if_false]
  rfl

/-- The kind of a cell that passes sorts it on a lane, the code a BIND-ACK (R163, codes of R167 and R168). -/
theorem commandOfTrunkCell_passed (h : c.passes = true) :
    commandOfTrunkCell l c =
      if c.header.kind = 0x0 then .trunkFillCell l
      else if c.header.kind = 0xC then
        if c.header.code = 0x01 then .bindAckAccept l c.header.tag
        else if c.header.code = 0x02 then .bindAckRefuse l c.header.tag
        else .bindAckUnknownCode l c.header.tag c.header.code
      else if c.header.kind = 0xD then .releaseAck l c.header.tag
      else if c.header.kind = 0xE then .resetAck l c.header.tag
      else if c.header.kind = 0x6 then .pause l c.header.tag
      else if c.header.kind = 0x7 then .resume l c.header.tag
      else .trunkOtherKindCell l c.header.kind := by
  simp only [commandOfTrunkCell, h, Bool.not_true, Bool.false_eq_true, if_false]
  rfl

theorem edgeKindTaken_eq_false_iff {kind : BitVec 4} :
    edgeKindTaken kind = false ↔ kind ≠ 0x0 ∧ kind ≠ 0x1 ∧ kind ≠ 0x2 := by
  simp [edgeKindTaken, and_assoc]

theorem trunkKindTaken_eq_false_iff {kind : BitVec 4} :
    trunkKindTaken kind = false ↔
      kind ≠ 0x0 ∧ kind ≠ 0x6 ∧ kind ≠ 0x7 ∧ kind ≠ 0xC ∧ kind ≠ 0xD ∧ kind ≠ 0xE := by
  simp [trunkKindTaken, and_assoc]

theorem bindCodeKnown_eq_false_iff {code : Byte} : bindCodeKnown code = false ↔ code ≠ 0x01 ∧ code ≠ 0x02 := by
  simp [bindCodeKnown]

theorem wellFormed_commandOfEdgeCell (p : PortNo) (c : Cell) : (commandOfEdgeCell p c).wellFormed = true := by
  cases h : c.passes with
  | false => rw [commandOfEdgeCell_failed h]; rfl
  | true =>
    rw [commandOfEdgeCell_passed h]
    split_ifs with htraffic hrequest hfill
    · rfl
    · rfl
    · rfl
    · exact congrArg not (edgeKindTaken_eq_false_iff.2 ⟨hfill, htraffic, hrequest⟩)

theorem wellFormed_commandOfTrunkCell (l : LaneNo) (c : Cell) : (commandOfTrunkCell l c).wellFormed = true := by
  cases h : c.passes with
  | false => rw [commandOfTrunkCell_failed h]; rfl
  | true =>
    rw [commandOfTrunkCell_passed h]
    split_ifs with hfill hbind haccept hrefuse hrelease hreset hpause hresume
    · rfl
    · rfl
    · rfl
    · exact congrArg not (bindCodeKnown_eq_false_iff.2 ⟨haccept, hrefuse⟩)
    · rfl
    · rfl
    · rfl
    · rfl
    · exact congrArg not (trunkKindTaken_eq_false_iff.2 ⟨hfill, hpause, hresume, hbind, hrelease, hreset⟩)

end sorted

/-! ### The search for a boundary (R160; log 14) -/

section search
variable {octets : List Byte} {k : Nat}

/-- Six cells in a row pass, the first of them at octet `k` (R160). -/
def Boundary (octets : List Byte) (k : Nat) : Prop :=
  k + 384 ≤ octets.length ∧ ∀ n < 6,
    headerCheck ((octets.drop (k + 64 * n)).take 6) =
      octets.getD (k + 64 * n + 6) 0 ++ octets.getD (k + 64 * n + 7) 0

theorem boundaryAt_iff : boundaryAt octets k = true ↔ Boundary octets k := by
  have getD_drop (a b : Nat) : (octets.drop a).getD b 0 = octets.getD (a + b) 0 := by
    simp only [List.getD_eq_getElem?_getD, List.getElem?_drop]
  simp only [boundaryAt, Bool.and_eq_true, decide_eq_true_eq, List.all_eq_true, List.mem_range, checkPassesAtHead,
    beq_iff_eq, getD_drop]
  exact Iff.rfl

theorem firstBoundary_none (h : ∀ k, ¬ Boundary octets k) : firstBoundary octets = none := by
  simp only [firstBoundary, List.find?_eq_none, boundaryAt_iff]
  exact fun k _ => h k

theorem firstBoundary_some (h : Boundary octets k) (hfirst : ∀ j < k, ¬ Boundary octets j) :
    firstBoundary octets = some k := by
  have hk : k < octets.length := by
    have := h.1
    omega
  rw [firstBoundary, List.find?_range_eq_some]
  refine ⟨boundaryAt_iff.2 h, List.mem_range.2 hk, fun j hj => ?_⟩
  rw [Bool.not_eq_true', ← Bool.not_eq_true, boundaryAt_iff]
  exact hfirst j hj

end search

/-! ### The cells at a boundary (R160; log 14) -/

section follow
variable {gain : Instr} {command : Cell → Instr} {octets : List Byte} {failures m : Nat} {c : Cell} {cs : List Cell}

theorem cellsOf_short (h : octets.length < 64) : cellsOf octets = [] := by
  simp [cellsOf, Nat.div_eq_of_lt h]

theorem cellsOf_whole (h : 64 ≤ octets.length) :
    cellsOf octets = cellAtHead octets :: cellsOf (octets.drop 64) := by
  have hcount : octets.length / 64 = (octets.drop 64).length / 64 + 1 := by
    rw [List.length_drop]
    omega
  rw [cellsOf, cellsOf, hcount, List.range_succ_eq_map, List.map_cons, List.map_map]
  simp [Function.comp_def, Nat.mul_succ, Nat.add_comm]

/-- Octets without a whole cell are too few. -/
theorem length_of_cellsOf_nil (h : cellsOf octets = []) : octets.length < 64 := by
  by_contra hlong
  rw [cellsOf_whole (Nat.not_lt.1 hlong)] at h
  contradiction

/-- The first whole cell is at the head, the others follow it. -/
theorem of_cellsOf_cons (h : cellsOf octets = c :: cs) :
    64 ≤ octets.length ∧ cellAtHead octets = c ∧ cellsOf (octets.drop 64) = cs := by
  have hlong : 64 ≤ octets.length := by
    by_contra hshort
    rw [cellsOf_short (Nat.not_le.1 hshort)] at h
    contradiction
  rw [cellsOf_whole hlong, List.cons.injEq] at h
  exact ⟨hlong, h⟩

/-- The cell at `m` is the seventh in a row to fail, where `failures` failed just before the first of them. -/
def SeventhFails (failures : Nat) (cs : List Cell) (m : Nat) : Prop :=
  6 ≤ failures + m ∧ m < cs.length ∧ ∀ j ≤ 6, j ≤ m → cs[m - j]?.map Cell.passes = some false

/-- A cell that passes ends the run. -/
theorem seventhFails_passed_zero (hc : c.passes = true) : ¬ SeventhFails failures (c :: cs) 0 := by
  rintro ⟨-, -, h⟩
  simpa [hc] using h 0 (by omega) (by omega)

theorem seventhFails_passed_succ (hc : c.passes = true) :
    SeventhFails failures (c :: cs) (m + 1) ↔ SeventhFails 0 cs m := by
  constructor
  · rintro ⟨-, hm, h⟩
    have hsix : 6 ≤ m := by
      by_contra hless
      have := h (m + 1) (by omega) (by omega)
      simp [hc] at this
    refine ⟨by omega, by simpa using hm, fun j hj hjm => ?_⟩
    have := h j hj (by omega)
    rwa [Nat.succ_sub hjm, List.getElem?_cons_succ] at this
  · rintro ⟨hsix, hm, h⟩
    refine ⟨by omega, by simpa using hm, fun j hj hjm => ?_⟩
    rw [Nat.succ_sub (by omega : j ≤ m), List.getElem?_cons_succ]
    exact h j hj (by omega)

/-- A cell that fails goes on with the run. -/
theorem seventhFails_failed_zero (hc : c.passes = false) : SeventhFails failures (c :: cs) 0 ↔ 6 ≤ failures := by
  constructor
  · exact fun h => h.1
  · intro h
    refine ⟨h, by simp, fun j _ hj => ?_⟩
    obtain rfl : j = 0 := by omega
    simp [hc]

theorem seventhFails_failed_succ (hc : c.passes = false) :
    SeventhFails failures (c :: cs) (m + 1) ↔ SeventhFails (failures + 1) cs m := by
  have hnumber : 6 ≤ failures + (m + 1) ↔ 6 ≤ failures + 1 + m := by omega
  rw [SeventhFails, SeventhFails, hnumber, List.length_cons, Nat.add_lt_add_iff_right]
  refine and_congr_right fun _ => and_congr_right fun _ => ⟨fun h j hj hjm => ?_, fun h j hj hjm => ?_⟩
  · have := h j hj (by omega)
    rwa [Nat.succ_sub hjm, List.getElem?_cons_succ] at this
  · obtain rfl | hless := Nat.eq_or_lt_of_le hjm
    · simp [hc]
    · rw [Nat.succ_sub (by omega : j ≤ m), List.getElem?_cons_succ]
      exact h j hj (by omega)

/-- With no run before them, the seventh is at 6 or later. -/
theorem seventhFails_zero_iff : SeventhFails 0 cs m ↔
    6 ≤ m ∧ m < cs.length ∧ ∀ j ≤ 6, cs[m - j]?.map Cell.passes = some false := by
  rw [SeventhFails, Nat.zero_add]
  exact and_congr_right fun hm => and_congr_right fun _ =>
    ⟨fun h j hj => h j hj (by omega), fun h j hj _ => h j hj⟩

theorem receive_short (h : octets.length < 64) :
    receive gain command octets.length (some failures) octets = [] := by
  cases octets with
  | nil => rfl
  | cons o os => rw [List.length_cons, receive, if_pos h]

/-- An ALIGNED receiver takes the cell at its boundary, and goes on by whether it passes. -/
theorem receive_whole (h : 64 ≤ octets.length) :
    receive gain command octets.length (some failures) octets =
      command (cellAtHead octets) :: receive gain command (octets.drop 64).length
        (if (cellAtHead octets).passes then some 0 else if failures + 1 < 7 then some (failures + 1) else none)
        (octets.drop 64) := by
  obtain ⟨n, hn⟩ : ∃ n, octets.length = n + 1 := ⟨octets.length - 1, by omega⟩
  rw [hn, receive, if_neg (Nat.not_lt.2 h)]
  exact congrArg _ (receive_fuel _ (by rw [List.length_drop]; omega) (Nat.le_refl _))

/-- A HUNTING receiver that finds no boundary takes nothing. -/
theorem receive_hunting_none (h : ∀ k, ¬ Boundary octets k) :
    receive gain command octets.length none octets = [] := by
  cases octets with
  | nil => rfl
  | cons o os => rw [List.length_cons, receive, firstBoundary_none h]

/-- A HUNTING receiver takes the six cells at the first boundary, gains alignment, and goes on ALIGNED. -/
theorem receive_hunting_some {k : Nat} (h : Boundary octets k) (hfirst : ∀ j < k, ¬ Boundary octets j) :
    receive gain command octets.length none octets =
      (cellsOf ((octets.drop k).take 384)).map command ++
        gain :: receive gain command (octets.drop (k + 384)).length (some 0) (octets.drop (k + 384)) := by
  have hlength := h.1
  have hsix : Config.cellsToAlign = 6 := rfl
  obtain ⟨n, hn⟩ : ∃ n, octets.length = n + 1 := ⟨octets.length - 1, by omega⟩
  rw [hn, receive, firstBoundary_some h hfirst]
  exact congrArg (_ ++ gain :: ·) (receive_fuel _ (by rw [List.length_drop]; omega) (Nat.le_refl _))

/-- Where no seven in a row fail, an ALIGNED receiver takes every cell. -/
theorem receive_all (h : ∀ m, ¬ SeventhFails failures (cellsOf octets) m) :
    receive gain command octets.length (some failures) octets = (cellsOf octets).map command := by
  induction hcs : cellsOf octets generalizing failures octets with
  | nil => exact receive_short (length_of_cellsOf_nil hcs)
  | cons c cs ih =>
    obtain ⟨hlong, rfl, rfl⟩ := of_cellsOf_cons hcs
    rw [hcs] at h
    rw [receive_whole hlong, List.map_cons]
    cases hc : (cellAtHead octets).passes with
    | true => exact congrArg _ (ih (fun m hm => h (m + 1) ((seventhFails_passed_succ hc).2 hm)) rfl)
    | false =>
      have hfew : failures + 1 < 7 := by
        by_contra hseven
        exact h 0 ((seventhFails_failed_zero hc).2 (by omega))
      rw [if_neg Bool.false_ne_true, if_pos hfew]
      exact congrArg _ (ih (fun m hm => h (m + 1) ((seventhFails_failed_succ hc).2 hm)) rfl)

/-- An ALIGNED receiver takes the cells up to the first that is the seventh in a row to fail, and hunts from its end
on. -/
theorem receive_until (hrun : failures ≤ 6) (h : SeventhFails failures (cellsOf octets) m)
    (hfirst : ∀ j < m, ¬ SeventhFails failures (cellsOf octets) j) :
    receive gain command octets.length (some failures) octets =
      ((cellsOf octets).take (m + 1)).map command ++
        receive gain command (octets.drop (64 * (m + 1))).length none (octets.drop (64 * (m + 1))) := by
  induction hcs : cellsOf octets generalizing failures octets m with
  | nil =>
    have hm := h.2.1
    rw [hcs] at hm
    exact absurd hm (Nat.not_lt_zero m)
  | cons c cs ih =>
    obtain ⟨hlong, rfl, rfl⟩ := of_cellsOf_cons hcs
    rw [hcs] at h hfirst
    rw [receive_whole hlong, List.take_succ_cons, List.map_cons, List.cons_append]
    refine congrArg _ ?_
    have hdrop (j : Nat) : octets.drop (64 * (j + 1 + 1)) = (octets.drop 64).drop (64 * (j + 1)) := by
      rw [List.drop_drop, Nat.mul_succ 64 (j + 1), Nat.add_comm]
    cases hc : (cellAtHead octets).passes with
    | true =>
      cases m with
      | zero => exact absurd h (seventhFails_passed_zero hc)
      | succ m =>
        rw [hdrop]
        exact ih (Nat.zero_le _) ((seventhFails_passed_succ hc).1 h)
          (fun j hj hj' => hfirst (j + 1) (by omega) ((seventhFails_passed_succ hc).2 hj')) rfl
    | false =>
      rw [if_neg Bool.false_ne_true]
      cases m with
      | zero =>
        have hsix := (seventhFails_failed_zero hc).1 h
        rw [if_neg (by omega)]
        rfl
      | succ m =>
        have hfew : failures + 1 < 7 := by
          by_contra hseven
          exact hfirst 0 (Nat.succ_pos m) ((seventhFails_failed_zero hc).2 (by omega))
        rw [if_pos hfew, hdrop]
        exact ih (by omega) ((seventhFails_failed_succ hc).1 h)
          (fun j hj hj' => hfirst (j + 1) (by omega) ((seventhFails_failed_succ hc).2 hj')) rfl

/-- What a HUNTING receiver takes where no seven in a row fail after its first boundary. -/
theorem receive_hunting_all {k : Nat} (h : Boundary octets k) (hfirst : ∀ j < k, ¬ Boundary octets j)
    (hall : ∀ m, ¬ SeventhFails 0 (cellsOf (octets.drop (k + 384))) m) :
    receive gain command octets.length none octets =
      (cellsOf ((octets.drop k).take 384)).map command ++
        gain :: (cellsOf (octets.drop (k + 384))).map command := by
  rw [receive_hunting_some h hfirst, receive_all hall]

/-- What it takes up to the first seventh failure in a row, and hunting anew from there on. -/
theorem receive_hunting_until {k : Nat} (h : Boundary octets k) (hfirst : ∀ j < k, ¬ Boundary octets j)
    (hm : SeventhFails 0 (cellsOf (octets.drop (k + 384))) m)
    (hfirstFailure : ∀ j < m, ¬ SeventhFails 0 (cellsOf (octets.drop (k + 384))) j) :
    receive gain command octets.length none octets =
      (cellsOf ((octets.drop k).take 384)).map command ++
        gain :: ((cellsOf (octets.drop (k + 384))).take (m + 1)).map command ++
        receive gain command ((octets.drop (k + 384)).drop (64 * (m + 1))).length none
          ((octets.drop (k + 384)).drop (64 * (m + 1))) := by
  rw [receive_hunting_some h hfirst, receive_until (Nat.zero_le _) hm hfirstFailure, List.append_assoc,
    List.cons_append]

end follow

/-- Settles O53: a formed cell is read back, the kind and the code sort a cell, and the commands of a receive pair
follow its cells from the first boundary on. -/
theorem cellsFormedAndSorted : Obligations.CellsFormedAndSorted := by
  refine ⟨⟨fun h p hlane => ⟨header_formCell h p hlane, payload_formCell h p, passes_formCell h p⟩, headerCheck_zeros⟩,
    ⟨fun p l c h => ⟨commandOfEdgeCell_failed h, commandOfTrunkCell_failed h⟩, ?edge, ?trunk,
      fun p l c => ⟨wellFormed_commandOfEdgeCell p c, wellFormed_commandOfTrunkCell l c⟩⟩, ?pair⟩
  case edge =>
    intro p c h
    rw [commandOfEdgeCell_passed h]
    refine ⟨fun hk => by rw [hk]; rfl, fun hk => by rw [hk]; rfl, fun hk => by rw [hk]; rfl, fun hk => ?_⟩
    have other {kind : BitVec 4} (hkind : kind.toNat ≤ 2) : c.header.kind ≠ kind := by
      rintro rfl
      omega
    rw [if_neg (other (by decide)), if_neg (other (by decide)), if_neg (other (by decide))]
  case trunk =>
    intro l c h
    rw [commandOfTrunkCell_passed h]
    refine ⟨fun hk => by rw [hk]; rfl, fun hk => by rw [hk]; rfl, fun hk => by rw [hk]; rfl, fun hk => ?bindAck,
      fun hk => by rw [hk]; rfl, fun hk => by rw [hk]; rfl, fun hk => ?other⟩
    case bindAck =>
      rw [hk]
      exact ⟨fun hcode => by rw [hcode]; rfl, fun hcode => by rw [hcode]; rfl,
        fun haccept hrefuse => by rw [if_neg haccept, if_neg hrefuse]; rfl⟩
    case other =>
      simp only [List.mem_cons, List.not_mem_nil, or_false, not_or] at hk
      obtain ⟨hfill, hpause, hresume, hbind, hrelease, hreset⟩ := hk
      rw [if_neg hfill, if_neg hbind, if_neg hrelease, if_neg hreset, if_neg hpause, if_neg hresume]
  case pair =>
    intro octets boundary cells seventhFails
    have hseventh (o : List Byte) (m : Nat) : SeventhFails 0 (cellsOf o) m ↔ seventhFails o m := seventhFails_zero_iff
    refine ⟨fun hnone p l => ⟨receive_hunting_none hnone, receive_hunting_none hnone⟩,
      fun k hk hfirst p l => ⟨fun hall => ?all, fun m hm hfirstFailure => ?upTo⟩⟩
    case all =>
      have hall (m : Nat) := mt (hseventh _ m).1 (hall m)
      exact ⟨receive_hunting_all hk hfirst hall, receive_hunting_all hk hfirst hall⟩
    case upTo =>
      have hm := (hseventh _ m).2 hm
      have hfirstFailure (j : Nat) (hj : j < m) := mt (hseventh _ j).1 (hfirstFailure j hj)
      exact ⟨receive_hunting_until hk hfirst hm hfirstFailure, receive_hunting_until hk hfirst hm hfirstFailure⟩

end Sys2Proof.Proofs.Cells

/-! The statements of the machine as a whole: what a step runs, what a command answers whatever the state, and what the
reset pin does. The queue of commands is the sender's: no operation of a block looks at it or changes it. -/

namespace Sys2Proof.Proofs.Commands

open Sys2Proof Sys2Proof.Machine

/-! ### Pacing and queues leave the queue of commands -/

section queues
variable (s : State)

@[simp] theorem callPass_pending : (callPass s).pending = s.pending := pending_of_sansBinding (callPass_sansBinding s)

@[simp] theorem changePacing_pending (i : StreamNo) (f : StreamRec → StreamRec) :
    (changePacing i f s).pending = s.pending := by
  unfold changePacing
  dsimp only
  split <;> simp

@[simp] theorem consumeCredit_pending (i : StreamNo) : (consumeCredit i s).2.pending = s.pending := by
  unfold consumeCredit
  split <;> simp

@[simp] theorem emptinessChanged_pending (i : StreamNo) (wasEmpty : Bool) :
    (emptinessChanged i wasEmpty s).pending = s.pending := by
  unfold emptinessChanged
  split <;> simp

@[simp] theorem appendCell_pending (i : StreamNo) (c : TrafficCell) : (appendCell i c s).pending = s.pending := by
  unfold appendCell
  dsimp only
  split <;> simp

@[simp] theorem takeHead_pending (i : StreamNo) : (takeHead i s).2.pending = s.pending := by
  unfold takeHead
  split <;> simp

@[simp] theorem flush_pending (i : StreamNo) : (flush i s).pending = s.pending := by
  unfold flush
  dsimp only
  split <;> simp

@[simp] theorem countStreams_pending : (countStreams s).pending = s.pending :=
  (congrArg State.pending (Pacing.countStreams_core s) :)

@[simp] theorem countFirst_pending : (countFirst s).pending = s.pending := by
  unfold countFirst
  split <;> simp

theorem stroke_pending : (stroke s).pending = s.pending := by
  unfold stroke
  dsimp only [takeTurn_eq]
  split
  · simp
  · split <;> simp [advance]

end queues

/-! ### Life states -/

section lives
variable (s : State)

@[simp] theorem setLife_pending (i : StreamNo) (life : Life) : (setLife i life s).pending = s.pending := by
  simp [setLife]

@[simp] theorem enterClosed_pending (i : StreamNo) : (enterClosed i s).pending = s.pending := by simp [enterClosed]

@[simp] theorem judgeDrain_pending (i : StreamNo) : (judgeDrain i s).pending = s.pending := by
  unfold judgeDrain
  split <;> simp

theorem openStream_pending (i : StreamNo) : (openStream i s).2.pending = s.pending := by
  unfold openStream
  dsimp only
  split <;> simp

@[simp] theorem closeDiscarding_pending (i : StreamNo) : (closeDiscarding i s).pending = s.pending := by
  unfold closeDiscarding
  dsimp only
  split <;> simp

theorem closePlain_pending (i : StreamNo) : (closePlain i s).2.pending = s.pending := by
  unfold closePlain
  split <;> simp

theorem closeDiscard_pending (i : StreamNo) : (closeDiscard i s).2.pending = s.pending := by
  unfold closeDiscard
  split <;> simp

theorem clearHold_pending (i : StreamNo) : (clearHold i s).2.pending = s.pending := by
  unfold clearHold
  split <;> simp

@[simp] theorem refusalLimitReached_pending (i : StreamNo) : (refusalLimitReached i s).pending = s.pending := by
  unfold refusalLimitReached
  split <;> simp

@[simp] theorem bindRefused_pending (i : StreamNo) : (bindRefused i s).pending = s.pending := by
  unfold bindRefused
  dsimp only
  split
  · split <;> simp
  · rfl

theorem timerControl_pending (i : StreamNo) (f : StreamRec → StreamRec) :
    (timerControl i f s).2.pending = s.pending := by
  unfold timerControl
  split <;> simp

end lives

/-! ### Notices, staging and commits -/

section commits
variable (s : State)

@[simp] theorem modRecord_pending (f : CommitRecord → CommitRecord) : (modRecord f s).pending = s.pending := rfl

@[simp] theorem takeCommitAnswer_pending : (takeCommitAnswer s).pending = s.pending := by
  unfold takeCommitAnswer
  split
  · dsimp only
    split <;> rfl
  · rfl

@[simp] theorem closeRecord_pending (c : CommitRecord) (status : Status) (result : List Byte) :
    (closeRecord c status result s).pending = s.pending := takeCommitAnswer_pending _

@[simp] theorem judgeCompletion_pending : (judgeCompletion s).pending = s.pending := by
  unfold judgeCompletion
  split
  · split <;> simp
  · rfl

@[simp] theorem applyRecord_pending (i : StreamNo) (img : StreamImage) : (applyRecord i img s).pending = s.pending := by
  simp [applyRecord]

@[simp] theorem commitLoss_pending (i : StreamNo) : (commitLoss i s).pending = s.pending := by
  unfold commitLoss
  dsimp only
  split <;> simp

@[simp] theorem applyDevice_pending (d : DeviceParams) : (applyDevice d s).pending = s.pending := rfl

@[simp] theorem judgeDevicePart_pending : (judgeDevicePart s).pending = s.pending := by
  unfold judgeDevicePart
  split
  · split <;> simp
  · rfl

theorem ackNotice_pending (n : NoticeTarget) (mask : Nat) : (ackNotice n mask s).2.pending = s.pending := by
  unfold ackNotice
  split
  · exact foldl_keeps s (fun t pt => pending_of_sansNotices (removeNotice_sansNotices t pt)) _
  · rfl

theorem stageStream_pending (i : StreamNo) (img : Option StreamImage) :
    (stageStream i img s).2.pending = s.pending := by
  cases img <;> rfl

theorem stageDevice_pending (img : Option DeviceParams) : (stageDevice img s).2.pending = s.pending := by
  cases img <;> rfl

theorem stagePort_pending (p : PortNo) (img : Option PortRecord) : (stagePort p img s).2.pending = s.pending := by
  cases img <;> rfl

theorem discard_pending (scope : DiscardScope) : (discard scope s).2.pending = s.pending := by
  cases scope with
  | stream i => exact judgeCompletion_pending _
  | device =>
    exact (judgeCompletion_pending _).trans (congrArg State.pending (Staging.discardDevice_sansBinding s) :)
  | port p => rfl
  | all => exact (judgeCompletion_pending _).trans (congrArg State.pending (Staging.discardAll_sansBinding s) :)

theorem commitDevice_pending (quiet : Bool) : (commitDevice quiet s).pending = s.pending := by
  unfold commitDevice
  split
  · rfl
  · split <;> rfl

theorem claimed_pending (p : PortNo) (q : Request) (scope : CommitScope) (record : Option CommitRecord) :
    (Holding.claimed p q scope record s).pending = s.pending := by
  have himages : (Holding.takeImages p q scope s).pending = s.pending :=
    (congrArg State.pending Holding.sansImages_takeImages :)
  refine (pending_of_sansBinding (Holding.claimed_sansBinding record)).trans ?_
  unfold Holding.commitEvent
  split
  · exact (commitDevice_pending _ _).trans himages
  · exact himages

/-- A COMMIT is refused with nothing changed, or taken. -/
theorem takeCommit_pending (p : PortNo) (q : Request) (scope : CommitScope) :
    (takeCommit p q scope s).2.pending = s.pending := by
  cases hrecord : s.record with
  | some c => rw [Staging.takeCommit_open (by simp [hrecord])]
  | none =>
    by_cases hfull : scope.ports = true → s.keepsFull = true
    · rw [Holding.takeCommit_taken hrecord hfull]
      split <;> exact claimed_pending s p q scope _
    · obtain ⟨hports, hlocked⟩ := Classical.not_imp.1 hfull
      rw [Staging.takeCommit_lockout hrecord hports hlocked]

end commits

/-! ### Lanes, handshakes and the trunk link -/

section lanes
variable (s : State)

@[simp] theorem clearHolder_pending (l : LaneNo) (i : StreamNo) : (clearHolder l i s).pending = s.pending := rfl

@[simp] theorem lossClaims_pending (kind : NotifyKind) (i : StreamNo) : (lossClaims kind i s).pending = s.pending := by
  simp [lossClaims]

@[simp] theorem loseHolder_pending (kind : NotifyKind) (l : LaneNo) : (loseHolder kind l s).pending = s.pending := by
  unfold loseHolder
  split <;> simp [loseLane]

@[simp] theorem staleCell_pending (l : LaneNo) : (staleCell l s).pending = s.pending := by simp [staleCell]

@[simp] theorem strayCell_pending (l : LaneNo) : (strayCell l s).pending = s.pending := by simp [strayCell]

theorem takeAnswer_pending (kind : Handshake) (l : LaneNo) (tag : Byte) {matching : State → State}
    (hmatching : ∀ t, (matching t).pending = t.pending) : (takeAnswer kind l tag matching s).pending = s.pending := by
  unfold takeAnswer
  split
  · simp
  · split <;> simp [hmatching]

theorem takeUnknownAnswer_pending (l : LaneNo) (tag : Byte) : (takeUnknownAnswer l tag s).pending = s.pending := by
  unfold takeUnknownAnswer
  split <;> simp

theorem takePause_pending (paused : Bool) (l : LaneNo) (tag : Byte) :
    (takePause paused l tag s).pending = s.pending := by
  unfold takePause
  split
  · simp
  · split <;> simp

@[simp] theorem freeOrDisable_pending (l : LaneNo) : (freeOrDisable l s).pending = s.pending := by
  unfold freeOrDisable
  split <;> rfl

@[simp] theorem passOnJoin_pending (joined : Bool) : (passOnJoin joined s).pending = s.pending :=
  pending_of_sansBinding (passOnJoin_sansBinding s joined)

@[simp] theorem refusalReports_pending (i : StreamNo) (joined : Bool) :
    (refusalReports i joined s).pending = s.pending :=
  pending_of_sansBinding (refusalReports_sansBinding s i joined)

theorem bindAcceptMatched_pending (l : LaneNo) : (bindAcceptMatched l s).pending = s.pending := by
  unfold bindAcceptMatched
  dsimp only
  split <;> simp [bindAccepted]

theorem bindRefuseMatched_pending (l : LaneNo) : (bindRefuseMatched l s).pending = s.pending := by
  unfold bindRefuseMatched
  dsimp only
  split <;> simp [handBack]

theorem releaseAckMatched_pending (l : LaneNo) : (releaseAckMatched l s).pending = s.pending := by
  unfold releaseAckMatched
  dsimp only
  split <;> simp [handBack]

theorem resetAckMatched_pending (l : LaneNo) : (resetAckMatched l s).pending = s.pending := by simp [resetAckMatched]

@[simp] theorem answerTimeout_pending (l : LaneNo) : (answerTimeout l s).pending = s.pending := by
  unfold answerTimeout
  dsimp only
  split
  · split <;> simp [loseLane]
  all_goals simp

@[simp] theorem leaveFreeList_pending (l : LaneNo) : (leaveFreeList l s).pending = s.pending := by
  unfold leaveFreeList
  dsimp only
  split <;> simp

theorem laneDisable_pending (l : LaneNo) : (laneDisable l s).2.pending = s.pending := by
  unfold laneDisable
  dsimp only
  split <;> simp

theorem duringPass_pending {event : State → State} (hevent : ∀ t, (event t).pending = t.pending) :
    (duringPass event s).pending = s.pending :=
  duringPass_keeps (P := fun t => t.pending = s.pending) (fun _ _ h => (pending_of_sansBinding h).trans)
    (fun t => (hevent t).trans) rfl

theorem disableLane_pending (l : LaneNo) : (disableLane l s).2.pending = s.pending := by
  unfold disableLane
  split
  · exact duringPass_pending s (laneDisable_pending · l)
  · exact laneDisable_pending s l

theorem laneEnable_pending (l : LaneNo) : (laneEnable l s).2.pending = s.pending := by
  unfold laneEnable
  split
  · split <;> rfl
  · rfl

theorem laneRetire_pending (l : LaneNo) : (laneRetire l s).2.pending = s.pending := by
  unfold laneRetire
  split <;> simp

theorem laneRecover_pending (l : LaneNo) : (laneRecover l s).2.pending = s.pending := by
  unfold laneRecover
  split <;> rfl

theorem applyPendingDisable_pending (l : LaneNo) : (applyPendingDisable l s).pending = s.pending := by
  unfold applyPendingDisable
  dsimp only
  split
  · split
    · simp
    · split <;> simp [becomeDisabled]
  · rfl

theorem trunkLoss_pending (before : LaneRec) : (trunkLoss before s).pending = s.pending := by
  unfold trunkLoss
  split
  · dsimp only
    split <;> simp
  · rfl

theorem trunkDown_pending : (trunkDown s).pending = s.pending := by
  rw [trunkDown, judgeDevicePart_pending, foldl_keeps _ fun t l => trunkLoss_pending t (s.lane l)]
  exact raise_pending _ _

theorem alignLane_pending (l : LaneNo) : (alignLane l s).pending = s.pending := by
  unfold alignLane
  dsimp only
  split
  · rfl
  · split
    · split <;> rfl
    · rfl

theorem onTrunkCell_pending (l : LaneNo) {take : State → State} (htake : ∀ t, (take t).pending = t.pending) :
    (onTrunkCell l take s).pending = s.pending := by
  unfold onTrunkCell
  dsimp only
  split
  · split <;> simp [htake]
  · rfl

end lanes

/-! ### Slots and launches -/

section launches
variable (s : State)

@[simp] theorem launchCell_pending (l : LaneNo) (i : StreamNo) : (launchCell l i s).pending = s.pending := by
  have htaken := takeHead_pending s i
  unfold launchCell
  split
  · next heq => rwa [heq] at htaken
  · next heq =>
    rw [heq] at htaken
    dsimp only
    split <;> simpa [sendOnLane] using htaken

@[simp] theorem launchCredit_pending (l : LaneNo) (i : StreamNo) : (launchCredit l i s).pending = s.pending := by
  have hclaimed := consumeCredit_pending s i
  unfold launchCredit
  split
  · next heq => rwa [heq] at hclaimed
  · next heq =>
    rw [heq] at hclaimed
    rw [launchCell_pending, hclaimed]

@[simp] theorem beginLaunch_pending (l : LaneNo) (i : StreamNo) : (beginLaunch l i s).pending = s.pending := rfl

@[simp] theorem readSlot_pending (l : LaneNo) : (readSlot l s).pending = s.pending := by
  unfold readSlot
  dsimp only [takeTurn_eq]
  split
  · split
    · rfl
    · split
      · split <;> simp
      · rfl
    · rfl
  · rfl

theorem laneSlot_pending (l : LaneNo) : (laneSlot l s).pending = s.pending := by
  unfold laneSlot
  split
  · split <;> simp
  · simp

theorem chargeLaunches_pending (flights : List (LaneNo × StreamNo)) :
    (chargeLaunches flights s).2.pending = s.pending := by
  induction flights generalizing s with
  | nil => rfl
  | cons f fs ih =>
    unfold chargeLaunches
    dsimp only [takeTurn_eq]
    split
    · exact ih s
    · split <;> simp [ih]

theorem endLaunch_pending (charged : List (LaneNo × StreamNo)) (f : LaneNo × StreamNo) :
    (endLaunch charged s f).pending = s.pending := by
  unfold endLaunch
  split
  · simp
  · split <;> rfl

theorem beforeCredit_pending (which : StreamNo → Bool) {event : State → State}
    (hevent : ∀ t, (event t).pending = t.pending) : (beforeCredit which event s).pending = s.pending :=
  (foldl_keeps _ (fun t f => endLaunch_pending t _ f) _).trans (hevent s)

theorem duringLaunches_pending (which : StreamNo → Bool) {event : State → State}
    (hevent : ∀ t, (event t).pending = t.pending) : (duringLaunches which event s).pending = s.pending :=
  ((foldl_keeps _ (fun t f => endLaunch_pending t _ f) _).trans (hevent _)).trans (chargeLaunches_pending s _)

@[simp] theorem loseTrunk_pending : (loseTrunk s).pending = s.pending :=
  duringLaunches_pending s _ fun t => duringPass_pending t trunkDown_pending

@[simp] theorem loseAlignment_pending (l : LaneNo) : (loseAlignment l s).pending = s.pending := by
  unfold loseAlignment
  dsimp only
  split
  · split <;> simp
  · rfl

theorem failedTrunkCell_pending (l : LaneNo) : (failedTrunkCell l s).pending = s.pending := by
  unfold failedTrunkCell
  dsimp only
  split
  · split <;> simp
  · rfl

theorem presetTimer_pending (clear : Bool) (i : StreamNo) : (presetTimer clear i s).2.pending = s.pending := by
  unfold presetTimer
  split
  · rfl
  · exact beforeCredit_pending s _ fun t => changePacing_pending t i _

theorem discardClose_pending (i : StreamNo) : (discardClose i s).2.pending = s.pending :=
  duringLaunches_pending s _ (closeDiscard_pending · i)

end launches

/-! ### Edge ports and admission -/

section edge
variable (s : State)

theorem edgeSlot_pending (p : PortNo) : (edgeSlot p s).pending = s.pending := by
  unfold edgeSlot
  dsimp only
  split
  · split
    · rfl
    · split
      · split <;> rfl
      · rfl
  · rfl

@[simp] theorem misrouted_pending (p : PortNo) (i : StreamNo) : (misrouted p i s).pending = s.pending := by
  simp [misrouted]

@[simp] theorem queueDropped_pending (i : StreamNo) : (queueDropped i s).pending = s.pending := by simp [queueDropped]

@[simp] theorem admitted_pending (gap : Bool) (i : StreamNo) : (admitted gap i s).pending = s.pending := by
  unfold admitted
  dsimp only
  split <;> simp

@[simp] theorem offerArrival_pending (p : PortNo) (a : Arrival) : (offerArrival p a s).pending = s.pending := by
  unfold offerArrival offerCell
  dsimp only
  split <;> simp

@[simp] theorem admitArrival_pending (p : PortNo) (c : TrafficCell) : (admitArrival p c s).pending = s.pending := by
  unfold admitArrival
  dsimp only [takeTurn_eq]
  split
  · simp
  · split
    · simp
    · split
      · simp [duplicateDropped]
      · split <;> simp

theorem onEdgeCell_pending (p : PortNo) {take : State → State} (htake : ∀ t, (take t).pending = t.pending) :
    (onEdgeCell p take s).pending = s.pending := by
  unfold onEdgeCell
  split <;> simp [htake]

theorem trafficCell_pending (p : PortNo) (c : TrafficCell) : (trafficCell p c s).pending = s.pending := by
  have hadmitted (t : State) : (onEdgeCell p (admitArrival p c) t).pending = t.pending :=
    onEdgeCell_pending t p (admitArrival_pending · p c)
  unfold trafficCell
  dsimp only
  split
  · split <;> simp [hadmitted]
  · exact hadmitted s

theorem edgeLinkUp_pending (p : PortNo) : (edgeLinkUp p s).pending = s.pending := by
  unfold edgeLinkUp
  split <;> rfl

@[simp] theorem edgeLinkDown_pending (p : PortNo) : (edgeLinkDown p s).pending = s.pending := by
  unfold edgeLinkDown
  dsimp only
  split
  · exact raise_pending _ _
  · rfl

theorem badKind_pending (p : PortNo) : (badKind p s).pending = s.pending := by simp [badKind]

theorem failedEdgeCell_pending (p : PortNo) : (failedEdgeCell p s).pending = s.pending := by
  unfold failedEdgeCell
  dsimp only
  split
  · split <;> simp
  · rfl

theorem requestArrival_pending (p : PortNo) (q : Request) : (requestArrival p q s).pending = s.pending := by
  unfold requestArrival
  dsimp only
  split
  · rfl
  · split <;> simp

end edge

/-! ### RESTART -/

section restart
variable (s : State)

theorem restartCommit_pending : (restartCommit s).pending = s.pending := by
  have hdevice : (Management.restartDevice (Management.restartImages s)).pending = s.pending := by
    unfold Management.restartDevice
    split <;> rfl
  rw [Management.restartCommit_eq]
  split
  · exact (closeRecord_pending _ _ _ _).trans hdevice
  · exact hdevice

theorem deviceRestart_pending : (deviceRestart s).pending = s.pending := by
  have hcommit := restartCommit_pending (restartStreams (restartQueues (restartArbiter (dropLanes s))))
  unfold deviceRestart restartRecoveries
  split <;> exact hcommit

end restart

/-! ### Expiries -/

section expiries
variable (s : State)

theorem answerExpiry_pending (l : LaneNo) : (answerExpiry l s).pending = s.pending := by
  unfold answerExpiry
  split <;> simp

theorem holdExpiry_pending (l : LaneNo) : (holdExpiry l s).pending = s.pending := by
  unfold holdExpiry
  split <;> simp

theorem settleExpiry_pending (i : StreamNo) : (settleExpiry i s).pending = s.pending := by
  unfold settleExpiry
  split <;> simp

theorem commitExpiry_pending : (commitExpiry s).pending = s.pending := by
  unfold commitExpiry
  split
  · split <;> simp
  · rfl

theorem budgetAgeOut_pending : (budgetAgeOut s).pending = s.pending := by
  unfold budgetAgeOut
  split
  · split <;> simp
  · rfl

theorem spacingExpiry_pending : (spacingExpiry s).pending = s.pending := by
  unfold spacingExpiry
  split <;> simp

theorem imageApplication_pending (i : StreamNo) : (imageApplication i s).pending = s.pending := by
  unfold imageApplication
  dsimp only
  split <;> simp

end expiries

/-! ### The agent -/

/-- What a body asks for, once the request has passed its checks, leaves the queue of commands. -/
def LeavesQueue (b : Except Status Action) : Prop := ∀ cs, Arbiter.KeepsAction (fun t => t.pending = cs) b

section body
variable {b : Except Status Action}

theorem leavesQueue_iff : LeavesQueue b ↔ ∀ act, b = .ok act → ∀ s, (act s).2.pending = s.pending :=
  ⟨fun h act hact s => h _ act hact s rfl, fun h _ act hact s hs => (h act hact s).trans hs⟩

theorem leavesQueue_error (status : Status) : LeavesQueue (.error status) := fun _ => Arbiter.keepsAction_error status

theorem leavesQueue_ok {act : Action} (h : ∀ s, (act s).2.pending = s.pending) : LeavesQueue (.ok act) :=
  fun _ => Arbiter.keepsAction_ok fun s => (h s).trans

theorem leavesQueue_reading (octets : State → List Byte) : LeavesQueue (reading octets) :=
  fun _ => Arbiter.keepsAction_reading octets

theorem leavesQueue_withPart (part : Option (State → List Byte)) : LeavesQueue (withPart part) :=
  fun _ => Arbiter.keepsAction_withPart part

theorem leavesQueue_answering {f : State → Status × State} (h : ∀ s, (f s).2.pending = s.pending) :
    LeavesQueue (answering f) := leavesQueue_ok h

theorem leavesQueue_withTarget {α : Type} {target : Option α} {f : α → Except Status Action}
    (h : ∀ x, LeavesQueue (f x)) : LeavesQueue (withTarget target f) :=
  fun cs => Arbiter.keepsAction_withTarget (h · cs)

theorem leavesQueue_withSelector {q : Request} {selector : Nat} (h : LeavesQueue b) :
    LeavesQueue (withSelector q selector b) :=
  fun cs => Arbiter.keepsAction_withSelector (h cs)

theorem leavesQueue_bodyDiscard (p : PortNo) (q : Request) : LeavesQueue (bodyDiscard p q) := by
  unfold bodyDiscard
  split
  · exact leavesQueue_answering (discard_pending · _)
  · exact leavesQueue_error _

theorem leavesQueue_bodyCommit (p : PortNo) (q : Request) : LeavesQueue (bodyCommit p q) := by
  unfold bodyCommit
  split
  · exact leavesQueue_ok (takeCommit_pending · p q _)
  · exact leavesQueue_error _

end body

section agent
variable {s : State}

@[simp] theorem respond_pending (p : PortNo) (q : Request) (a : Reply) : (respond p q a s).pending = s.pending := by
  unfold respond
  dsimp only
  split
  · split <;> rfl
  · rfl

@[simp] theorem refuseRequest_pending (p : PortNo) (q : Request) (status : Status) :
    (refuseRequest p q status s).pending = s.pending := by
  unfold refuseRequest
  split <;> simp

theorem conclude_pending (p : PortNo) (q : Request) (act : Action) :
    (conclude p q act s).pending = (act s).2.pending := by
  unfold conclude
  split
  · next heq => rw [respond_pending, heq]
  · next heq => exact (congrArg (fun r => r.2.pending) heq :).symm

theorem claimOnly_pending (p : PortNo) (act : Action) : (claimOnly p act s).pending = (act s).2.pending := by
  unfold claimOnly
  split <;> next heq => exact (congrArg (fun r => r.2.pending) heq :).symm

theorem startExecution_pending (p : PortNo) (q : Request) {act : Action} (hact : ∀ t, (act t).2.pending = t.pending) :
    (startExecution p q act s).pending = s.pending := by
  unfold startExecution
  dsimp only [takeTurn_eq]
  split
  · split
    · exact (claimOnly_pending p act).trans (hact _)
    · rfl
  · exact (conclude_pending p q act).trans (hact _)

theorem takeAndCheck_pending (p : PortNo) (q : Request) {body : Body} (hbody : LeavesQueue (body p q)) :
    (takeAndCheck p q body s).pending = s.pending := by
  unfold takeAndCheck
  dsimp only
  split
  · exact refuseRequest_pending p q _
  · split
    · exact refuseRequest_pending p q _
    · next hact => exact startExecution_pending p q (leavesQueue_iff.1 hbody _ hact)

theorem goOn_pending (e : Execution) {body : Body} (hbody : LeavesQueue (body e.port e.request)) :
    (goOn e body s).pending = s.pending := by
  unfold goOn
  split
  · exact respond_pending _ _ _
  · split
    · exact respond_pending _ _ _
    · next hact => exact (claimOnly_pending _ _).trans (leavesQueue_iff.1 hbody _ hact s)

theorem serve_pending (row : Request → Bool) {body : Body} (hbody : ∀ p q, LeavesQueue (body p q)) :
    (serve row body s).pending = s.pending := by
  unfold serve
  split
  · split
    · exact goOn_pending _ (hbody _ _)
    · rfl
  · split
    · split
      · exact takeAndCheck_pending _ _ (hbody _ _)
      · rfl
    · rfl

end agent

/-! ### What a command runs -/

/-- A command that runs an operation while the reset pin is released and changes nothing while it is asserted (log 11),
where the operation leaves the queue of commands. -/
def RunsUnpinned (c : Instr) : Prop :=
  ∃ f : State → State, (∀ s, exec c s = atStroke f s) ∧ ∀ s, (f s).pending = s.pending

theorem atStroke_pinned {s : State} (f : State → State) (h : s.resetPin = true) : atStroke f s = .next s := by
  rw [atStroke, if_pos h]

section runs
variable {c : Instr}

theorem runsUnpinned_atStroke {f : State → State} (hf : ∀ s, (f s).pending = s.pending)
    (h : ∀ s, exec c s = atStroke f s := by intro; rfl) : RunsUnpinned c := ⟨f, h, hf⟩

theorem runsUnpinned_running {f : State → State} (hf : ∀ s, (f s).pending = s.pending)
    (h : ∀ s, exec c s = running f s := by intro; rfl) : RunsUnpinned c :=
  ⟨fun s => f (countFirst s), h, fun s => (hf _).trans (countFirst_pending s)⟩

theorem runsUnpinned_trunkCell {l : LaneNo} {take : State → State} (htake : ∀ s, (take s).pending = s.pending)
    (h : ∀ s, exec c s = running (onTrunkCell l take) s := by intro; rfl) : RunsUnpinned c :=
  runsUnpinned_running (onTrunkCell_pending · l htake) h

theorem runsUnpinned_edgeCell {p : PortNo} {take : State → State} (htake : ∀ s, (take s).pending = s.pending)
    (h : ∀ s, exec c s = running (onEdgeCell p take) s := by intro; rfl) : RunsUnpinned c :=
  runsUnpinned_running (onEdgeCell_pending · p htake) h

theorem runsUnpinned_serve {row : Request → Bool} {body : Body} (hbody : ∀ p q, LeavesQueue (body p q))
    (h : ∀ s, exec c s = running (serve row body) s := by intro; rfl) : RunsUnpinned c :=
  runsUnpinned_running (fun _ => serve_pending row hbody) h

/-- A command of one claim on the object that its request names. -/
theorem runsUnpinned_target {α : Type} {row : Request → Bool} {target : Request → Option α}
    {claim : Request → α → State → Status × State} (hclaim : ∀ q x s, (claim q x s).2.pending = s.pending)
    (h : ∀ s, exec c s = running (serve row fun _ q => withTarget (target q) fun x => answering (claim q x)) s := by
      intro; rfl) : RunsUnpinned c :=
  runsUnpinned_serve (fun _ q => leavesQueue_withTarget fun x => leavesQueue_answering (hclaim q x)) h

/-- A command of one claim on the object that its request names, where the request carries the row's selector. -/
theorem runsUnpinned_selected {α : Type} {row : Request → Bool} {target : Request → Option α} {selector : Nat}
    {claim : Request → α → State → Status × State} (hclaim : ∀ q x s, (claim q x s).2.pending = s.pending)
    (h : ∀ s, exec c s = running (serve row fun _ q => withTarget (target q) fun x =>
      withSelector q selector (answering (claim q x))) s := by intro; rfl) : RunsUnpinned c :=
  runsUnpinned_serve (fun _ q => leavesQueue_withTarget fun x =>
    leavesQueue_withSelector (leavesQueue_answering (hclaim q x))) h

/-- A READ of a part of the object that its request names. -/
theorem runsUnpinned_readPart {α : Type} {row : Request → Bool} {target : Request → Option α}
    {part : Request → α → Option (State → List Byte)}
    (h : ∀ s, exec c s = running (serve row fun _ q => withTarget (target q) fun x => withPart (part q x)) s := by
      intro; rfl) : RunsUnpinned c :=
  runsUnpinned_serve (fun _ q => leavesQueue_withTarget fun x => leavesQueue_withPart (part q x)) h

end runs

/-- Every command but the two resets waits while the reset pin is asserted, and leaves the queue of commands. -/
theorem runsUnpinned_of_not_reset (c : Instr) (hpower : c ≠ .powerOnReset) (hpin : c ≠ .resetPinAsserted) :
    RunsUnpinned c := by
  cases c with
  | powerOnReset => contradiction
  | resetPinAsserted => contradiction
  | stroke => exact runsUnpinned_atStroke stroke_pending
  | answerDeadlineExpiry l => exact runsUnpinned_atStroke (answerExpiry_pending · l)
  | holdDeadlineExpiry l => exact runsUnpinned_atStroke (holdExpiry_pending · l)
  | settleDeadlineExpiry i => exact runsUnpinned_atStroke (settleExpiry_pending · i)
  | commitDeadlineExpiry => exact runsUnpinned_atStroke commitExpiry_pending
  | budgetEntryAgeOut => exact runsUnpinned_atStroke budgetAgeOut_pending
  | spacingExpiry => exact runsUnpinned_atStroke spacingExpiry_pending
  | arbiterPass => exact runsUnpinned_running pass_pending
  | laneSlot l => exact runsUnpinned_running (laneSlot_pending · l)
  | drainCompletion i => exact runsUnpinned_running (judgeDrain_pending · i)
  | edgeSlot p => exact runsUnpinned_running (edgeSlot_pending · p)
  | edgeLinkUp p => exact runsUnpinned_running (edgeLinkUp_pending · p)
  | edgeLinkDown p => exact runsUnpinned_running (edgeLinkDown_pending · p)
  | laneAligned l => exact runsUnpinned_running (alignLane_pending · l)
  | laneAlignmentLost l => exact runsUnpinned_running (loseAlignment_pending · l)
  | trafficCellArrival p x => exact runsUnpinned_running (trafficCell_pending · p x)
  | requestCellArrival p q => exact runsUnpinned_edgeCell (requestArrival_pending · p q)
  | edgeFillCell p => exact runsUnpinned_edgeCell (take := id) fun _ => rfl
  | edgeBadKindCell p kind => exact runsUnpinned_edgeCell (badKind_pending · p)
  | edgeBadCheckCell p => exact runsUnpinned_running (failedEdgeCell_pending · p)
  | bindAckAccept l tag =>
    exact runsUnpinned_trunkCell (takeAnswer_pending · .bind l tag (bindAcceptMatched_pending · l))
  | bindAckRefuse l tag =>
    exact runsUnpinned_trunkCell (takeAnswer_pending · .bind l tag (bindRefuseMatched_pending · l))
  | bindAckUnknownCode l tag code => exact runsUnpinned_trunkCell (takeUnknownAnswer_pending · l tag)
  | releaseAck l tag =>
    exact runsUnpinned_trunkCell (takeAnswer_pending · .release l tag (releaseAckMatched_pending · l))
  | resetAck l tag =>
    exact runsUnpinned_trunkCell (takeAnswer_pending · .laneReset l tag (resetAckMatched_pending · l))
  | pause l tag => exact runsUnpinned_trunkCell (takePause_pending · true l tag)
  | resume l tag => exact runsUnpinned_trunkCell (takePause_pending · false l tag)
  | trunkOtherKindCell l kind => exact runsUnpinned_trunkCell (strayCell_pending · l)
  | trunkFillCell l => exact runsUnpinned_trunkCell (take := id) fun _ => rfl
  | trunkBadCheckCell l => exact runsUnpinned_running (failedTrunkCell_pending · l)
  | disablePendingApplied l => exact runsUnpinned_running (applyPendingDisable_pending · l)
  | streamImageApplication i => exact runsUnpinned_running (imageApplication_pending · i)
  | deviceApplication => exact runsUnpinned_running judgeDevicePart_pending
  | commitResponse => exact runsUnpinned_running takeCommitAnswer_pending
  | readDevice => exact runsUnpinned_serve fun _ _ => leavesQueue_withPart _
  | readPort => exact runsUnpinned_readPart
  | readLane => exact runsUnpinned_readPart
  | readStream => exact runsUnpinned_readPart
  | readNotices => exact runsUnpinned_serve fun _ _ => leavesQueue_withTarget fun _ => leavesQueue_reading _
  | stageDevice => exact runsUnpinned_serve fun _ _ => leavesQueue_answering (stageDevice_pending · _)
  | stagePort => exact runsUnpinned_target fun q p s => stagePort_pending s p (portRecordOf q)
  | stageStream => exact runsUnpinned_target fun q i s => stageStream_pending s i (streamImageAt q.payload 3)
  | discard => exact runsUnpinned_serve leavesQueue_bodyDiscard
  | commit => exact runsUnpinned_serve leavesQueue_bodyCommit
  | openStream => exact runsUnpinned_target fun _ i s => openStream_pending s i
  | closeStream => exact runsUnpinned_selected fun _ i s => closePlain_pending s i
  | closeStreamDiscard => exact runsUnpinned_selected fun _ i s => discardClose_pending s i
  | clearHold => exact runsUnpinned_target fun _ i s => clearHold_pending s i
  | timerControlRun => exact runsUnpinned_selected fun _ i s => timerControl_pending s i timerRun
  | timerControlStop => exact runsUnpinned_selected fun _ i s => timerControl_pending s i timerStop
  | timerControlPreset => exact runsUnpinned_selected fun q i s => presetTimer_pending s (clearCreditOf q) i
  | ackNotice => exact runsUnpinned_target fun q n s => ackNotice_pending s n (octetAt q.payload 3).toNat
  | laneControlEnable => exact runsUnpinned_selected fun _ l s => laneEnable_pending s l
  | laneControlDisable => exact runsUnpinned_selected fun _ l s => disableLane_pending s l
  | laneControlRetire => exact runsUnpinned_selected fun _ l s => laneRetire_pending s l
  | laneControlRecover => exact runsUnpinned_selected fun _ l s => laneRecover_pending s l
  | restart =>
    exact runsUnpinned_serve fun _ _ => leavesQueue_ok fun s => duringLaunches_pending s _ deviceRestart_pending
  | unknownCommandCode => exact runsUnpinned_serve fun _ _ => leavesQueue_error _

/-! ### The machine as a whole -/

/-- Settles O1, by the two cases of the queue. -/
theorem stepRunsFrontCommand : Obligations.StepRunsFrontCommand := by
  refine ⟨fun c rest s => rfl, fun s hempty => ?_⟩
  rw [step, hempty]

/-- Settles O2: a reset keeps the queue, and every other command runs an operation that leaves it, or nothing. -/
theorem everyCommandAnswersNext : Obligations.EveryCommandAnswersNext := by
  intro c s
  by_cases hpower : c = .powerOnReset
  · subst hpower
    exact ⟨powerOnState false s, rfl, rfl⟩
  by_cases hpin : c = .resetPinAsserted
  · subst hpin
    exact ⟨powerOnState true s, rfl, rfl⟩
  obtain ⟨f, hexec, hpending⟩ := runsUnpinned_of_not_reset c hpower hpin
  rw [hexec]
  cases hasserted : s.resetPin with
  | true => exact ⟨s, atStroke_pinned f hasserted, rfl⟩
  | false => exact ⟨f s, Pacing.atStroke_running f hasserted, hpending s⟩

/-- Settles O3: the resets give the power-on state, and every other command looks at the pin first. -/
theorem resetPinHoldsTheBlock : Obligations.ResetPinHoldsTheBlock := by
  refine ⟨fun s => rfl, fun s => rfl, fun c s hpower hpin hasserted => ?_⟩
  obtain ⟨f, hexec, -⟩ := runsUnpinned_of_not_reset c hpower hpin
  rw [hexec, atStroke_pinned f hasserted]

end Sys2Proof.Proofs.Commands

/-! The streams' pacing and life states: what the blocks' operations do to one stream and its request entry, and the
invariants of R5 and R23. -/

namespace Sys2Proof.Proofs.Lives

open Sys2Proof Sys2Proof.Machine

/-! ### What the invariants look at -/

/-- What the invariants look at of one stream. -/
structure Facet where
  config   : StreamImage
  staged   : Option StreamImage
  life     : Life
  count    : Nat
  credit   : Nat
  timer    : Timer
  queue    : List TrafficCell
  heldLane : Option LaneNo

/-- A stream's part that the invariants look at. -/
def facet (r : StreamRec) : Facet :=
  ⟨r.config, r.staged, r.life, r.count, r.credit, r.timer, r.queue, r.heldLane⟩

/-- What the invariants look at: every stream's part, and the streams that have a request entry. -/
structure View where
  facets : Table 512 Facet
  listed : List StreamNo

/-- The part of a state that the invariants look at. -/
def view (s : State) : View := ⟨s.streams.mapAll facet, s.requests.map fun e => e.stream⟩

section view
variable {s t : State}

theorem facet_of_view (h : view t = view s) (i : StreamNo) : facet (t.stream i) = facet (s.stream i) :=
  Table.read_eq_of_mapAll_eq (congrArg View.facets h) i

theorem hasEntry_eq_elem (s : State) (i : StreamNo) : s.hasEntry i = (view s).listed.elem i := by
  rw [State.hasEntry, view, Bool.eq_iff_iff]
  simp

theorem hasEntry_of_view (h : view t = view s) (i : StreamNo) : t.hasEntry i = s.hasEntry i := by
  rw [hasEntry_eq_elem, hasEntry_eq_elem, h]

theorem view_of_sansNotices (h : t.sansNotices = s.sansNotices) : view t = view s := by
  have hfacets : t.streams.mapAll facet = s.streams.mapAll facet := Table.ext_read fun i => by
    rw [Table.read_mapAll, Table.read_mapAll]
    exact (congrArg facet (stream_of_sansNotices h i) :)
  rw [view, view, hfacets, requests_of_sansNotices h]

theorem view_of_streams (hs : t.streams = s.streams) (hr : t.requests = s.requests) : view t = view s := by
  rw [view, view, hs, hr]

variable (s)

theorem view_modStream (i : StreamNo) {f : StreamRec → StreamRec} (hf : ∀ r, facet (f r) = facet r) :
    view (s.modStream i f) = view s := by
  simp only [view, modStream_streams, State.stream, Table.mapAll_write_of_eq (hf _)]
  rfl

theorem view_mapStreams {f : StreamRec → StreamRec} (hf : ∀ r, facet (f r) = facet r) :
    view { s with streams := s.streams.mapAll f } = view s := by
  simp only [view, Table.mapAll_mapAll_of_eq hf]

@[simp] theorem view_raise (pt : CausePoint) : view (raise pt s) = view s :=
  view_of_sansNotices (raise_sansNotices s pt)

@[simp] theorem view_startRelease (l : LaneNo) : view (startRelease l s) = view s :=
  view_of_streams (Lanes.startRelease_streams s l) (congrArg Arbiter.ArbiterView.requests (Arbiter.view_startRelease s l))

@[simp] theorem view_judgeLane (l : LaneNo) : view (judgeLane l s) = view s := by
  obtain ⟨f, hf⟩ := Arbiter.judgeLane_eq_modLane s l
  rw [hf]
  rfl

@[simp] theorem view_judgeHeld (i : StreamNo) : view (judgeHeld i s) = view s :=
  view_of_streams (Holding.judgeHeld_streams i s) (congrArg Arbiter.ArbiterView.requests (Arbiter.view_judgeHeld s i))

@[simp] theorem view_judgeGroup (g : GroupNo) : view (judgeGroup g s) = view s := foldl_keeps s view_judgeLane _

@[simp] theorem view_indicateNotWaiting (g : GroupNo) : view (indicateNotWaiting g s) = view s := by
  rw [Arbiter.indicateNotWaiting_eq]
  rfl

@[simp] theorem view_afterGrant (g : GroupNo) : view (afterGrant g s) = view s := by
  unfold afterGrant
  dsimp only [takeTurn_eq]
  split
  · split
    · exact view_judgeGroup s g
    · split <;> simp <;> rfl
  · exact view_indicateNotWaiting s g

@[simp] theorem view_setReason (i : StreamNo) (reason : Reason) : view (setReason i reason s) = view s := by
  simp only [view, setReason, List.map_map]
  congr 1
  refine List.map_congr_left fun e _ => ?_
  simp only [Function.comp_apply]
  split <;> rfl

@[simp] theorem view_takeCommitAnswer : view (takeCommitAnswer s) = view s := by
  unfold takeCommitAnswer
  split
  · dsimp only
    split <;> rfl
  · rfl

@[simp] theorem view_judgeCompletion : view (judgeCompletion s) = view s := by
  unfold judgeCompletion
  split
  · split
    · exact view_takeCommitAnswer _
    · rfl
  · rfl

@[simp] theorem view_respond (p : PortNo) (q : Request) (a : Reply) : view (respond p q a s) = view s := by
  unfold respond
  dsimp only
  split
  · split <;> rfl
  · rfl

@[simp] theorem view_refuseRequest (p : PortNo) (q : Request) (status : Status) :
    view (refuseRequest p q status s) = view s := by
  unfold refuseRequest
  split <;> simp

@[simp] theorem view_ackNotice (n : NoticeTarget) (mask : Nat) : view (ackNotice n mask s).2 = view s := by
  unfold ackNotice
  split
  · exact foldl_keeps s (fun t pt => view_of_sansNotices (removeNotice_sansNotices t pt)) _
  · rfl

@[simp] theorem view_leaveFreeList (l : LaneNo) : view (leaveFreeList l s) = view s := by
  unfold leaveFreeList
  dsimp only
  split
  · exact view_judgeGroup _ _
  · rfl

theorem view_laneDisable (l : LaneNo) : view (laneDisable l s).2 = view s := by
  obtain ⟨lists, hv⟩ := Arbiter.view_laneDisable s l
  exact view_of_streams (Lanes.laneDisable_streams s l) (congrArg Arbiter.ArbiterView.requests hv)

@[simp] theorem view_freeOrDisable (l : LaneNo) : view (freeOrDisable l s) = view s := by
  unfold freeOrDisable
  split <;> rfl

end view

/-! ### A stream that wants no lane -/

/-- What the invariants look at, without a stream's entry. -/
def unlisted (i : StreamNo) (s : State) : View := { view s with listed := (view s).listed.filter (· != i) }

section unlisted
variable {s t : State} {i : StreamNo}

theorem view_removeEntry (i : StreamNo) (s : State) : view (removeEntry i s) = unlisted i s := by
  simp only [unlisted, view, Holding.removeEntry_streams, Arbiter.removeEntry_requests, withoutEntry, List.filter_map]
  rfl

theorem unlisted_congr (h : view t = view s) : unlisted i t = unlisted i s := by rw [unlisted, unlisted, h]

@[simp] theorem unlisted_removeEntry (i : StreamNo) (s : State) : unlisted i (removeEntry i s) = unlisted i s := by
  rw [unlisted, view_removeEntry, unlisted]
  simp

/-- Like changes of a stream of states that agree but for its entry agree so. -/
theorem unlisted_modStream_congr {f : StreamRec → StreamRec} (F : Facet → Facet) (hf : ∀ r, facet (f r) = F (facet r))
    (h : unlisted i t = unlisted i s) : unlisted i (t.modStream i f) = unlisted i (s.modStream i f) := by
  have hfacets : t.streams.mapAll facet = s.streams.mapAll facet := congrArg View.facets h
  have hi : facet (t.stream i) = facet (s.stream i) := Table.read_eq_of_mapAll_eq hfacets i
  have hlisted : _ = _ := congrArg View.listed h
  simp only [unlisted, view, modStream_streams, modStream_requests, Table.mapAll_write, hf, hi, hfacets] at hlisted ⊢
  rw [hlisted]

theorem facet_of_unlisted (h : unlisted i t = unlisted i s) (j : StreamNo) :
    facet (t.stream j) = facet (s.stream j) :=
  Table.read_eq_of_mapAll_eq (congrArg View.facets h) j

theorem settleKeptTime_facet (kind : NotifyKind) (now : PaceCount) (r : StreamRec) :
    facet (settleKeptTime kind now r) = facet r := by
  unfold settleKeptTime
  split <;> rfl

/-- A notification of a stream that wants no lane removes its entry, if it has one (R41). -/
theorem notify_quiet (kind : NotifyKind) (hw : (s.stream i).wantsLane s.paceCount = false) :
    notify kind i s = removeEntry i (s.modStream i (settleKeptTime kind s.paceCount)) := by
  cases he : s.hasEntry i with
  | true => exact Pacing.notify_removes kind he hw
  | false => exact (Pacing.notify_idle kind he hw).trans (Arbiter.removeEntry_absent (s := s.modStream i _) he).symm

theorem view_notify_quiet (kind : NotifyKind) (hw : (s.stream i).wantsLane s.paceCount = false) :
    view (notify kind i s) = unlisted i s := by
  rw [notify_quiet kind hw, view_removeEntry]
  exact unlisted_congr (view_modStream s i (settleKeptTime_facet kind _))

theorem view_demandChanged_quiet (hw : (s.stream i).wantsLane s.paceCount = false) :
    view (demandChanged i s) = unlisted i s := (view_judgeHeld _ i).trans (view_notify_quiet _ hw)

theorem wantsLane_of_idle {now : PaceCount} {r : StreamRec} (h : r.mayHold = false) : r.wantsLane now = false := by
  simp [StreamRec.wantsLane, h]

theorem wantsLane_of_empty {now : PaceCount} {r : StreamRec} (h : r.queue = []) : r.wantsLane now = false := by
  simp [StreamRec.wantsLane, StreamRec.demand, h]

theorem mayHold_of_closed {r : StreamRec} (h : r.life = .closed) : r.mayHold = false := by simp [StreamRec.mayHold, h]

theorem mayHold_of_held {r : StreamRec} (h : r.life = .held) : r.mayHold = false := by simp [StreamRec.mayHold, h]

theorem unlisted_unlist {v w : State} (h : view v = unlisted i w) : unlisted i v = unlisted i w := by
  rw [unlisted, h, unlisted]
  simp

/-- A stream as a flush leaves it (R107). -/
def flushed (r : StreamRec) : StreamRec := { r with queue := [] }

/-- A stream as its entry into CLOSED leaves it (R9). -/
def closed (r : StreamRec) : StreamRec := closePacing { r with life := .closed, queue := [] }

/-- But for the entry, a flush empties the queue, whether or not it was empty. -/
theorem unlisted_flush (i : StreamNo) (s : State) : unlisted i (flush i s) = unlisted i (s.modStream i flushed) := by
  unfold flush
  dsimp only
  split
  · next h =>
    rw [Pacing.modStream_unchanged]
    simp only [flushed, ← List.eq_nil_of_length_eq_zero h]
  · have hempty : (({ s with freeBuffers := s.freeBuffers + (s.stream i).queue.length }.modStream i flushed).stream i).queue
        = [] := by
      rw [stream_modStream_same]
      rfl
    exact (unlisted_unlist (view_demandChanged_quiet (wantsLane_of_empty hempty))).trans rfl

/-- But for the entry, a change of the pacing of a stream that may hold no lane is that change alone. -/
theorem unlisted_changePacing {f : StreamRec → StreamRec} (h : (f (s.stream i)).mayHold = false) :
    unlisted i (changePacing i f s) = unlisted i (s.modStream i f) := by
  unfold changePacing
  dsimp only
  split
  · exact unlisted_unlist (view_demandChanged_quiet (wantsLane_of_idle (by rw [stream_modStream_same]; exact h)))
  · rfl

/-- An entry into CLOSED closes the stream and removes its entry (R9). -/
theorem view_enterClosed (i : StreamNo) (s : State) : view (enterClosed i s) = unlisted i (s.modStream i closed) := by
  unfold enterClosed
  extract_lets t₁ t₂ t₃ t₄
  have hpacing : unlisted i t₂ = unlisted i (t₁.modStream i closePacing) :=
    unlisted_changePacing (mayHold_of_closed (by rw [stream_modStream_same]; rfl))
  have hflush : unlisted i t₄ = unlisted i (s.modStream i closed) := by
    calc unlisted i t₄ = unlisted i (t₂.modStream i flushed) :=
          (unlisted_removeEntry i t₃).trans (unlisted_flush i t₂)
      _ = unlisted i ((t₁.modStream i closePacing).modStream i flushed) :=
          unlisted_modStream_congr (fun F => { F with queue := [] }) (fun _ => rfl) hpacing
      _ = unlisted i (s.modStream i closed) := by
          simp only [t₁, modStream_modStream]
          rfl
  have hlife : (t₄.stream i).life = .closed := by
    have := facet_of_unlisted hflush i
    rw [stream_modStream_same] at this
    exact congrArg Facet.life this
  exact (view_demandChanged_quiet (wantsLane_of_idle (mayHold_of_closed hlife))).trans hflush

/-- A flush before an entry into CLOSED makes no difference. -/
theorem view_enterClosed_flush (i : StreamNo) (s : State) :
    view (enterClosed i (flush i s)) = unlisted i (s.modStream i closed) := by
  rw [view_enterClosed]
  refine (unlisted_modStream_congr (fun F => { F with life := .closed, timer := .stopped, credit := 0, queue := [] })
    (fun _ => rfl) (unlisted_flush i s)).trans ?_
  rw [modStream_modStream]
  rfl

end unlisted

/-! ### The changes of one stream -/

/-- A predicate of a stream and of whether it has a request entry that every change of the two respects: the changes are
those that the blocks make, each where its block makes it. -/
structure StreamRules (R : StreamRec → Bool → Prop) : Prop where
  frame : ∀ {r r' : StreamRec} {e : Bool}, facet r' = facet r → R r e → R r' e
  leaves : ∀ {r : StreamRec} {e : Bool}, R r e → R r false
  joins : ∀ {r : StreamRec} {e : Bool} {now : PaceCount}, r.wantsLane now = true → R r e → R r true
  binds : ∀ {r : StreamRec} {e : Bool} {now : PaceCount} (l : LaneNo), r.wantsLane now = true → R r e →
    R { r with heldLane := some l } false
  loses : ∀ {r : StreamRec} {e : Bool}, R r e → R { r with heldLane := none } e
  counts : ∀ {r : StreamRec} {e : Bool}, R r e → R r.struck e
  spends : ∀ {r : StreamRec} {e : Bool}, R r e → R { r with credit := r.credit - 1 } e
  gains : ∀ {r : StreamRec} {e : Bool} (c : TrafficCell), r.admits = true → R r e →
    R { r with queue := r.queue ++ [c] } e
  sends : ∀ {r : StreamRec} {e : Bool} {c : TrafficCell} {rest : List TrafficCell}, r.queue = c :: rest → R r e →
    R { r with queue := rest } e
  flushes : ∀ {r : StreamRec} {e : Bool}, R r e → R (flushed r) e
  times : ∀ {r : StreamRec} {e : Bool} (timer : Timer), r.life ≠ .closed → R r e → R { r with timer := timer } e
  presets : ∀ {r : StreamRec} {e : Bool} (clear : Bool), R r e → R (timerPreset clear r) e
  opens : ∀ {r : StreamRec} {e : Bool}, r.life = .closed ∨ r.life = .held → R r e → R { r with life := .opened } e
  begins : ∀ {r : StreamRec} {e : Bool}, r.life ≠ .closed → R r e → R (openPacing r) e
  drains : ∀ {r : StreamRec} {e : Bool}, r.life = .opened → R r e → R { r with life := .draining .plain } e
  discards : ∀ {r : StreamRec} {e : Bool}, r.life = .opened ∨ r.life = .draining .plain → R r e →
    R { flushed r with life := .draining .discard } false
  holds : ∀ {r : StreamRec} {e : Bool}, r.heldLane = none → R r e → R { r with life := .held } false
  closes : ∀ {r : StreamRec} {e : Bool}, r.heldLane = none ∨ r.life = .held → R r e → R (closed r) false
  stages : ∀ {r : StreamRec} {e : Bool} {m : StreamImage}, m.initialCredit ≤ m.creditCap → R r e →
    R { r with staged := some m } e
  unstages : ∀ {r : StreamRec} {e : Bool}, R r e → R { r with staged := none } e
  applies : ∀ {r : StreamRec} {e : Bool} {m : StreamImage} (now : PaceCount) (interval : Nat), r.staged = some m →
    R r e → R (r.applyImage now interval m) e
  restarts : ∀ {r : StreamRec} {e : Bool}, R r e →
    R (restartPacing (restartLife { r with heldLane := none, keptTime := none, queue := [] })) false
  reset : R .reset false

/-- The predicate holds of every stream. -/
def Each (R : StreamRec → Bool → Prop) (s : State) : Prop := ∀ i, R (s.stream i) (s.hasEntry i)

theorem hasEntry_removeEntry (i j : StreamNo) (s : State) :
    (removeEntry i s).hasEntry j = (s.hasEntry j && j != i) := by
  rw [State.hasEntry, Arbiter.removeEntry_requests, withoutEntry, State.hasEntry, Bool.eq_iff_iff]
  simp only [List.any_filter, List.any_eq_true, Bool.and_eq_true, bne_iff_ne, ne_eq, beq_iff_eq]
  constructor
  · rintro ⟨e, he, hne, rfl⟩
    exact ⟨⟨e, he, rfl⟩, hne⟩
  · rintro ⟨⟨e, he, rfl⟩, hne⟩
    exact ⟨e, he, hne, rfl⟩

namespace StreamRules

variable {R : StreamRec → Bool → Prop} (h : StreamRules R) {s : State}
include h

theorem keeps_view {t : State} (hs : Each R s) (hv : view t = view s) : Each R t := fun i => by
  rw [hasEntry_of_view hv]
  exact h.frame (facet_of_view hv i) (hs i)

omit h in
/-- A change of one stream's record. -/
theorem keeps_modStream (i : StreamNo) {f : StreamRec → StreamRec} (hs : Each R s)
    (hf : ∀ {e}, R (s.stream i) e → R (f (s.stream i)) e) : Each R (s.modStream i f) := fun j => by
  rw [stream_modStream, Pacing.hasEntry_modStream]
  split
  · next hij => exact hij ▸ hf (hs i)
  · exact hs j

omit h in
/-- A change of every stream's record. -/
theorem keeps_mapStreams {f : StreamRec → StreamRec} (hs : Each R s) (hf : ∀ {r e}, R r e → R (f r) e) :
    Each R { s with streams := s.streams.mapAll f } := fun j => by
  have hj : State.stream { s with streams := s.streams.mapAll f } j = f (s.stream j) := Table.read_mapAll _ _ _
  rw [hj]
  exact hf (hs j)

/-- A change of one stream's record, with the removal of its entry. -/
theorem keeps_unlisted {t : State} (i : StreamNo) {f : StreamRec → StreamRec} (hs : Each R s)
    (hv : view t = unlisted i (s.modStream i f)) (hf : ∀ {e}, R (s.stream i) e → R (f (s.stream i)) false) :
    Each R t := by
  refine h.keeps_view (s := removeEntry i (s.modStream i f)) (fun j => ?_) (hv.trans (view_removeEntry i _).symm)
  have hstream : (removeEntry i (s.modStream i f)).stream j = (s.modStream i f).stream j := by
    rw [State.stream, Holding.removeEntry_streams]
    rfl
  rw [hstream, hasEntry_removeEntry, stream_modStream, Pacing.hasEntry_modStream]
  split
  · next hij =>
    subst hij
    rw [bne_self_eq_false, Bool.and_false]
    exact hf (hs i)
  · next hij =>
    rw [bne_iff_ne.2 (Ne.symm hij), Bool.and_true]
    exact hs j

/-- A change that the invariants do not look at. -/
theorem keeps_framed (i : StreamNo) {f : StreamRec → StreamRec} (hs : Each R s)
    (hf : ∀ r, facet (f r) = facet r := by intro; rfl) : Each R (s.modStream i f) :=
  h.keeps_view hs (view_modStream s i hf)

/-! #### The arbiter -/

theorem keeps_removeEntry (i : StreamNo) (hs : Each R s) : Each R (removeEntry i s) := by
  refine h.keeps_unlisted i (f := id) hs ?_ h.leaves
  rw [view_removeEntry, Pacing.modStream_unchanged rfl]

theorem keeps_joinList {e : RequestEntry} {now : PaceCount} (hw : (s.stream e.stream).wantsLane now = true)
    (hs : Each R s) : Each R (joinList e s) := by
  have hjoined : Each R { s with requests := insertEntry s.paceCount e s.requests } := fun j => by
    have hentry : State.hasEntry { s with requests := insertEntry s.paceCount e s.requests } j =
        (e.stream == j || s.hasEntry j) := (Arbiter.insertEntry_perm _ _ _).any_eq.trans List.any_cons
    rw [hentry]
    by_cases hj : e.stream = j
    · subst hj
      rw [beq_self_eq_true, Bool.true_or]
      exact h.joins hw (hs e.stream)
    · rw [beq_false_of_ne hj, Bool.false_or]
      exact hs j
  unfold joinList
  dsimp only
  split
  · exact h.keeps_view hjoined (view_judgeGroup _ _)
  · exact hjoined

theorem keeps_startBind {e : RequestEntry} {now : PaceCount} (l : LaneNo) (rest : List LaneNo)
    (hw : (s.stream e.stream).wantsLane now = true) (hs : Each R s) : Each R (startBind e l rest s) := by
  have hbound : ∀ r : StreamRec, facet { r with heldLane := some l, keptTime := some e.time } =
      facet { r with heldLane := some l } := fun _ => rfl
  refine h.keeps_unlisted e.stream (f := fun r => { r with heldLane := some l, keptTime := some e.time }) hs ?_
    fun hr => h.frame (hbound _) (h.binds l hw hr)
  rw [startBind, view_afterGrant]
  simp only [unlisted, view, List.filter_map]
  rfl

theorem keeps_takeClaim {e : RequestEntry} (marked : List GroupNo)
    (hclaim : s.freeLanes.read e.group = [] ∨ ∃ now, (s.stream e.stream).wantsLane now = true) (hs : Each R s) :
    Each R (takeClaim e marked s).2 := by
  unfold takeClaim
  split
  · exact hs
  · next l rest hf =>
    obtain hnone | ⟨now, hw⟩ := hclaim
    · rw [hnone] at hf
      contradiction
    · exact h.keeps_startBind l rest hw hs

theorem keeps_passLoop (n : Nat) (marked : List GroupNo) (hs : Each R s) : Each R (passLoop n marked s) := by
  induction n generalizing s marked with
  | zero => exact hs
  | succ n ih =>
    unfold passLoop
    split
    · exact hs
    · split
      · exact hs
      · split
        · exact ih _ (h.keeps_removeEntry _ hs)
        · next hw => exact ih _ (h.keeps_takeClaim _ (.inr ⟨_, by simpa using hw⟩) hs)

theorem keeps_passUntil (n : Nat) (marked : List GroupNo) (hs : Each R s) : Each R (passUntil n marked s).2 := by
  induction n generalizing s marked with
  | zero => exact hs
  | succ n ih =>
    unfold passUntil
    split
    · exact hs
    · split
      · exact hs
      · split
        · exact ih _ (h.keeps_removeEntry _ hs)
        · next hw =>
          dsimp only [takeTurn_eq]
          split
          · exact hs
          · exact ih _ (h.keeps_takeClaim (s := s.dropTurn) _ (.inr ⟨_, by simpa using hw⟩) hs)

theorem keeps_pass (hs : Each R s) : Each R (pass s) := h.keeps_passLoop _ _ hs

theorem keeps_callPass (hs : Each R s) : Each R (callPass s) := by
  cases ht : s.turn with
  | true => rw [callPass_later ht]; exact hs
  | false => rw [callPass_now ht]; exact h.keeps_pass (s := s.dropTurn) hs

omit h in
/-- The claim that an event comes before is for a stream that wants a lane. -/
theorem passUntil_wantsLane {n : Nat} {marked marked' : List GroupNo} {t : State} {e : RequestEntry}
    (hp : passUntil n marked s = (some (e, marked'), t)) : ∃ now, (t.stream e.stream).wantsLane now = true := by
  induction n generalizing s marked with
  | zero => simp [passUntil] at hp
  | succ n ih =>
    unfold passUntil at hp
    split at hp
    · simp at hp
    · split at hp
      · simp at hp
      · split at hp
        · exact ih hp
        · next hw =>
          dsimp only [takeTurn_eq] at hp
          split at hp
          · simp only [Prod.mk.injEq, Option.some.injEq] at hp
            obtain ⟨⟨rfl, -⟩, rfl⟩ := hp
            exact ⟨_, by simpa using hw⟩
          · exact ih hp

theorem keeps_duringPass {event : State → State} (hevent : ∀ {t}, Each R t → Each R (event t))
    (hspares : Lanes.SparesHolders event) (hs : Each R s) : Each R (duringPass event s) := by
  have hu := h.keeps_passUntil (s := s.dropTurn) (s.dropTurn.requests.length + 4) [] hs
  unfold duringPass
  dsimp only [takeTurn_eq]
  split
  · split
    · split
      · next e marked t hp =>
        rw [hp] at hu
        refine h.keeps_passLoop _ _ (h.keeps_takeClaim marked ?_ (hevent hu))
        refine (hspares t).imp (fun hnone => hnone e.group) fun hstreams => ?_
        rw [State.stream, hstreams]
        exact passUntil_wantsLane hp
      · next t hp =>
        rw [hp] at hu
        exact hevent hu
    · exact hevent (t := s.dropTurn) hs
  · exact hevent hs

theorem keeps_notify (kind : NotifyKind) (i : StreamNo) (hs : Each R s) : Each R (notify kind i s) := by
  have hm : Each R (s.modStream i (settleKeptTime kind s.paceCount)) :=
    h.keeps_framed i hs (settleKeptTime_facet kind _)
  unfold notify
  dsimp only
  split
  · split
    · exact h.keeps_view hm (view_setReason _ _ _)
    · exact h.keeps_removeEntry _ hm
  · split
    · next hw =>
      refine h.keeps_callPass (h.keeps_joinList (now := s.paceCount) ?_ hm)
      rw [stream_modStream_same]
      unfold settleKeptTime
      split <;> exact hw
    · exact hm

theorem keeps_demandChanged (i : StreamNo) (hs : Each R s) : Each R (demandChanged i s) :=
  h.keeps_view (h.keeps_notify .demandChange i hs) (view_judgeHeld _ i)

/-! #### Pacing and queues -/

theorem keeps_changePacing (i : StreamNo) {f : StreamRec → StreamRec} (hs : Each R s)
    (hf : ∀ {e}, R (s.stream i) e → R (f (s.stream i)) e) : Each R (changePacing i f s) := by
  have hm : Each R (s.modStream i f) := keeps_modStream i hs hf
  unfold changePacing
  dsimp only
  split
  · exact h.keeps_demandChanged i hm
  · exact hm

theorem keeps_consumeCredit (i : StreamNo) (hs : Each R s) : Each R (consumeCredit i s).2 := by
  unfold consumeCredit
  split
  · exact hs
  · exact h.keeps_changePacing i hs h.spends

theorem keeps_emptinessChanged (i : StreamNo) (wasEmpty : Bool) (hs : Each R s) :
    Each R (emptinessChanged i wasEmpty s) := by
  unfold emptinessChanged
  split
  · exact hs
  · exact h.keeps_demandChanged i hs

/-- A cell joins the queue of a stream that admits cells (R105). -/
theorem keeps_appendCell {i : StreamNo} (c : TrafficCell) (ha : (s.stream i).admits = true) (hs : Each R s) :
    Each R (appendCell i c s) := by
  have hjoined : Each R ({ s with freeBuffers := s.freeBuffers - 1 }.modStream i
      fun r => { r with queue := r.queue ++ [c] }) :=
    keeps_modStream (s := { s with freeBuffers := s.freeBuffers - 1 }) i hs (h.gains c ha)
  refine h.keeps_emptinessChanged i _ ?_
  split
  · exact h.keeps_view hjoined (view_raise _ _)
  · exact hjoined

theorem keeps_takeHead (i : StreamNo) (hs : Each R s) : Each R (takeHead i s).2 := by
  unfold takeHead
  split
  · exact hs
  · next hq =>
    exact h.keeps_emptinessChanged i _
      (keeps_modStream (s := { s with freeBuffers := s.freeBuffers + 1 }) i hs (h.sends hq))

theorem keeps_flush (i : StreamNo) (hs : Each R s) : Each R (flush i s) := by
  unfold flush
  dsimp only
  split
  · exact hs
  · exact h.keeps_demandChanged i
      (keeps_modStream (s := { s with freeBuffers := s.freeBuffers + (s.stream i).queue.length }) i hs h.flushes)

theorem keeps_tellStroke (before : StreamRec) (i : StreamNo) (hs : Each R s) : Each R (tellStroke before i s) := by
  have hraised : Each R (if before.saturates then raise (.stream i .creditSaturated) s else s) := by
    split
    · exact h.keeps_view hs (view_raise s _)
    · exact hs
  unfold tellStroke
  dsimp only
  split
  · exact h.keeps_demandChanged i hraised
  · exact hraised

theorem keeps_countStreams (hs : Each R s) : Each R (countStreams s) :=
  Arbiter.ClaimInvariant.keeps_foldl (fun _ i => h.keeps_tellStroke (s.stream i) i) _
    (keeps_mapStreams (s := { s with uncounted := false }) hs h.counts)

theorem keeps_countFirst (hs : Each R s) : Each R (countFirst s) := by
  unfold countFirst
  split
  · exact h.keeps_countStreams hs
  · exact hs

theorem keeps_stroke (hs : Each R s) : Each R (stroke s) := by
  have hadvanced : Each R (advance s).dropTurn := hs
  unfold stroke
  dsimp only [takeTurn_eq]
  split
  · exact h.keeps_countStreams hs
  · split
    · exact hadvanced
    · exact h.keeps_countStreams hadvanced

/-! #### Life states -/

theorem keeps_enterClosed {i : StreamNo} (hi : (s.stream i).heldLane = none ∨ (s.stream i).life = .held)
    (hs : Each R s) : Each R (enterClosed i s) :=
  h.keeps_unlisted i hs (view_enterClosed i s) (h.closes hi)

theorem keeps_enterClosed_flush {i : StreamNo} (hi : (s.stream i).heldLane = none ∨ (s.stream i).life = .held)
    (hs : Each R s) : Each R (enterClosed i (flush i s)) :=
  h.keeps_unlisted i hs (view_enterClosed_flush i s) (h.closes hi)

omit h in
theorem heldLane_of_drainComplete {r : StreamRec} (hr : r.drainComplete = true) : r.heldLane = none := by
  unfold StreamRec.drainComplete at hr
  split at hr <;> simp_all

theorem keeps_judgeDrain (i : StreamNo) (hs : Each R s) : Each R (judgeDrain i s) := by
  unfold judgeDrain
  split
  · next hi => exact h.keeps_enterClosed (.inl (heldLane_of_drainComplete hi)) hs
  · exact hs

theorem keeps_openStream (i : StreamNo) (hs : Each R s) : Each R (openStream i s).2 := by
  unfold openStream
  dsimp only
  split
  · next hi =>
    refine h.keeps_demandChanged i (h.keeps_changePacing i (keeps_modStream i hs fun hr => ?_) (h.begins ?_))
    · exact h.frame (r := { s.stream i with life := .opened }) rfl (h.opens (.inl hi.1) hr)
    · rw [stream_modStream_same]
      exact Life.noConfusion
  · exact hs

omit h in
/-- The flush and the removal of a close with discard (R11), before the stream closes or drains. -/
theorem unlisted_closeDiscarding (i : StreamNo) (s : State) :
    unlisted i (removeEntry i (flush i s)) = unlisted i (s.modStream i flushed) :=
  (unlisted_removeEntry i _).trans (unlisted_flush i s)

theorem keeps_closeDiscarding {i : StreamNo} (hi : (s.stream i).life = .opened ∨ (s.stream i).life = .draining .plain)
    (hs : Each R s) : Each R (closeDiscarding i s) := by
  have hflushed := facet_of_unlisted (unlisted_closeDiscarding i s) i
  rw [stream_modStream_same] at hflushed
  unfold closeDiscarding
  dsimp only
  split
  · next hheld =>
    refine h.keeps_enterClosed (.inl (by simpa using hheld)) (h.keeps_removeEntry i (h.keeps_flush i hs))
  · refine h.keeps_unlisted i (f := fun r => { flushed r with life := .draining .discard }) hs ?_ (h.discards hi)
    have hqueue : (removeEntry i (flush i s) |>.stream i).queue = [] := congrArg Facet.queue hflushed
    refine (view_demandChanged_quiet (wantsLane_of_empty ?_)).trans ?_
    · rw [stream_modStream_same]
      exact hqueue
    · refine (unlisted_modStream_congr (fun F => { F with life := .draining .discard }) (fun _ => rfl)
        (unlisted_closeDiscarding i s)).trans ?_
      rw [modStream_modStream]

theorem keeps_closePlain (i : StreamNo) (hs : Each R s) : Each R (closePlain i s).2 := by
  unfold closePlain
  split <;> dsimp only
  · next hi => exact h.keeps_judgeDrain i (h.keeps_demandChanged i (keeps_modStream i hs (h.drains hi)))
  · next hi => exact h.keeps_enterClosed_flush (.inr hi) hs
  · exact hs
  · exact hs

theorem keeps_closeDiscard (i : StreamNo) (hs : Each R s) : Each R (closeDiscard i s).2 := by
  unfold closeDiscard
  split <;> dsimp only
  · next hi => exact h.keeps_closeDiscarding (.inl hi) hs
  · next hi => exact h.keeps_enterClosed_flush (.inr hi) hs
  · next hi => exact h.keeps_closeDiscarding (.inr hi) hs
  · exact hs
  · exact hs

theorem keeps_clearHold (i : StreamNo) (hs : Each R s) : Each R (clearHold i s).2 := by
  unfold clearHold
  split
  · next hi =>
    refine h.keeps_demandChanged i (keeps_modStream i (h.keeps_framed i hs) (h.opens (.inr ?_)))
    rw [stream_modStream_same]
    exact hi
  · exact hs

theorem keeps_refusalLimitReached {i : StreamNo} (hi : (s.stream i).heldLane = none) (hs : Each R s) :
    Each R (refusalLimitReached i s) := by
  unfold refusalLimitReached
  split
  · refine h.keeps_unlisted i (f := fun r => { r with life := .held }) hs ?_ (h.holds hi)
    refine (view_demandChanged_quiet (wantsLane_of_idle (mayHold_of_held ?_))).trans (unlisted_congr (view_raise _ _))
    have hraised := facet_of_view (view_raise (s.modStream i fun r => { r with life := .held }) (.stream i .held)) i
    rw [stream_modStream_same] at hraised
    exact congrArg Facet.life hraised
  · have hv := view_raise s (.stream i .held)
    exact h.keeps_enterClosed_flush (.inl ((congrArg Facet.heldLane (facet_of_view hv i)).trans hi))
      (h.keeps_view hs hv)
  all_goals exact hs

theorem keeps_bindRefused {i : StreamNo} (hi : (s.stream i).heldLane = none) (hs : Each R s) :
    Each R (bindRefused i s) := by
  have hcounted : Each R (s.modStream i fun r => { r with refusals := r.refusals + 1 }) := h.keeps_framed i hs
  unfold bindRefused
  dsimp only
  split
  · split
    · exact h.keeps_refusalLimitReached (by rw [stream_modStream_same]; exact hi) hcounted
    · exact hcounted
  · exact hs

theorem keeps_timerControl (i : StreamNo) {f : StreamRec → StreamRec} (hs : Each R s)
    (hf : ∀ {r e}, r.life ≠ .closed → R r e → R (f r) e) : Each R (timerControl i f s).2 := by
  unfold timerControl
  split
  · exact hs
  · next hi => exact h.keeps_changePacing i hs (hf hi)

theorem timerStop_rule {r : StreamRec} {e : Bool} (hr : r.life ≠ .closed) (hR : R r e) : R (timerStop r) e := by
  rw [Pacing.timerStop_eq]
  exact h.times _ hr hR

/-! #### Commits -/

theorem keeps_judgeCompletion (hs : Each R s) : Each R (judgeCompletion s) := h.keeps_view hs (view_judgeCompletion s)

/-- A stream's own staged image is what its application applies (R121). -/
theorem keeps_applyRecord {i : StreamNo} {m : StreamImage} (hm : (s.stream i).staged = some m) (hs : Each R s) :
    Each R (applyRecord i m s) :=
  h.keeps_removeEntry i (keeps_modStream i hs (h.applies _ _ hm))

theorem keeps_commitLoss (i : StreamNo) (hs : Each R s) : Each R (commitLoss i s) := by
  unfold commitLoss
  dsimp only
  split
  · next hm => exact h.keeps_judgeCompletion (h.keeps_applyRecord (s := modRecord _ s) hm hs)
  · exact hs

theorem keeps_judgeDevicePart (hs : Each R s) : Each R (judgeDevicePart s) := by
  unfold judgeDevicePart
  split
  · split
    · exact h.keeps_judgeCompletion (h.keeps_callPass (s := applyDevice _ s) hs)
    · exact hs
  · exact hs

/-! #### Lanes, handshakes and the trunk link -/

theorem keeps_clearHolder (l : LaneNo) (i : StreamNo) (hs : Each R s) : Each R (clearHolder l i s) :=
  keeps_modStream (s := s.modLane l _) i hs h.loses

theorem keeps_lossClaims (kind : NotifyKind) (i : StreamNo) (hs : Each R s) : Each R (lossClaims kind i s) :=
  h.keeps_notify kind i (h.keeps_commitLoss i (h.keeps_judgeDrain i hs))

theorem keeps_loseLane (kind : NotifyKind) (l : LaneNo) (i : StreamNo) (hs : Each R s) : Each R (loseLane kind l i s) :=
  h.keeps_lossClaims kind i (h.keeps_clearHolder l i hs)

theorem keeps_loseHolder (kind : NotifyKind) (l : LaneNo) (hs : Each R s) : Each R (loseHolder kind l s) := by
  unfold loseHolder
  split
  · exact h.keeps_loseLane kind l _ hs
  · exact hs

theorem keeps_raise (pt : CausePoint) (hs : Each R s) : Each R (raise pt s) := h.keeps_view hs (view_raise s pt)

omit h in
theorem keeps_modLane (l : LaneNo) (f : LaneRec → LaneRec) (hs : Each R s) : Each R (s.modLane l f) := hs

theorem keeps_staleCell (l : LaneNo) (hs : Each R s) : Each R (staleCell l s) :=
  h.keeps_raise _ (keeps_modLane l _ hs)

theorem keeps_takeAnswer (kind : Handshake) (l : LaneNo) (tag : Byte) {matching : State → State}
    (hm : ∀ {t}, Each R t → Each R (matching t)) (hs : Each R s) : Each R (takeAnswer kind l tag matching s) := by
  unfold takeAnswer
  split
  · exact h.keeps_staleCell l hs
  · split
    · exact hm hs
    · exact h.keeps_raise _ hs

theorem keeps_takeUnknownAnswer (l : LaneNo) (tag : Byte) (hs : Each R s) : Each R (takeUnknownAnswer l tag s) := by
  unfold takeUnknownAnswer
  split
  · exact h.keeps_staleCell l hs
  · exact h.keeps_raise _ hs

theorem keeps_takePause (paused : Bool) (l : LaneNo) (tag : Byte) (hs : Each R s) :
    Each R (takePause paused l tag s) := by
  unfold takePause
  split
  · exact h.keeps_staleCell l hs
  · split
    · exact keeps_modLane l _ hs
    · exact h.keeps_raise _ hs

theorem keeps_bindAcceptMatched (l : LaneNo) (hs : Each R s) : Each R (bindAcceptMatched l s) := by
  refine h.keeps_judgeDevicePart (h.keeps_view ?_ (view_judgeLane _ l))
  split
  · exact h.keeps_notify _ _ (h.keeps_framed (s := s.modLane l _) _ hs)
  · exact keeps_modLane l _ hs

theorem keeps_freeOrDisable (l : LaneNo) (hs : Each R s) : Each R (freeOrDisable l s) :=
  h.keeps_view hs (view_freeOrDisable s l)

theorem keeps_passOnJoin (joined : Bool) (hs : Each R s) : Each R (passOnJoin joined s) := by
  cases joined with
  | true => exact h.keeps_callPass hs
  | false => exact hs

theorem keeps_handBack (l : LaneNo) (i : StreamNo) (hs : Each R s) : Each R (handBack l i s) :=
  h.keeps_freeOrDisable l (h.keeps_clearHolder l i hs)

omit h in
/-- A stream that hands its lane back holds none (R66, R69). -/
theorem heldLane_handBack (l : LaneNo) (i : StreamNo) (s : State) : ((handBack l i s).stream i).heldLane = none := by
  refine (congrArg Facet.heldLane (facet_of_view (view_freeOrDisable (clearHolder l i s) l) i)).trans ?_
  rw [clearHolder, stream_modStream_same]
  rfl

theorem keeps_refusalReports (i : StreamNo) (joined : Bool) (hs : Each R s) : Each R (refusalReports i joined s) := by
  unfold refusalReports
  dsimp only [takeTurn_eq]
  split
  · split
    · exact h.keeps_notify _ i (h.keeps_callPass (s := s.dropTurn) hs)
    · exact h.keeps_callPass (h.keeps_notify (s := s.dropTurn) _ i hs)
  · exact h.keeps_notify _ i hs

theorem keeps_bindRefuseMatched (l : LaneNo) (hs : Each R s) : Each R (bindRefuseMatched l s) := by
  have hended : Each R (s.modLane l fun r => { r.endHandshake with bindsRefused := r.bindsRefused + 1 }) := hs
  unfold bindRefuseMatched
  dsimp only
  split
  · next i _ =>
    exact h.keeps_judgeDevicePart (h.keeps_refusalReports i _ (h.keeps_commitLoss i (h.keeps_judgeDrain i
      (h.keeps_bindRefused (heldLane_handBack l i _) (h.keeps_handBack l i hended)))))
  · exact h.keeps_judgeDevicePart (h.keeps_passOnJoin _ (h.keeps_freeOrDisable l hended))

theorem keeps_releaseAckMatched (l : LaneNo) (hs : Each R s) : Each R (releaseAckMatched l s) := by
  have hended : Each R (s.modLane l LaneRec.endHandshake) := hs
  unfold releaseAckMatched
  dsimp only
  split
  · next i _ =>
    exact h.keeps_judgeDevicePart (h.keeps_passOnJoin _ (h.keeps_lossClaims _ i (h.keeps_handBack l i hended)))
  · exact h.keeps_judgeDevicePart (h.keeps_passOnJoin _ (h.keeps_freeOrDisable l hended))

theorem keeps_resetAckMatched (l : LaneNo) (hs : Each R s) : Each R (resetAckMatched l s) :=
  h.keeps_judgeDevicePart (h.keeps_passOnJoin _ (h.keeps_freeOrDisable (s := s.modLane l _) l hs))

theorem keeps_answerTimeout (l : LaneNo) (hs : Each R s) : Each R (answerTimeout l s) := by
  have hraised (pt : CausePoint) : Each R (raise pt (s.modLane l LaneRec.timedOut)) :=
    h.keeps_raise (s := s.modLane l _) pt hs
  unfold answerTimeout
  dsimp only
  split
  · split
    · next i _ => exact h.keeps_judgeDevicePart (h.keeps_loseLane _ l i (h.keeps_raise _ (hraised _)))
    · exact h.keeps_judgeDevicePart (hraised _)
  · exact h.keeps_judgeDevicePart (h.keeps_loseHolder _ l (hraised _))
  · exact h.keeps_judgeDevicePart (hraised _)
  all_goals exact hs

theorem keeps_laneDisable (l : LaneNo) (hs : Each R s) : Each R (laneDisable l s).2 :=
  h.keeps_view hs (view_laneDisable s l)

theorem keeps_disableLane (l : LaneNo) (hs : Each R s) : Each R (disableLane l s).2 := by
  unfold disableLane
  split
  · exact h.keeps_duringPass (h.keeps_laneDisable l) (fun t => .inr (Lanes.laneDisable_streams t l)) hs
  · exact h.keeps_laneDisable l hs

omit h in
theorem keeps_laneEnable (l : LaneNo) (hs : Each R s) : Each R (laneEnable l s).2 := by
  unfold laneEnable
  split
  · split <;> exact hs
  · exact hs

theorem keeps_startRelease (l : LaneNo) (hs : Each R s) : Each R (startRelease l s) :=
  h.keeps_view hs (view_startRelease s l)

theorem keeps_laneRetire (l : LaneNo) (hs : Each R s) : Each R (laneRetire l s).2 := by
  unfold laneRetire
  split
  · exact h.keeps_startRelease l hs
  · exact hs

omit h in
theorem keeps_laneRecover (l : LaneNo) (hs : Each R s) : Each R (laneRecover l s).2 := by
  unfold laneRecover
  split <;> exact hs

theorem keeps_applyPendingDisable (l : LaneNo) (hs : Each R s) : Each R (applyPendingDisable l s) := by
  unfold applyPendingDisable
  dsimp only
  split
  · split
    · exact h.keeps_startRelease l hs
    · split
      · exact h.keeps_view (s := becomeDisabled l s) hs (view_leaveFreeList _ l)
      · exact hs
  · exact hs

theorem keeps_dropLanes (hs : Each R s) : Each R (dropLanes s) := keeps_mapStreams hs h.loses

theorem keeps_trunkLoss (before : LaneRec) (hs : Each R s) : Each R (trunkLoss before s) := by
  unfold trunkLoss
  split
  · dsimp only
    split
    · exact h.keeps_lossClaims _ _ (h.keeps_raise _ hs)
    · exact h.keeps_lossClaims _ _ hs
  · exact hs

theorem keeps_trunkDown (hs : Each R s) : Each R (trunkDown s) :=
  h.keeps_judgeDevicePart (Arbiter.ClaimInvariant.keeps_foldl (fun _ l => h.keeps_trunkLoss (s.lane l)) _
    (h.keeps_dropLanes (h.keeps_raise (s := { s with trunkUp := false }) _ hs)))

omit h in
theorem keeps_alignLane (l : LaneNo) (hs : Each R s) : Each R (alignLane l s) := by
  unfold alignLane
  dsimp only
  split
  · exact hs
  · split
    · split <;> exact hs
    · exact hs

omit h in
theorem keeps_onTrunkCell (l : LaneNo) {take : State → State} (htake : ∀ {t}, Each R t → Each R (take t))
    (hs : Each R s) : Each R (onTrunkCell l take s) := by
  unfold onTrunkCell
  dsimp only
  split
  · split
    · exact htake (t := s.modLane l _) hs
    · exact hs
  · exact hs

/-! #### Slots and launches -/

theorem keeps_launchCell (l : LaneNo) (i : StreamNo) (hs : Each R s) : Each R (launchCell l i s) := by
  have htaken := h.keeps_takeHead i hs
  unfold launchCell
  split
  · next heq =>
    rw [heq] at htaken
    exact htaken
  · next c t heq =>
    rw [heq] at htaken
    refine h.keeps_framed i (keeps_modLane l _ ?_)
    split
    · exact h.keeps_judgeDrain i htaken
    · exact htaken

theorem keeps_launchCredit (l : LaneNo) (i : StreamNo) (hs : Each R s) : Each R (launchCredit l i s) := by
  have hclaimed := h.keeps_consumeCredit i hs
  unfold launchCredit
  split
  · next heq =>
    rw [heq] at hclaimed
    exact hclaimed
  · next heq =>
    rw [heq] at hclaimed
    exact h.keeps_launchCell l i hclaimed

theorem keeps_readSlot (l : LaneNo) (hs : Each R s) : Each R (readSlot l s) := by
  unfold readSlot
  dsimp only [takeTurn_eq]
  split
  · split
    · exact hs
    · next i _ _ =>
      have hbegun : Each R (beginLaunch l i s.dropTurn) := hs
      split
      · split
        · exact hbegun
        · exact h.keeps_launchCredit l i hbegun
      · exact hs
    · exact hs
  · exact hs

theorem keeps_laneSlot (l : LaneNo) (hs : Each R s) : Each R (laneSlot l s) := by
  unfold laneSlot
  split
  · split
    · exact h.keeps_launchCredit l _ hs
    · exact h.keeps_readSlot l hs
  · exact h.keeps_readSlot l hs

theorem keeps_chargeLaunches (flights : List (LaneNo × StreamNo)) (hs : Each R s) :
    Each R (chargeLaunches flights s).2 := by
  induction flights generalizing s with
  | nil => exact hs
  | cons f fs ih =>
    unfold chargeLaunches
    dsimp only [takeTurn_eq]
    split
    · exact ih hs
    · split
      · exact ih (h.keeps_consumeCredit (s := s.dropTurn) f.2 hs)
      · exact ih (s := s.dropTurn) hs

theorem keeps_endLaunch (charged : List (LaneNo × StreamNo)) (f : LaneNo × StreamNo) (hs : Each R s) :
    Each R (endLaunch charged s f) := by
  unfold endLaunch
  split
  · exact h.keeps_launchCell f.1 f.2 hs
  · split <;> exact hs

theorem keeps_duringLaunches (which : StreamNo → Bool) {event : State → State}
    (hevent : ∀ {t}, Each R t → Each R (event t)) (hs : Each R s) : Each R (duringLaunches which event s) :=
  Arbiter.ClaimInvariant.keeps_foldl (fun _ f => h.keeps_endLaunch _ f) _ (hevent (h.keeps_chargeLaunches _ hs))

theorem keeps_presetTimer (clear : Bool) (i : StreamNo) (hs : Each R s) : Each R (presetTimer clear i s).2 := by
  unfold presetTimer
  split
  · exact hs
  · exact Arbiter.ClaimInvariant.keeps_foldl (fun _ f => h.keeps_endLaunch _ f) _
      (h.keeps_changePacing i hs (h.presets clear))

theorem keeps_discardClose (i : StreamNo) (hs : Each R s) : Each R (discardClose i s).2 :=
  h.keeps_duringLaunches _ (h.keeps_closeDiscard i) hs

theorem keeps_loseTrunk (hs : Each R s) : Each R (loseTrunk s) :=
  h.keeps_duringLaunches _
    (h.keeps_duringPass h.keeps_trunkDown fun t => .inl (Arbiter.trunkDown_noFreeLane t)) hs

theorem keeps_loseAlignment (l : LaneNo) (hs : Each R s) : Each R (loseAlignment l s) := by
  unfold loseAlignment
  dsimp only
  split
  · split
    · exact h.keeps_loseTrunk (s := s.modLane l _) hs
    · exact hs
  · exact hs

theorem keeps_failedTrunkCell (l : LaneNo) (hs : Each R s) : Each R (failedTrunkCell l s) := by
  unfold failedTrunkCell
  dsimp only
  split
  · split
    · exact h.keeps_loseAlignment (s := s.modLane l _) l hs
    · exact hs
  · exact hs

/-! #### Edge ports and admission -/

omit h in
theorem keeps_modPort (p : PortNo) (f : PortRec → PortRec) (hs : Each R s) : Each R (s.modPort p f) := hs

omit h in
theorem keeps_edgeSlot (p : PortNo) (hs : Each R s) : Each R (edgeSlot p s) := by
  unfold edgeSlot
  dsimp only
  split
  · split
    · exact hs
    · split
      · split <;> exact hs
      · exact hs
  · exact hs

theorem keeps_misrouted (p : PortNo) (i : StreamNo) (hs : Each R s) : Each R (misrouted p i s) :=
  h.keeps_raise _ (keeps_modPort p _ hs)

theorem keeps_queueDropped (i : StreamNo) (hs : Each R s) : Each R (queueDropped i s) :=
  h.keeps_raise _ (h.keeps_framed i hs)

theorem keeps_admitted (gap : Bool) (i : StreamNo) (hs : Each R s) : Each R (admitted gap i s) := by
  have hcounted : Each R (s.modStream i fun r => { r with admitted := r.admitted + 1 }) := h.keeps_framed i hs
  unfold admitted
  dsimp only
  split
  · exact h.keeps_raise _ (h.keeps_framed i hcounted)
  · exact hcounted

omit h in
theorem admits_of_appended {i : StreamNo} {limit : Nat} (ha : appendAnswer i limit s = .appended) :
    (s.stream i).admits = true := by
  unfold appendAnswer at ha
  dsimp only at ha
  split at ha
  · contradiction
  · next hadmits => simpa using hadmits

theorem keeps_offerArrival (p : PortNo) (a : Arrival) (hs : Each R s) : Each R (offerArrival p a s) := by
  have hended : Each R (s.modPort p fun r => { r with arriving := none }) := hs
  unfold offerArrival offerCell
  dsimp only
  split
  · next ha => exact h.keeps_admitted _ _ (h.keeps_appendCell _ (admits_of_appended ha) hended)
  · exact h.keeps_queueDropped _ hended
  · exact h.keeps_queueDropped _ hended
  · exact h.keeps_misrouted p _ hended

theorem keeps_admitArrival (p : PortNo) (c : TrafficCell) (hs : Each R s) : Each R (admitArrival p c s) := by
  have hsettled : Each R (s.modStream c.stream fun r => { r with expected := some (c.sequence + 1) }).dropTurn :=
    h.keeps_framed (f := fun r => { r with expected := some (c.sequence + 1) }) c.stream hs
  unfold admitArrival
  dsimp only [takeTurn_eq]
  split
  · exact h.keeps_misrouted p _ hs
  · split
    · exact h.keeps_misrouted p _ hs
    · split
      · exact h.keeps_raise _ (h.keeps_framed _ hs)
      · split
        · exact keeps_modPort p _ hsettled
        · exact h.keeps_offerArrival p _ (keeps_modPort p _ hsettled)

omit h in
theorem keeps_onEdgeCell (p : PortNo) {take : State → State} (htake : ∀ {t}, Each R t → Each R (take t))
    (hs : Each R s) : Each R (onEdgeCell p take s) := by
  unfold onEdgeCell
  split
  · exact htake (t := s.modPort p _) hs
  · exact hs

theorem keeps_trafficCell (p : PortNo) (c : TrafficCell) (hs : Each R s) : Each R (trafficCell p c s) := by
  unfold trafficCell
  dsimp only
  split
  · next a _ =>
    have hoffered := h.keeps_offerArrival p a hs
    split
    · exact hoffered
    · exact keeps_onEdgeCell p (h.keeps_admitArrival p c) hoffered
  · exact keeps_onEdgeCell p (h.keeps_admitArrival p c) hs

omit h in
theorem keeps_edgeLinkUp (p : PortNo) (hs : Each R s) : Each R (edgeLinkUp p s) := by
  unfold edgeLinkUp
  split <;> exact hs

theorem keeps_edgeLinkDown (p : PortNo) (hs : Each R s) : Each R (edgeLinkDown p s) := by
  unfold edgeLinkDown
  dsimp only
  split
  · refine h.keeps_view (h.keeps_raise (s := s.modPort p _) _ hs) (view_mapStreams (agentLoss p _) fun r => ?_)
    split <;> rfl
  · exact hs

theorem keeps_badKind (p : PortNo) (hs : Each R s) : Each R (badKind p s) := h.keeps_raise _ (keeps_modPort p _ hs)

theorem keeps_failedEdgeCell (p : PortNo) (hs : Each R s) : Each R (failedEdgeCell p s) := by
  unfold failedEdgeCell
  dsimp only
  split
  · split
    · exact h.keeps_edgeLinkDown p (h.keeps_raise _ (keeps_modPort p _ hs))
    · exact h.keeps_raise _ (keeps_modPort p _ hs)
  · exact hs

theorem keeps_requestArrival (p : PortNo) (q : Request) (hs : Each R s) : Each R (requestArrival p q s) := by
  unfold requestArrival
  dsimp only
  split
  · exact hs
  · split
    · exact hs
    · exact h.keeps_raise _ hs

/-! #### The agent -/

theorem keeps_conclude (p : PortNo) (q : Request) {act : Action} (hact : ∀ s, Each R s → Each R (act s).2)
    (hs : Each R s) : Each R (conclude p q act s) := by
  have hclaimed := hact s hs
  unfold conclude
  split
  · next heq =>
    rw [heq] at hclaimed
    exact h.keeps_view hclaimed (view_respond _ p q _)
  · next heq =>
    rw [heq] at hclaimed
    exact hclaimed

omit h in
theorem keeps_claimOnly (p : PortNo) {act : Action} (hact : ∀ s, Each R s → Each R (act s).2) (hs : Each R s) :
    Each R (claimOnly p act s) := by
  have hclaimed := hact s hs
  unfold claimOnly
  split
  · next heq =>
    rw [heq] at hclaimed
    exact hclaimed
  · next heq =>
    rw [heq] at hclaimed
    exact hclaimed

theorem keeps_startExecution (p : PortNo) (q : Request) {act : Action} (hact : ∀ s, Each R s → Each R (act s).2)
    (hs : Each R s) : Each R (startExecution p q act s) := by
  have hd : Each R s.dropTurn := hs
  unfold startExecution
  dsimp only [takeTurn_eq]
  split
  · split
    · exact keeps_claimOnly p hact hd
    · exact hd
  · exact h.keeps_conclude p q hact hd

theorem keeps_takeAndCheck (p : PortNo) (q : Request) {body : Body}
    (hbody : ∀ p q, Arbiter.KeepsAction (Each R) (body p q)) (hs : Each R s) : Each R (takeAndCheck p q body s) := by
  have htaken : Each R (takeRequest p q s) := hs
  unfold takeAndCheck
  dsimp only
  split
  · exact h.keeps_view htaken (view_refuseRequest _ _ _ _)
  · split
    · exact h.keeps_view htaken (view_refuseRequest _ _ _ _)
    · next hact => exact h.keeps_startExecution p q (hbody p q _ hact) htaken

theorem keeps_goOn (e : Execution) {body : Body} (hbody : ∀ p q, Arbiter.KeepsAction (Each R) (body p q))
    (hs : Each R s) : Each R (goOn e body s) := by
  unfold goOn
  split
  · exact h.keeps_view hs (view_respond _ _ _ _)
  · split
    · exact h.keeps_view hs (view_respond _ _ _ _)
    · next hact => exact keeps_claimOnly _ (hbody _ _ _ hact) hs

theorem keeps_serve (row : Request → Bool) {body : Body} (hbody : ∀ p q, Arbiter.KeepsAction (Each R) (body p q))
    (hs : Each R s) : Each R (serve row body s) := by
  unfold serve
  split
  · split
    · exact h.keeps_goOn _ hbody hs
    · exact hs
  · split
    · split
      · exact h.keeps_takeAndCheck _ _ hbody hs
      · exact hs
    · exact hs

/-! #### Staging, DISCARD, COMMIT and RESTART -/

omit h in
/-- A staged image keeps its initial credit within its cap (R114). -/
theorem initialCredit_of_streamImageAt {t : Payload} {k : Nat} {m : StreamImage} (hm : streamImageAt t k = some m) :
    m.initialCredit ≤ m.creditCap := by
  by_cases hrange : (octetAt t k).toNat < 6 ∧ (octetAt t (k + 1)).toNat < 4 ∧ Staging.StreamFieldsInRange t k
  · obtain ⟨hport, hgroup, hfields⟩ := hrange
    obtain ⟨-, -, -, -, -, hcredit, -⟩ := id hfields
    rw [Staging.streamImageAt_inRange hport hgroup hfields] at hm
    cases hm
    exact hcredit
  · rw [Staging.streamImageAt_outOfRange hrange] at hm
    contradiction

theorem keeps_stageStream (i : StreamNo) (q : Request) (hs : Each R s) :
    Each R (stageStream i (streamImageAt q.payload 3) s).2 := by
  unfold stageStream
  split
  · next hm => exact keeps_modStream i hs (h.stages (initialCredit_of_streamImageAt hm))
  · exact hs

omit h in
theorem keeps_stageDevice (img : Option DeviceParams) (hs : Each R s) : Each R (stageDevice img s).2 := by
  cases img <;> exact hs

omit h in
theorem keeps_stagePort (p : PortNo) (img : Option PortRecord) (hs : Each R s) : Each R (stagePort p img s).2 := by
  cases img <;> exact hs

theorem discarded_rule {r : StreamRec} {e : Bool} (hr : R r e) : R r.discarded e :=
  h.frame (r := { r with staged := none }) rfl (h.unstages hr)

theorem keeps_discardDevice (hs : Each R s) : Each R (discardDevice s) := by
  unfold discardDevice
  dsimp only
  split
  · exact h.keeps_callPass (s := modRecord _ { s with stagedParams := none, trunkCommitPending := false }) hs
  · exact hs

theorem keeps_discard (scope : DiscardScope) (hs : Each R s) : Each R (discard scope s).2 := by
  cases scope with
  | stream i => exact h.keeps_judgeCompletion (s := discardStream i s) (keeps_modStream i hs h.discarded_rule)
  | device => exact h.keeps_judgeCompletion (h.keeps_discardDevice hs)
  | port p => exact hs
  | all =>
    exact h.keeps_judgeCompletion (h.keeps_discardDevice (s := Management.withdrawAll s)
      (keeps_mapStreams (f := StreamRec.discarded) hs h.discarded_rule))

theorem keeps_commitFree (i : StreamNo) (hs : Each R s) : Each R (commitFree i s) := by
  unfold commitFree
  split
  · next hm => exact h.keeps_applyRecord hm hs
  · exact hs

theorem keeps_commitHolder (i : StreamNo) (hs : Each R s) : Each R (commitHolder i s) :=
  h.keeps_framed (f := fun r => { r with commitPending := true }) i hs

omit h in
theorem keeps_commitDevice (quiet : Bool) (hs : Each R s) : Each R (commitDevice quiet s) := by
  unfold commitDevice
  split
  · exact hs
  · split <;> exact hs

theorem keeps_commitClaims (free holders : List StreamNo) (deviceApplied : Bool) (hs : Each R s) :
    Each R (commitClaims free holders deviceApplied s) := by
  have hjudged : Each R (holders.foldl (fun s i => judgeHeld i s) s) :=
    h.keeps_view hs (foldl_keeps s (fun t i => view_judgeHeld t i) _)
  refine Arbiter.ClaimInvariant.keeps_foldl (fun _ i => h.keeps_demandChanged i) _ ?_
  split
  · exact h.keeps_callPass hjudged
  · exact hjudged

theorem keeps_takeCommit (p : PortNo) (q : Request) (scope : CommitScope) (hs : Each R s) :
    Each R (takeCommit p q scope s).2 := by
  unfold takeCommit
  split
  · exact hs
  · split
    · exact hs
    · extract_lets quiet named free holders opened t₁ t₂ t₃ t₄ t₅ deviceApplied
      have hports : Each R t₂ := by
        simp only [t₂]
        split <;> exact hs
      have hfree : Each R t₃ := Arbiter.ClaimInvariant.keeps_foldl (fun _ i => h.keeps_commitFree i) _ hports
      have hholders : Each R t₄ := Arbiter.ClaimInvariant.keeps_foldl (fun _ i => h.keeps_commitHolder i) _ hfree
      have hdevice : Each R t₅ := by
        simp only [t₅]
        split
        · exact keeps_commitDevice quiet hholders
        · exact hholders
      split
      · split
        · exact h.keeps_commitClaims (s := { t₅ with record := none }) _ _ _ hdevice
        · exact h.keeps_commitClaims _ _ _ hdevice
      · exact hdevice

omit h in
/-- A stream as the first steps of a RESTART leave it, before the commit unit's (R155). -/
theorem stream_restartStreams (s : State) (i : StreamNo) :
    (restartStreams (restartQueues (restartArbiter (dropLanes s)))).stream i =
      restartPacing (restartLife { s.stream i with heldLane := none, keptTime := none, queue := [] }) := by
  simp only [restartStreams, restartQueues, restartArbiter, dropLanes, State.stream, Table.read_mapAll]

theorem restartImage_rule {r : StreamRec} {e : Bool} (now : PaceCount) (interval : Nat) (hr : R r e) :
    R (restartImage now interval r) e := by
  unfold restartImage
  split
  · next hm => exact h.applies _ _ hm hr
  · exact hr

theorem keeps_restartCommit (hs : Each R s) : Each R (restartCommit s) := by
  have himages : Each R (Management.restartImages s) :=
    keeps_mapStreams hs (h.restartImage_rule s.paceCount s.params.settleInterval)
  have hdevice : Each R (Management.restartDevice (Management.restartImages s)) := by
    unfold Management.restartDevice
    split <;> exact himages
  rw [Management.restartCommit_eq]
  split
  · exact h.keeps_view hdevice (view_takeCommitAnswer _)
  · exact hdevice

theorem keeps_deviceRestart (hs : Each R s) : Each R (deviceRestart s) := by
  have hstreams : Each R (restartStreams (restartQueues (restartArbiter (dropLanes s)))) := fun i => by
    rw [stream_restartStreams]
    exact h.restarts (hs i)
  have hnotices : Each R (restartNotices (restartCommit (restartStreams (restartQueues (restartArbiter (dropLanes s)))))) :=
    h.keeps_view (h.keeps_restartCommit hstreams)
      (view_mapStreams (f := fun r => { r with notices := Table.const 6 none }) _ fun _ => rfl)
  unfold deviceRestart restartRecoveries
  split <;> exact hnotices

/-! #### Expiries and the commands -/

theorem keeps_answerExpiry (l : LaneNo) (hs : Each R s) : Each R (answerExpiry l s) := by
  unfold answerExpiry
  split
  · exact h.keeps_answerTimeout l hs
  · exact hs

theorem keeps_holdExpiry (l : LaneNo) (hs : Each R s) : Each R (holdExpiry l s) := by
  unfold holdExpiry
  split
  · exact h.keeps_startRelease l hs
  · exact hs

theorem keeps_settleExpiry (i : StreamNo) (hs : Each R s) : Each R (settleExpiry i s) := by
  unfold settleExpiry
  split
  · exact h.keeps_notify _ i (h.keeps_framed i hs)
  · exact hs

theorem keeps_commitExpiry (hs : Each R s) : Each R (commitExpiry s) := by
  unfold commitExpiry
  split
  · split
    · exact h.keeps_raise _ (h.keeps_view hs (view_takeCommitAnswer _))
    · exact hs
  · exact hs

theorem keeps_budgetAgeOut (hs : Each R s) : Each R (budgetAgeOut s) := by
  unfold budgetAgeOut
  split
  · split
    · exact h.keeps_pass (s := { s with budget := _ }) hs
    · exact hs
  · exact hs

theorem keeps_spacingExpiry (hs : Each R s) : Each R (spacingExpiry s) := by
  unfold spacingExpiry
  split
  · exact h.keeps_pass (s := { s with spacing := none }) hs
  · exact hs

theorem keeps_imageApplication (i : StreamNo) (hs : Each R s) : Each R (imageApplication i s) := by
  unfold imageApplication
  dsimp only
  split
  · exact h.keeps_demandChanged i (h.keeps_commitLoss i hs)
  · exact hs

omit h in
theorem keeps_atStroke {f : State → State} {t : State} (hf : ∀ {u}, Each R u → Each R (f u)) :
    atStroke f s = .next t → Each R s → Each R t := Arbiter.StepInvariant.keeps_atStroke hf

theorem keeps_running {f : State → State} {t : State} (hf : ∀ {u}, Each R u → Each R (f u)) :
    running f s = .next t → Each R s → Each R t := keeps_atStroke fun hu => hf (h.keeps_countFirst hu)

theorem keeps_running_serve {row : Request → Bool} {body : Body} {t : State}
    (hbody : ∀ p q, Arbiter.KeepsAction (Each R) (body p q)) : running (serve row body) s = .next t → Each R s → Each R t :=
  h.keeps_running (h.keeps_serve row hbody)

/-- A management command on a target. -/
theorem keeps_running_target {α : Type} {row : Request → Bool} {target : Request → Option α}
    {f : Request → α → State → Status × State} {t : State} (hf : ∀ q x s, Each R s → Each R (f q x s).2) :
    running (serve row fun _ q => withTarget (target q) fun x => answering (f q x)) s = .next t → Each R s → Each R t :=
  h.keeps_running_serve fun _ q => Arbiter.keepsAction_withTarget fun x => Arbiter.keepsAction_answering (hf q x)

/-- A management command on a target, with a selector. -/
theorem keeps_running_selected {α : Type} {row : Request → Bool} {target : Request → Option α} {selector : Nat}
    {f : Request → α → State → Status × State} {t : State} (hf : ∀ q x s, Each R s → Each R (f q x s).2) :
    running (serve row fun _ q => withTarget (target q) fun x => withSelector q selector (answering (f q x))) s
      = .next t → Each R s → Each R t :=
  h.keeps_running_serve fun _ q => Arbiter.keepsAction_withTarget fun x =>
    Arbiter.keepsAction_withSelector (Arbiter.keepsAction_answering (hf q x))

theorem keepsAction_bodyDiscard (p : PortNo) (q : Request) : Arbiter.KeepsAction (Each R) (bodyDiscard p q) := by
  unfold bodyDiscard
  split
  · exact Arbiter.keepsAction_answering fun _ => h.keeps_discard _
  · exact Arbiter.keepsAction_error _

theorem keepsAction_bodyCommit (p : PortNo) (q : Request) : Arbiter.KeepsAction (Each R) (bodyCommit p q) := by
  unfold bodyCommit
  split
  · exact Arbiter.keepsAction_ok fun _ => h.keeps_takeCommit p q _
  · exact Arbiter.keepsAction_error _

omit h in
theorem each_powerOnState (hR : R .reset false) (pin : Bool) (s : State) : Each R (powerOnState pin s) := fun i => by
  rw [show (powerOnState pin s).stream i = StreamRec.reset from Table.read_const _ _]
  exact hR

/-- Every command keeps the predicate of every stream. -/
theorem keeps_exec (c : Instr) {t : State} : exec c s = .next t → Each R s → Each R t := by
  cases c with
  | powerOnReset => rintro ⟨⟩ _; exact each_powerOnState h.reset false s
  | resetPinAsserted => rintro ⟨⟩ _; exact each_powerOnState h.reset true s
  | stroke => exact keeps_atStroke h.keeps_stroke
  | answerDeadlineExpiry l => exact keeps_atStroke (h.keeps_answerExpiry l)
  | holdDeadlineExpiry l => exact keeps_atStroke (h.keeps_holdExpiry l)
  | settleDeadlineExpiry i => exact keeps_atStroke (h.keeps_settleExpiry i)
  | commitDeadlineExpiry => exact keeps_atStroke h.keeps_commitExpiry
  | budgetEntryAgeOut => exact keeps_atStroke h.keeps_budgetAgeOut
  | spacingExpiry => exact keeps_atStroke h.keeps_spacingExpiry
  | arbiterPass => exact h.keeps_running h.keeps_pass
  | laneSlot l => exact h.keeps_running (h.keeps_laneSlot l)
  | drainCompletion i => exact h.keeps_running (h.keeps_judgeDrain i)
  | edgeSlot p => exact h.keeps_running (keeps_edgeSlot p)
  | edgeLinkUp p => exact h.keeps_running (keeps_edgeLinkUp p)
  | edgeLinkDown p => exact h.keeps_running (h.keeps_edgeLinkDown p)
  | laneAligned l => exact h.keeps_running (keeps_alignLane l)
  | laneAlignmentLost l => exact h.keeps_running (h.keeps_loseAlignment l)
  | trafficCellArrival p c => exact h.keeps_running (h.keeps_trafficCell p c)
  | requestCellArrival p q => exact h.keeps_running (keeps_onEdgeCell p (h.keeps_requestArrival p q))
  | edgeFillCell p => exact h.keeps_running (keeps_onEdgeCell p id)
  | edgeBadKindCell p kind => exact h.keeps_running (keeps_onEdgeCell p (h.keeps_badKind p))
  | edgeBadCheckCell p => exact h.keeps_running (h.keeps_failedEdgeCell p)
  | bindAckAccept l tag =>
    exact h.keeps_running (keeps_onTrunkCell l (h.keeps_takeAnswer .bind l tag (h.keeps_bindAcceptMatched l)))
  | bindAckRefuse l tag =>
    exact h.keeps_running (keeps_onTrunkCell l (h.keeps_takeAnswer .bind l tag (h.keeps_bindRefuseMatched l)))
  | bindAckUnknownCode l tag code => exact h.keeps_running (keeps_onTrunkCell l (h.keeps_takeUnknownAnswer l tag))
  | releaseAck l tag =>
    exact h.keeps_running (keeps_onTrunkCell l (h.keeps_takeAnswer .release l tag (h.keeps_releaseAckMatched l)))
  | resetAck l tag =>
    exact h.keeps_running (keeps_onTrunkCell l (h.keeps_takeAnswer .laneReset l tag (h.keeps_resetAckMatched l)))
  | pause l tag => exact h.keeps_running (keeps_onTrunkCell l (h.keeps_takePause true l tag))
  | resume l tag => exact h.keeps_running (keeps_onTrunkCell l (h.keeps_takePause false l tag))
  | trunkOtherKindCell l kind => exact h.keeps_running (keeps_onTrunkCell l (h.keeps_raise _))
  | trunkFillCell l => exact h.keeps_running (keeps_onTrunkCell l id)
  | trunkBadCheckCell l => exact h.keeps_running (h.keeps_failedTrunkCell l)
  | disablePendingApplied l => exact h.keeps_running (h.keeps_applyPendingDisable l)
  | streamImageApplication i => exact h.keeps_running (h.keeps_imageApplication i)
  | deviceApplication => exact h.keeps_running h.keeps_judgeDevicePart
  | commitResponse => exact h.keeps_running fun hu => h.keeps_view hu (view_takeCommitAnswer _)
  | readDevice => exact h.keeps_running_serve fun _ _ => Arbiter.keepsAction_withPart _
  | readPort =>
    exact h.keeps_running_serve fun _ _ => Arbiter.keepsAction_withTarget fun _ => Arbiter.keepsAction_withPart _
  | readLane =>
    exact h.keeps_running_serve fun _ _ => Arbiter.keepsAction_withTarget fun _ => Arbiter.keepsAction_withPart _
  | readStream =>
    exact h.keeps_running_serve fun _ _ => Arbiter.keepsAction_withTarget fun _ => Arbiter.keepsAction_withPart _
  | readNotices =>
    exact h.keeps_running_serve fun _ _ => Arbiter.keepsAction_withTarget fun _ => Arbiter.keepsAction_reading _
  | stageDevice => exact h.keeps_running_serve fun _ _ => Arbiter.keepsAction_answering fun _ => keeps_stageDevice _
  | stagePort => exact h.keeps_running_target fun _ p _ => keeps_stagePort p _
  | stageStream => exact h.keeps_running_target fun q i _ => h.keeps_stageStream i q
  | discard => exact h.keeps_running_serve h.keepsAction_bodyDiscard
  | commit => exact h.keeps_running_serve h.keepsAction_bodyCommit
  | openStream => exact h.keeps_running_target fun _ i _ => h.keeps_openStream i
  | closeStream => exact h.keeps_running_selected fun _ i _ => h.keeps_closePlain i
  | closeStreamDiscard => exact h.keeps_running_selected fun _ i _ => h.keeps_discardClose i
  | clearHold => exact h.keeps_running_target fun _ i _ => h.keeps_clearHold i
  | timerControlRun =>
    exact h.keeps_running_selected fun _ i _ hs => h.keeps_timerControl i hs (h.times .running)
  | timerControlStop =>
    exact h.keeps_running_selected fun _ i _ hs => h.keeps_timerControl i hs h.timerStop_rule
  | timerControlPreset => exact h.keeps_running_selected fun _ i _ => h.keeps_presetTimer _ i
  | ackNotice => exact h.keeps_running_target fun _ n s hs => h.keeps_view hs (view_ackNotice s n _)
  | laneControlEnable => exact h.keeps_running_selected fun _ l _ => keeps_laneEnable l
  | laneControlDisable => exact h.keeps_running_selected fun _ l _ => h.keeps_disableLane l
  | laneControlRetire => exact h.keeps_running_selected fun _ l _ => h.keeps_laneRetire l
  | laneControlRecover => exact h.keeps_running_selected fun _ l _ => keeps_laneRecover l
  | restart =>
    exact h.keeps_running_serve fun _ _ => Arbiter.keepsAction_ok fun _ => h.keeps_duringLaunches _ h.keeps_deviceRestart
  | unknownCommandCode => exact h.keeps_running_serve fun _ _ => Arbiter.keepsAction_error _

/-- Every step keeps the predicate of every stream. -/
theorem keeps_step {t : State} (hstep : step s = .next t) (hs : Each R s) : Each R t := by
  unfold step at hstep
  split at hstep
  · cases hstep; exact hs
  · exact h.keeps_exec (s := { s with pending := _ }) _ hstep hs

end StreamRules

/-! ### The bounds of pacing (R23) and the rules of the life states (R5) -/

/-- What R5 says of one stream and of whether it has a request entry. -/
def Lawful (r : StreamRec) (e : Bool) : Prop :=
  (r.life = .closed → r.heldLane = none ∧ r.queue = [] ∧ r.credit = 0 ∧ r.timer = .stopped ∧ e = false)
    ∧ (r.life = .held → r.heldLane = none ∧ e = false)
    ∧ (r.life = .draining .discard → r.queue = [] ∧ e = false)
    ∧ (e = true → r.heldLane = none)

theorem lifeInv_iff (s : State) : LifeInv s ↔ Each Lawful s := Iff.rfl

theorem pacingInv_iff (s : State) : PacingInv s ↔ Each (fun r _ => r.paced) s := Iff.rfl

theorem paced_counted {r : StreamRec} (h : r.paced) : r.struck.paced := by
  obtain ⟨hcredit, hcount, hinitial, hstaged⟩ := id h
  rw [Pacing.struck_eq]
  split
  · exact h
  · refine ⟨?_, ?_, hinitial, hstaged⟩ <;> dsimp only <;> split <;> omega

theorem paced_applied {r : StreamRec} {m : StreamImage} (now : PaceCount) (interval : Nat) (hm : r.staged = some m)
    (h : r.paced) : (r.applyImage now interval m).paced := by
  obtain ⟨-, hcount, -, hstaged⟩ := h
  refine ⟨Nat.min_le_right _ _, ?_, hstaged m hm, nofun⟩
  simp only [StreamRec.applyImage]
  split
  · next heq => rw [heq]; exact hcount
  · exact le_rfl

theorem paced_restarted {r : StreamRec} (h : r.paced) :
    (restartPacing (restartLife { r with heldLane := none, keptTime := none, queue := [] })).paced := by
  obtain ⟨-, -, hinitial, hstaged⟩ := h
  unfold restartLife
  split <;> exact ⟨Nat.zero_le _, le_rfl, hinitial, hstaged⟩

theorem paced_streamRules : StreamRules fun r _ => r.paced where
  frame {r r' _} hf hr := by
    have hconfig : r'.config = r.config := congrArg Facet.config hf
    have hstaged : r'.staged = r.staged := congrArg Facet.staged hf
    have hcount : r'.count = r.count := congrArg Facet.count hf
    have hcredit : r'.credit = r.credit := congrArg Facet.credit hf
    unfold StreamRec.paced
    rw [hconfig, hstaged, hcount, hcredit]
    exact hr
  leaves hr := hr
  joins _ hr := hr
  binds _ _ hr := hr
  loses hr := hr
  counts := paced_counted
  spends hr := ⟨(Nat.sub_le _ _).trans hr.1, hr.2⟩
  gains _ _ hr := hr
  sends _ hr := hr
  flushes hr := hr
  times _ _ hr := hr
  presets {r _} clear hr := by
    obtain ⟨hcredit, -, hrest⟩ := hr
    refine ⟨?_, le_rfl, hrest⟩
    cases clear with
    | true => exact Nat.zero_le _
    | false => exact hcredit
  opens _ hr := hr
  begins _ hr := ⟨hr.2.2.1, le_rfl, hr.2.2⟩
  drains _ hr := hr
  discards _ hr := hr
  holds _ hr := hr
  closes _ hr := ⟨Nat.zero_le _, hr.2⟩
  stages hm hr := ⟨hr.1, hr.2.1, hr.2.2.1, fun _ h => Option.some.inj h ▸ hm⟩
  unstages hr := ⟨hr.1, hr.2.1, hr.2.2.1, nofun⟩
  applies := paced_applied
  restarts := paced_restarted
  reset := ⟨le_rfl, le_rfl, le_rfl, nofun⟩

/-- A stream whose life state R5 says nothing of. -/
theorem lawful_of_opened {r : StreamRec} {e : Bool} (hlife : r.life = .opened ∨ r.life = .draining .plain)
    (he : e = true → r.heldLane = none) : Lawful r e := by
  obtain h | h := hlife <;> exact ⟨by simp [h], by simp [h], by simp [h], he⟩

/-- A stream that wants a lane is OPEN or drains PLAIN, since one that drains with discard has an empty queue (R5). -/
theorem opened_of_wantsLane {r : StreamRec} {e : Bool} {now : PaceCount} (hw : r.wantsLane now = true)
    (h : Lawful r e) : r.life = .opened ∨ r.life = .draining .plain := by
  obtain ⟨-, -, hdiscard, -⟩ := h
  obtain ⟨hopen | ⟨kind, hkind⟩, -, -, hqueue, -⟩ := (Pacing.wantsLane_iff now r).1 hw
  · exact .inl hopen
  · cases kind with
    | plain => exact .inr hkind
    | discard => exact absurd (hdiscard hkind).1 hqueue

theorem opened_of_admits {r : StreamRec} (h : r.admits = true) : r.life = .opened ∨ r.life = .held := by
  unfold StreamRec.admits at h
  split at h <;> simp_all

/-- A pacing change keeps what R5 says, if it leaves a CLOSED stream without credit and its timer STOPPED. -/
theorem lawful_paced {r r' : StreamRec} {e : Bool} (hlife : r'.life = r.life) (hlane : r'.heldLane = r.heldLane)
    (hqueue : r'.queue = r.queue)
    (hclosed : r.life = .closed → r.credit = 0 → r.timer = .stopped → r'.credit = 0 ∧ r'.timer = .stopped)
    (h : Lawful r e) : Lawful r' e := by
  unfold Lawful at h ⊢
  rw [hlife, hlane, hqueue]
  obtain ⟨hc, hrest⟩ := h
  refine ⟨fun hl => ?_, hrest⟩
  obtain ⟨hnone, hempty, hcredit, htimer, he⟩ := hc hl
  obtain ⟨hcredit', htimer'⟩ := hclosed hl hcredit htimer
  exact ⟨hnone, hempty, hcredit', htimer', he⟩

theorem lawful_restarted (r : StreamRec) (e : Bool) (h : Lawful r e) :
    Lawful (restartPacing (restartLife { r with heldLane := none, keptTime := none, queue := [] })) false := by
  obtain ⟨hclosed, -⟩ := h
  unfold restartLife
  split
  · exact ⟨fun _ => ⟨rfl, rfl, rfl, rfl, rfl⟩, nofun, nofun, nofun⟩
  · next hl =>
    obtain ⟨-, -, -, htimer, -⟩ := hclosed hl
    exact ⟨fun _ => ⟨rfl, rfl, rfl, by simp [restartPacing, htimer], rfl⟩, fun _ => ⟨rfl, rfl⟩, fun _ => ⟨rfl, rfl⟩, nofun⟩
  · next hl => exact lawful_of_opened (.inl hl) nofun
  · next hl =>
    have hlife : (restartPacing { r with heldLane := none, keptTime := none, queue := [] }).life = .held := hl
    exact ⟨by simp [hlife], fun _ => ⟨rfl, rfl⟩, fun _ => ⟨rfl, rfl⟩, nofun⟩

theorem lawful_streamRules : StreamRules Lawful where
  frame {r r' e} hf hr := by
    have hlife : r'.life = r.life := congrArg Facet.life hf
    have hcredit : r'.credit = r.credit := congrArg Facet.credit hf
    have htimer : r'.timer = r.timer := congrArg Facet.timer hf
    exact lawful_paced hlife (congrArg Facet.heldLane hf) (congrArg Facet.queue hf)
      (fun _ hc ht => ⟨hcredit.trans hc, htimer.trans ht⟩) hr
  leaves hr := by
    obtain ⟨hclosed, hheld, hdiscard, -⟩ := hr
    refine ⟨fun hl => ?_, fun hl => ⟨(hheld hl).1, rfl⟩, fun hl => ⟨(hdiscard hl).1, rfl⟩, nofun⟩
    obtain ⟨hnone, hempty, hcredit, htimer, -⟩ := hclosed hl
    exact ⟨hnone, hempty, hcredit, htimer, rfl⟩
  joins hw hr := lawful_of_opened (opened_of_wantsLane hw hr) fun _ => Lanes.heldLane_of_wantsLane hw
  binds _ hw hr := by
    have hopened := opened_of_wantsLane hw hr
    exact lawful_of_opened hopened nofun
  loses hr := ⟨fun hl => ⟨rfl, (hr.1 hl).2⟩, fun hl => ⟨rfl, (hr.2.1 hl).2⟩, hr.2.2.1, fun _ => rfl⟩
  counts {r e} := by
    rw [Pacing.struck_eq]
    split
    · exact id
    · next hrun => exact lawful_paced rfl rfl rfl fun _ _ ht => absurd ht hrun
  spends := lawful_paced rfl rfl rfl fun _ hc ht => ⟨by rw [hc], ht⟩
  gains _ ha hr := by
    obtain hl | hl := opened_of_admits ha
    · exact lawful_of_opened (.inl hl) hr.2.2.2
    · exact ⟨by simp [hl], fun _ => hr.2.1 hl, by simp [hl], hr.2.2.2⟩
  sends {r e c rest} hq hr := by
    obtain ⟨hclosed, hheld, hdiscard, hentry⟩ := hr
    refine ⟨fun hl => ?_, hheld, fun hl => ?_, hentry⟩
    · exact absurd (hclosed hl).2.1 (by simp [hq])
    · exact absurd (hdiscard hl).1 (by simp [hq])
  flushes hr := by
    obtain ⟨hclosed, hheld, hdiscard, hentry⟩ := hr
    refine ⟨fun hl => ?_, hheld, fun hl => ⟨rfl, (hdiscard hl).2⟩, hentry⟩
    obtain ⟨hnone, -, hrest⟩ := hclosed hl
    exact ⟨hnone, rfl, hrest⟩
  times _ hl := lawful_paced rfl rfl rfl fun hc => absurd hc hl
  presets clear := lawful_paced rfl rfl rfl fun _ hc ht => ⟨by simp [timerPreset, hc], ht⟩
  opens _ hr := lawful_of_opened (.inl rfl) hr.2.2.2
  begins hl := lawful_paced rfl rfl rfl fun hc => absurd hc hl
  drains _ hr := lawful_of_opened (.inr rfl) hr.2.2.2
  discards _ _ := ⟨nofun, nofun, fun _ => ⟨rfl, rfl⟩, nofun⟩
  holds hn _ := ⟨nofun, fun _ => ⟨hn, rfl⟩, nofun, nofun⟩
  closes hn hr := ⟨fun _ => ⟨hn.elim id fun hl => (hr.2.1 hl).1, rfl, rfl, rfl, rfl⟩, nofun, nofun, nofun⟩
  stages _ := lawful_paced rfl rfl rfl fun _ hc ht => ⟨hc, ht⟩
  unstages := lawful_paced rfl rfl rfl fun _ hc ht => ⟨hc, ht⟩
  applies _ _ _ := lawful_paced rfl rfl rfl fun _ hc ht => ⟨by simp [StreamRec.applyImage, hc], ht⟩
  restarts := lawful_restarted _ _
  reset := ⟨fun _ => ⟨rfl, rfl, rfl, rfl, rfl⟩, nofun, nofun, nofun⟩

/-- Settles O57: both invariants are of the form "of every stream", and every change of a stream respects them. -/
theorem stepKeepsStreams : Obligations.StepKeepsStreams :=
  ⟨fun _ _ => paced_streamRules.keeps_step, fun _ _ => lawful_streamRules.keeps_step⟩

end Sys2Proof.Proofs.Lives

namespace Sys2Proof.Proofs.Reset

open Sys2Proof Sys2Proof.Machine

/-! The power-on reset state: the values that the manual gives for it, and the invariants in it. -/

theorem stream_reset (i : StreamNo) : State.reset.stream i = .reset := Table.read_const _ _

theorem lane_reset (l : LaneNo) : State.reset.lane l = LaneRec.reset (resetGroupMap.read l) :=
  Table.read_mapAll _ _ _

/-- Port 0 comes up with the management level full, every other port with none (R116). -/
theorem port_reset (p : PortNo) : State.reset.port p = PortRec.reset (if p = 0 then .full else .none) := by
  fin_cases p <;> rfl

/-- Lane n comes up in group n div 4 (R59). -/
theorem resetGroupMap_val (l : LaneNo) : (resetGroupMap.read l).val = l.val / 4 := by
  fin_cases l <;> rfl

/-- Every notice set is empty (R131). -/
theorem entry_reset (pt : CausePoint) : State.reset.entry pt = none := by
  cases pt with
  | device cause => exact Table.read_const _ _
  | port p cause => simp [State.entry, port_reset, PortRec.reset]
  | lane l cause => simp [State.entry, lane_reset, LaneRec.reset]
  | stream i cause => simp [State.entry, stream_reset, StreamRec.reset]

/-- Settles O4: the tables by what is read of a constant or a mapped table, the rest as `State.reset` writes it. -/
theorem resetValues : Obligations.ResetValues := by
  refine ⟨rfl, rfl, rfl, rfl, rfl, rfl, rfl, rfl, rfl, rfl, rfl, rfl, rfl, rfl, rfl, rfl, rfl,
    fun g => ⟨Table.read_const _ _, Table.read_const _ _⟩, entry_reset, rfl, rfl, rfl, rfl, rfl, rfl, rfl, rfl, rfl,
    resetGroupMap_val, rfl, rfl, rfl, stream_reset, ⟨rfl, rfl, rfl, rfl, rfl, rfl, rfl, rfl, rfl, rfl, rfl⟩,
    rfl, rfl, rfl, rfl, rfl, rfl, rfl, rfl, rfl, rfl, rfl, rfl, rfl, rfl, rfl, rfl, rfl, rfl,
    fun l => ?lanes, fun p => ?ports⟩
  case lanes =>
    rw [lane_reset]
    exact ⟨rfl, rfl, rfl, rfl, rfl, rfl, rfl, rfl, resetGroupMap_val l, rfl, rfl, rfl, rfl, rfl, rfl, rfl, rfl, rfl⟩
  case ports =>
    rw [port_reset]
    exact ⟨rfl, rfl, rfl, rfl, rfl, rfl, rfl, rfl, rfl, rfl, rfl, rfl, rfl, rfl, rfl⟩

/-- Settles O55: the pacing and life rules of a stream hold of `StreamRec.reset`, and each of the other invariants is
among those that the power-on commands establish. -/
theorem invariantsAtReset : Obligations.InvariantsAtReset := by
  have hlanes := (Lanes.lanesInv_iff _).2 (Lanes.lanesInv_powerOnState false State.reset)
  exact ⟨Pool.poolInv_powerOnState false State.reset,
    (Lives.pacingInv_iff _).2 (Lives.StreamRules.each_powerOnState Lives.paced_streamRules.reset false State.reset),
    (Lives.lifeInv_iff _).2 (Lives.StreamRules.each_powerOnState Lives.lawful_streamRules.reset false State.reset),
    Management.queueInv_agentInvariant.reset false State.reset,
    Management.commitInv_agentInvariant.reset false State.reset,
    Management.reportInv_agentInvariant.reset false State.reset,
    Arbiter.budgetInv_stepInvariant.reset false State.reset,
    Arbiter.listInv_stepInvariant.reset false State.reset, hlanes⟩

end Sys2Proof.Proofs.Reset

/-! The entry into CLOSED and the closes of a stream: what the notifications along the way come to, once the last one
has been taken. -/

namespace Sys2Proof.Proofs.Closing

open Sys2Proof Sys2Proof.Machine

/-! ### The removal of an entry among other changes -/

section commutes
variable {s : State} {i : StreamNo}

theorem removeEntry_modStream (s : State) (i j : StreamNo) (f : StreamRec → StreamRec) :
    removeEntry i (s.modStream j f) = (removeEntry i s).modStream j f := by
  simp only [removeEntry, modStream_requests, Arbiter.indicateNotWaiting_eq]
  split <;> rfl

theorem removeEntry_modLane (s : State) (i : StreamNo) (l : LaneNo) (f : LaneRec → LaneRec) :
    removeEntry i (s.modLane l f) = (removeEntry i s).modLane l f := by
  simp only [removeEntry, modLane_requests, Arbiter.indicateNotWaiting_eq]
  split <;> rfl

theorem removeEntry_freeBuffers (s : State) (i : StreamNo) (n : Nat) :
    removeEntry i { s with freeBuffers := n } = { removeEntry i s with freeBuffers := n } := by
  simp only [removeEntry, Arbiter.indicateNotWaiting_eq]
  split <;> rfl

@[simp] theorem removeEntry_removeEntry (s : State) (i : StreamNo) :
    removeEntry i (removeEntry i s) = removeEntry i s :=
  Arbiter.removeEntry_absent (by simp [Lives.hasEntry_removeEntry])

@[simp] theorem stream_removeEntry (s : State) (i j : StreamNo) : (removeEntry i s).stream j = s.stream j := by
  rw [State.stream, Holding.removeEntry_streams, State.stream]

@[simp] theorem lane_removeEntry (s : State) (i : StreamNo) (l : LaneNo) : (removeEntry i s).lane l = s.lane l := by
  rw [State.lane, Holding.removeEntry_lanes, State.lane]

@[simp] theorem freeBuffers_removeEntry (s : State) (i : StreamNo) :
    (removeEntry i s).freeBuffers = s.freeBuffers := by
  simp only [removeEntry, Arbiter.indicateNotWaiting_eq]
  split <;> rfl

end commutes

/-! ### A stream without a lane -/

/-- The kept request time is forgotten (R42). -/
def forgotten (r : StreamRec) : StreamRec := { r with keptTime := none }

/-- A stream as a notification leaves it that finds it without a lane and wanting none: without an entry and without a
kept request time (R41, R42). -/
def settled (i : StreamNo) (s : State) : State := removeEntry i (s.modStream i forgotten)

/-- A stream's queue is given back to the pool (R107), its lane and its entry aside. -/
def returned (i : StreamNo) (s : State) : State :=
  { s with freeBuffers := s.freeBuffers + (s.stream i).queue.length }.modStream i Lives.flushed

section free
variable {s : State} {i : StreamNo}

@[simp] theorem stream_settled (i : StreamNo) (s : State) : (settled i s).stream i = forgotten (s.stream i) := by
  simp [settled]

@[simp] theorem stream_returned (i : StreamNo) (s : State) :
    (returned i s).stream i = Lives.flushed (s.stream i) := stream_modStream_same _ _ _

@[simp] theorem settled_settled (i : StreamNo) (s : State) : settled i (settled i s) = settled i s := by
  rw [settled, settled, ← removeEntry_modStream, removeEntry_removeEntry, modStream_modStream]
  rfl

@[simp] theorem settled_removeEntry (i : StreamNo) (s : State) : settled i (removeEntry i s) = settled i s := by
  rw [settled, ← removeEntry_modStream, removeEntry_removeEntry, settled]

theorem settled_modStream {f : StreamRec → StreamRec} (hf : ∀ r, f (forgotten r) = forgotten (f r)) (s : State) :
    settled i (s.modStream i f) = (settled i s).modStream i f := by
  rw [settled, settled, ← removeEntry_modStream, modStream_modStream, modStream_modStream]
  exact congrArg (fun g => removeEntry i (s.modStream i g)) (funext fun r => (hf r).symm)

theorem settled_returned (i : StreamNo) (s : State) : settled i (returned i s) = returned i (settled i s) := by
  have hlength : ((settled i s).stream i).queue.length = (s.stream i).queue.length := by simp [forgotten]
  have hfree : (settled i s).freeBuffers = s.freeBuffers := freeBuffers_removeEntry _ i
  rw [returned, settled_modStream (f := Lives.flushed) fun _ => rfl, returned, hlength, hfree]
  exact congrArg (fun t : State => t.modStream i Lives.flushed) (removeEntry_freeBuffers (s.modStream i forgotten) i _)

theorem returned_modStream {f : StreamRec → StreamRec} (hq : ∀ r, (f r).queue = r.queue)
    (hf : ∀ r, Lives.flushed (f r) = f (Lives.flushed r)) :
    returned i (s.modStream i f) = (returned i s).modStream i f := by
  have hlength : ((s.modStream i f).stream i).queue.length = (s.stream i).queue.length := by
    rw [stream_modStream_same, hq]
  have hgiven : returned i (s.modStream i f) =
      ({ s with freeBuffers := s.freeBuffers + (s.stream i).queue.length }.modStream i f).modStream i
        Lives.flushed := by
    rw [returned, hlength]
    rfl
  rw [hgiven, modStream_modStream, returned, modStream_modStream]
  simp only [hf]

theorem returned_empty (h : (s.stream i).queue.length = 0) : returned i s = s := by
  rw [returned, h, Nat.add_zero]
  exact Pacing.modStream_unchanged (by simp only [Lives.flushed, ← List.eq_nil_of_length_eq_zero h])

theorem returned_returned (i : StreamNo) (s : State) : returned i (returned i s) = returned i s :=
  returned_empty (by rw [stream_returned]; rfl)

theorem hasEntry_settled (i : StreamNo) (s : State) : (settled i s).hasEntry i = false := by
  simp [settled, Lives.hasEntry_removeEntry]

theorem sansBinding_settled (i : StreamNo) (s : State) : (settled i s).sansBinding = s.sansBinding :=
  (removeEntry_sansBinding _ i).trans (sansBinding_modStream s i fun _ => rfl)

/-- A notification of a stream that holds no lane and wants none settles it. -/
theorem demandChanged_settled (hn : (s.stream i).heldLane = none)
    (hw : (s.stream i).wantsLane s.paceCount = false) : demandChanged i s = settled i s := by
  have hnotify : notify .demandChange i s = settled i s := by
    rw [Lives.notify_quiet _ hw, settled]
    exact congrArg _ (Pacing.modStream_congr (if_pos (.inr ⟨hn, .inr hw⟩)))
  simp [demandChanged, hnotify, judgeHeld, forgotten, hn]

/-- Once settled, a flush has given the queue back, whether or not it was empty. -/
theorem settled_flush (hn : (s.stream i).heldLane = none) : settled i (flush i s) = settled i (returned i s) := by
  unfold flush
  dsimp only
  split
  · next h => rw [returned_empty h]
  · have hstream := stream_returned i s
    exact (congrArg (settled i) (demandChanged_settled (s := returned i s) (by rw [hstream]; exact hn)
      (Lives.wantsLane_of_empty (by rw [hstream]; rfl)))).trans (settled_settled i _)

/-- What a state is once settled tells the stream but for its kept request time. -/
theorem field_of_settled {β : Type} {t : State} (g : StreamRec → β) (hg : ∀ r, g (forgotten r) = g r)
    (h : settled i t = settled i s) : g (t.stream i) = g (s.stream i) := by
  rw [← hg, ← stream_settled, h, stream_settled, hg]

/-- Once settled, a change of the pacing of a stream that may hold no lane is that change alone. -/
theorem settled_changePacing {f : StreamRec → StreamRec} (hn : (f (s.stream i)).heldLane = none)
    (hm : (f (s.stream i)).mayHold = false) : settled i (changePacing i f s) = settled i (s.modStream i f) := by
  unfold changePacing
  dsimp only
  split
  · rw [demandChanged_settled (by rwa [stream_modStream_same])
      (Lives.wantsLane_of_idle (by rwa [stream_modStream_same])), settled_settled]
  · rfl

/-- A stream as it enters CLOSED (R9): its queue given back, closed and settled. -/
theorem enterClosed_eq (hn : (s.stream i).heldLane = none) :
    enterClosed i s = settled i ((returned i s).modStream i Lives.closed) := by
  unfold enterClosed
  extract_lets t₁ t₂ t₃ t₄
  have h₁ : t₁.stream i = { s.stream i with life := .closed } := stream_modStream_same _ _ _
  have hpacing : settled i t₂ = settled i (t₁.modStream i closePacing) :=
    settled_changePacing (by rw [h₁]; exact hn) (Lives.mayHold_of_closed (by rw [h₁]; rfl))
  have hpaced : (t₂.stream i).heldLane = none :=
    (field_of_settled StreamRec.heldLane (fun _ => rfl) hpacing).trans (by rw [stream_modStream_same, h₁]; exact hn)
  have hclosed : settled i t₄ = settled i ((returned i s).modStream i Lives.closed) :=
    calc settled i t₄ = settled i (returned i t₂) :=
          (settled_removeEntry i t₃).trans
            (settled_flush hpaced)
      _ = settled i (returned i (t₁.modStream i closePacing)) := by
          rw [settled_returned, hpacing, ← settled_returned]
      _ = settled i ((returned i s).modStream i Lives.closed) := by
          rw [returned_modStream (f := closePacing) (fun _ => rfl) fun _ => rfl,
            returned_modStream (f := fun r => { r with life := .closed }) (fun _ => rfl) fun _ => rfl,
            modStream_modStream, returned, modStream_modStream, modStream_modStream]
          rfl
  have hheld : (t₄.stream i).heldLane = none :=
    (field_of_settled StreamRec.heldLane (fun _ => rfl) hclosed).trans
      (by simpa [Lives.closed, closePacing, Lives.flushed])
  have hlife : (t₄.stream i).life = .closed :=
    (field_of_settled StreamRec.life (fun _ => rfl) hclosed).trans (by simp [Lives.closed, closePacing])
  exact (demandChanged_settled hheld (Lives.wantsLane_of_idle (Lives.mayHold_of_closed hlife))).trans hclosed

/-- A stream enters CLOSED as its flush before found it (R9, R107). -/
theorem enterClosed_flush (hn : (s.stream i).heldLane = none) :
    enterClosed i (flush i s) = settled i ((returned i s).modStream i Lives.closed) := by
  have hflush := settled_flush hn
  have hheld : ((flush i s).stream i).heldLane = none :=
    (field_of_settled StreamRec.heldLane (fun _ => rfl) hflush).trans (by rwa [stream_returned])
  calc enterClosed i (flush i s) = settled i ((returned i (flush i s)).modStream i Lives.closed) :=
        enterClosed_eq hheld
    _ = (returned i (settled i (returned i s))).modStream i Lives.closed := by
        rw [settled_modStream (f := Lives.closed) fun _ => rfl, settled_returned, hflush]
    _ = settled i ((returned i s).modStream i Lives.closed) := by
        rw [← settled_returned, returned_returned, ← settled_modStream (f := Lives.closed) fun _ => rfl]

theorem enterClosed_removeEntry (hn : (s.stream i).heldLane = none) :
    enterClosed i (removeEntry i s) = enterClosed i s := by
  have hn' : ((removeEntry i s).stream i).heldLane = none := by rwa [stream_removeEntry]
  rw [enterClosed_eq hn, enterClosed_eq hn', settled_modStream (f := Lives.closed) fun _ => rfl, settled_returned,
    settled_removeEntry, ← settled_returned, ← settled_modStream (f := Lives.closed) fun _ => rfl]

/-- What an entry into CLOSED does, but for bindings (R9). -/
theorem sansBinding_closed (i : StreamNo) (s : State) :
    (settled i ((returned i s).modStream i Lives.closed)).sansBinding =
      ({ s with freeBuffers := s.freeBuffers + (s.stream i).queue.length }.modStream i Lives.closed).sansBinding := by
  rw [sansBinding_settled, returned, modStream_modStream]
  rfl

end free

/-! ### Drain completions (R13) -/

section drain
variable {s : State} {i : StreamNo}

theorem drainComplete_iff (r : StreamRec) :
    r.drainComplete = true ↔
      r.heldLane = none ∧ (r.life = .draining .discard ∨ (r.life = .draining .plain ∧ r.queue = [])) := by
  cases h : r.life with
  | draining kind => cases kind <;> simp [StreamRec.drainComplete, h]
  | _ => simp [StreamRec.drainComplete, h]

theorem judgeDrain_complete (h : (s.stream i).drainComplete = true) :
    judgeDrain i s = settled i ((returned i s).modStream i Lives.closed) := by
  rw [judgeDrain, if_pos h, enterClosed_eq ((drainComplete_iff _).1 h).1]

theorem judgeDrain_idle (h : ¬ (s.stream i).drainComplete = true) : judgeDrain i s = s := if_neg h

theorem exec_drainCompletion (i : StreamNo) (hpin : s.resetPin = false) (hcount : s.uncounted = false) :
    exec (.drainCompletion i) s = .next (judgeDrain i s) := running_counted hpin hcount

end drain

/-- Settles O38, by whether the drain is complete. -/
theorem drainCompletionCloses : Obligations.DrainCompletionCloses := by
  intro s i hpin hcount r complete
  rw [exec_drainCompletion i hpin hcount]
  have hcomplete := drainComplete_iff (s.stream i)
  refine ⟨fun h => ⟨_, rfl, ?_, ?_⟩, fun h => ?_⟩
  · rw [judgeDrain_complete (hcomplete.2 h), hasEntry_settled]
  · rw [judgeDrain_complete (hcomplete.2 h), sansBinding_closed]
    rfl
  · rw [judgeDrain_idle fun h' => h (hcomplete.1 h')]

/-! ### A stream with a lane -/

/-- A stream that holds a lane wants none, so that a notification removes its entry and has its lane judged. -/
theorem demandChanged_held {s : State} {i : StreamNo} {l : LaneNo} (hl : (s.stream i).heldLane = some l) :
    demandChanged i s = judgeLane l (removeEntry i s) := by
  have hw : (s.stream i).wantsLane s.paceCount = false := by simp [StreamRec.wantsLane, hl]
  have hkept : s.modStream i (settleKeptTime .demandChange s.paceCount) = s :=
    Pacing.modStream_unchanged (if_neg (by simp [hl]))
  rw [demandChanged, Lives.notify_quiet _ hw, hkept]
  simp [judgeHeld, hl]

section lane
variable {s : State} {i : StreamNo} {l : LaneNo}

/-- A judgement that ends a holding at once releases the lane (R92). -/
theorem judgeLane_endsAtOnce (hh : (s.lane l).holder = some i) (he : endsAtOnce (s.lane l) (s.stream i) = true) :
    judgeLane l s = startRelease l s := by
  by_cases hb : (s.lane l).state = .bound
  · rw [Holding.judgeLane_bound hb hh, if_pos he]
  · rw [Holding.judgeLane_idle hb, startRelease, if_neg hb]

/-- A release of a lane that has been released changes nothing more. -/
theorem startRelease_startRelease (l : LaneNo) (s : State) : startRelease l (startRelease l s) = startRelease l s := by
  by_cases hb : (s.lane l).state = .bound
  · have hreleased :
        (startRelease l s).lane l = (s.lane l).begin .release .unbinding ((s.lane l).holder.getD 0) := by
      rw [startRelease, if_pos hb, lane_modLane_same]
    exact if_neg (by rw [hreleased]; nofun)
  · rw [startRelease, startRelease, if_neg hb, if_neg hb]

/-- A release clears the hold deadline, whatever it was. -/
theorem startRelease_holdDeadline (hb : (s.lane l).state = .bound) (d : Option PaceCount) :
    startRelease l (s.modLane l fun r => { r with holdDeadline := d }) = startRelease l s := by
  rw [startRelease, startRelease, if_pos (by rwa [lane_modLane_same]), if_pos hb, modLane_modLane]
  rfl

/-- A judgement leaves the lane, releases it, or sets the hold deadline of a BOUND one (R92). -/
theorem judgeLane_cases (l : LaneNo) (s : State) :
    judgeLane l s = s ∨ judgeLane l s = startRelease l s
      ∨ (s.lane l).state = .bound ∧ ∃ d, judgeLane l s = s.modLane l fun r => { r with holdDeadline := d } := by
  by_cases hb : (s.lane l).state = .bound
  case neg => exact .inl (Holding.judgeLane_idle hb)
  cases hi : (s.lane l).holder with
  | none => exact .inl (Holding.judgeLane_vacant hi)
  | some i =>
    rw [Holding.judgeLane_bound hb hi]
    unfold holdGrace
    dsimp only
    split_ifs
    · exact .inr (.inl rfl)
    · exact .inr (.inr ⟨hb, _, rfl⟩)
    · exact .inr (.inl rfl)
    · exact .inr (.inl rfl)
    · exact .inr (.inr ⟨hb, _, rfl⟩)
    · exact .inl rfl

/-- A release leaves nothing of a judgement before it. -/
theorem startRelease_judgeLane (l : LaneNo) (s : State) : startRelease l (judgeLane l s) = startRelease l s := by
  obtain h | h | ⟨hb, d, h⟩ := judgeLane_cases l s
  · rw [h]
  · rw [h, startRelease_startRelease]
  · rw [h, startRelease_holdDeadline hb]

theorem holder_startRelease (l : LaneNo) (s : State) : ((startRelease l s).lane l).holder = (s.lane l).holder := by
  unfold startRelease
  split
  · rw [lane_modLane_same]
    rfl
  · rfl

@[simp] theorem holder_judgeLane (l : LaneNo) (s : State) :
    ((judgeLane l s).lane l).holder = (s.lane l).holder := by
  obtain h | h | ⟨-, d, h⟩ := judgeLane_cases l s
  · rw [h]
  · rw [h, holder_startRelease]
  · rw [h, lane_modLane_same]

@[simp] theorem stream_judgeLane (l : LaneNo) (s : State) (j : StreamNo) :
    (judgeLane l s).stream j = s.stream j := by
  obtain ⟨f, hf⟩ := Arbiter.judgeLane_eq_modLane s l
  rw [hf, modLane_stream]

theorem hasEntry_judgeLane (l : LaneNo) (s : State) (j : StreamNo) :
    (judgeLane l s).hasEntry j = s.hasEntry j := by
  obtain ⟨f, hf⟩ := Arbiter.judgeLane_eq_modLane s l
  rw [hf, State.hasEntry, modLane_requests, State.hasEntry]

theorem startRelease_modStream (l : LaneNo) (s : State) (j : StreamNo) (f : StreamRec → StreamRec) :
    startRelease l (s.modStream j f) = (startRelease l s).modStream j f := by
  unfold startRelease
  rw [modStream_lane]
  split <;> rfl

end lane

/-! ### CLOSE-STREAM and CLEAR-HOLD by life state (R10 to R12, R17) -/

section close
variable {s : State} {i : StreamNo} {l : LaneNo}

/-- A stream in CLOSED, as its entry there leaves it (R9). -/
def closedAt (i : StreamNo) (s : State) : State := settled i ((returned i s).modStream i Lives.closed)

/-- The stream drains in one way or the other (R10, R11). -/
def drainingAt (kind : DrainKind) (i : StreamNo) (s : State) : State :=
  s.modStream i fun r => { r with life := .draining kind }

theorem closedAt_eq (i : StreamNo) (s : State) :
    closedAt i s =
      removeEntry i ({ s with freeBuffers := s.freeBuffers + (s.stream i).queue.length }.modStream i fun r =>
        { r with life := .closed, timer := .stopped, credit := 0, queue := [], keptTime := none }) := by
  rw [closedAt, settled, returned, modStream_modStream, modStream_modStream]
  rfl

@[simp] theorem closedAt_settled (i : StreamNo) (s : State) : closedAt i (settled i s) = closedAt i s := by
  rw [closedAt, ← settled_returned, ← settled_modStream (f := Lives.closed) fun _ => rfl, settled_settled, closedAt]

@[simp] theorem closedAt_drainingAt (kind : DrainKind) (i : StreamNo) (s : State) :
    closedAt i (drainingAt kind i s) = closedAt i s := by
  rw [closedAt, drainingAt, returned_modStream (f := fun r => { r with life := .draining kind }) (fun _ => rfl)
    fun _ => rfl, modStream_modStream]
  rfl

theorem closePlain_closed (h : (s.stream i).life = .closed) : closePlain i s = (.wrongState, s) := by
  simp [closePlain, h]

theorem closePlain_draining {k : DrainKind} (h : (s.stream i).life = .draining k) : closePlain i s = (.done, s) := by
  simp [closePlain, h]

theorem closePlain_held (h : (s.stream i).life = .held) (hn : (s.stream i).heldLane = none) :
    closePlain i s = (.done, closedAt i s) := by
  simp [closePlain, h, enterClosed_flush hn, closedAt]

theorem closePlain_opened (h : (s.stream i).life = .opened) :
    closePlain i s = (.done, judgeDrain i (demandChanged i (drainingAt .plain i s))) := by
  simp [closePlain, h, setLife, drainingAt]

/-- A notification leaves a stream's queue, and the lane that it holds. -/
theorem not_drainComplete_demandChanged (h : (s.stream i).queue ≠ [] ∨ (s.stream i).heldLane ≠ none)
    (hlife : (s.stream i).life = .draining .plain) : ¬ ((demandChanged i s).stream i).drainComplete = true := by
  have hkept := stream_of_sansBinding (demandChanged_sansBinding (s := s) i) i
  have hqueue : ((demandChanged i s).stream i).queue = (s.stream i).queue := (congrArg StreamRec.queue hkept :)
  have hstill : ((demandChanged i s).stream i).life = (s.stream i).life := (congrArg StreamRec.life hkept :)
  rw [drainComplete_iff, hqueue, hstill, hlife]
  rintro ⟨hn, hdiscard | ⟨-, hq⟩⟩
  · cases hdiscard
  · cases hl : (s.stream i).heldLane with
    | none => exact h.elim (· hq) (· hl)
    | some l =>
      rw [demandChanged_held hl, stream_judgeLane, stream_removeEntry, hl] at hn
      cases hn

/-- A stream that has something to send, or a lane to hand back, begins to drain. -/
theorem closePlain_drains (h : (s.stream i).life = .opened)
    (hbusy : (s.stream i).queue ≠ [] ∨ (s.stream i).heldLane ≠ none) :
    closePlain i s = (.done, demandChanged i (drainingAt .plain i s)) := by
  have hstream : (drainingAt .plain i s).stream i = { s.stream i with life := .draining .plain } :=
    stream_modStream_same _ _ _
  rw [closePlain_opened h, judgeDrain_idle (not_drainComplete_demandChanged (by rwa [hstream]) (by rw [hstream]))]

/-- A stream that has nothing to send and holds no lane has drained. -/
theorem closePlain_drained (h : (s.stream i).life = .opened) (hq : (s.stream i).queue = [])
    (hn : (s.stream i).heldLane = none) : closePlain i s = (.done, closedAt i s) := by
  have hstream : (drainingAt .plain i s).stream i = { s.stream i with life := .draining .plain } :=
    stream_modStream_same _ _ _
  have hsettled : demandChanged i (drainingAt .plain i s) = settled i (drainingAt .plain i s) :=
    demandChanged_settled (by rwa [hstream]) (Lives.wantsLane_of_empty (by rwa [hstream]))
  rw [closePlain_opened h, hsettled, judgeDrain_complete, ← closedAt, closedAt_settled, closedAt_drainingAt]
  rw [drainComplete_iff, stream_settled, hstream]
  exact ⟨hn, .inr ⟨rfl, hq⟩⟩

/-- A BOUND lane with nothing left to send is released as its stream begins to drain (R10, R92). -/
theorem demandChanged_drains_bound (hq : (s.stream i).queue = []) (hl : (s.stream i).heldLane = some l)
    (hh : (s.lane l).holder = some i) (hb : (s.lane l).state = .bound) :
    demandChanged i (drainingAt .plain i s) =
      (removeEntry i (drainingAt .plain i s)).modLane l (LaneRec.begin .release .unbinding i) := by
  have hstream : (drainingAt .plain i s).stream i = { s.stream i with life := .draining .plain } :=
    stream_modStream_same _ _ _
  rw [demandChanged_held (by rwa [hstream]), Holding.judgeLane_atOnce (i := i)]
  · rwa [lane_removeEntry]
  · rwa [lane_removeEntry]
  · rw [stream_removeEntry, hstream]
    exact (Holding.endsAtOnce_iff _ _).2 (.inr (.inr (.inl ⟨rfl, hq⟩)))

theorem closeDiscard_closed (h : (s.stream i).life = .closed) : closeDiscard i s = (.wrongState, s) := by
  simp [closeDiscard, h]

theorem closeDiscard_discarding (h : (s.stream i).life = .draining .discard) : closeDiscard i s = (.done, s) := by
  simp [closeDiscard, h]

theorem closeDiscard_held (h : (s.stream i).life = .held) (hn : (s.stream i).heldLane = none) :
    closeDiscard i s = (.done, closedAt i s) := by
  simp [closeDiscard, h, enterClosed_flush hn, closedAt]

theorem closeDiscard_open (h : (s.stream i).life = .opened ∨ (s.stream i).life = .draining .plain) :
    closeDiscard i s = (.done, closeDiscarding i s) := by
  obtain h | h := h <;> simp [closeDiscard, h]

theorem closeDiscard_status (i : StreamNo) (s : State) :
    (closeDiscard i s).1 = if (s.stream i).life = .closed then .wrongState else .done := by
  cases h : (s.stream i).life with
  | draining kind => cases kind <;> simp [closeDiscard, h]
  | _ => simp [closeDiscard, h]

theorem heldLane_flush (i : StreamNo) (s : State) : ((flush i s).stream i).heldLane = (s.stream i).heldLane := by
  cases hl : (s.stream i).heldLane with
  | none =>
    exact (field_of_settled StreamRec.heldLane (fun _ => rfl) (settled_flush hl)).trans (by rwa [stream_returned])
  | some l =>
    unfold flush
    dsimp only
    split
    · exact hl
    · rw [demandChanged_held (l := l) (by rw [stream_modStream_same]; exact hl), stream_judgeLane, stream_removeEntry,
        stream_modStream_same]
      exact hl

/-- Without a lane the close is complete at once (R11). -/
theorem closeDiscarding_free (hn : (s.stream i).heldLane = none) : closeDiscarding i s = closedAt i s := by
  have hflush : ((flush i s).stream i).heldLane = none := (heldLane_flush i s).trans hn
  have hremoved : ((removeEntry i (flush i s)).stream i).heldLane.isNone = true := by
    rw [stream_removeEntry, hflush]
    rfl
  unfold closeDiscarding
  dsimp only
  rw [if_pos hremoved, enterClosed_removeEntry hflush, enterClosed_flush hn, closedAt]

/-- What a flush of a stream with a lane does, once the lane is released and the entry removed. -/
theorem startRelease_flush (hl : (s.stream i).heldLane = some l) :
    startRelease l (removeEntry i (flush i s)) = startRelease l (removeEntry i (returned i s)) := by
  by_cases hq : (s.stream i).queue.length = 0
  · rw [returned_empty hq, flush, if_pos hq]
  · have hflush : flush i s = judgeLane l (removeEntry i (returned i s)) :=
      (if_neg hq).trans (demandChanged_held (s := returned i s) (by rw [stream_returned]; exact hl))
    have habsent : removeEntry i (flush i s) = flush i s := by
      refine Arbiter.removeEntry_absent ?_
      rw [hflush, hasEntry_judgeLane]
      simp [Lives.hasEntry_removeEntry]
    rw [habsent, hflush, startRelease_judgeLane]

theorem holder_flush (hl : (s.stream i).heldLane = some l) :
    ((flush i s).lane l).holder = (s.lane l).holder := by
  unfold flush
  dsimp only
  split
  · rfl
  · rw [demandChanged_held (l := l) (by rw [stream_modStream_same]; exact hl), holder_judgeLane, lane_removeEntry,
      modStream_lane]
    rfl

/-- With a lane the stream drains, and the lane is released if it is BOUND (R11, R92). -/
theorem closeDiscarding_bearing (hl : (s.stream i).heldLane = some l) (hh : (s.lane l).holder = some i) :
    closeDiscarding i s = startRelease l (removeEntry i (drainingAt .discard i (returned i s))) := by
  have hflush : ((flush i s).stream i).heldLane = some l := (heldLane_flush i s).trans hl
  have hdrains : (drainingAt .discard i (removeEntry i (flush i s))).stream i =
      { (flush i s).stream i with life := .draining .discard } := by
    rw [drainingAt, stream_modStream_same, stream_removeEntry]
  have hsetLife : closeDiscarding i s = demandChanged i (drainingAt .discard i (removeEntry i (flush i s))) := by
    unfold closeDiscarding
    dsimp only
    rw [stream_removeEntry, hflush]
    rfl
  have hremoved : removeEntry i (drainingAt .discard i (removeEntry i (flush i s))) =
      drainingAt .discard i (removeEntry i (flush i s)) := by
    rw [drainingAt, removeEntry_modStream, removeEntry_removeEntry]
  have honce : judgeLane l (drainingAt .discard i (removeEntry i (flush i s))) =
      startRelease l (drainingAt .discard i (removeEntry i (flush i s))) := by
    refine judgeLane_endsAtOnce (i := i) ?_ ?_
    · rw [drainingAt, modStream_lane, lane_removeEntry, holder_flush hl, hh]
    · rw [hdrains]
      exact (Holding.endsAtOnce_iff _ _).2 (.inr (.inl rfl))
  rw [hsetLife, demandChanged_held (by rw [hdrains]; exact hflush), hremoved, honce, drainingAt, startRelease_modStream,
    startRelease_flush hl, ← startRelease_modStream, drainingAt, removeEntry_modStream]

/-- A stream as OPEN-STREAM leaves it (R7, R27, R98, R109). -/
def opened (r : StreamRec) : StreamRec :=
  openPacing
    { r with
      life := .opened
      expected := none
      refusals := 0
      admitted := 0
      launched := 0
      queueDrops := 0
      duplicateDrops := 0
      sequenceGaps := 0 }

theorem openStream_opens (h : (s.stream i).life = .closed ∧ 1 ≤ (s.stream i).generation) :
    openStream i s =
      (.done, demandChanged i
        (if (1 ≤ (s.stream i).credit ↔ 1 ≤ (opened (s.stream i)).credit)
            ∧ (s.stream i).leadInput = (opened (s.stream i)).leadInput
          then s.modStream i opened else demandChanged i (s.modStream i opened))) := by
  simp only [openStream, if_pos h, Pacing.changePacing_eq, stream_modStream_same, modStream_modStream]
  rfl

theorem openStream_refused (h : (s.stream i).life ≠ .closed ∨ (s.stream i).generation = 0) :
    openStream i s = (.wrongState, s) :=
  if_neg fun ⟨hc, hg⟩ => h.elim (· hc) fun h0 => absurd (h0 ▸ hg) (by decide)

theorem clearHold_held (h : (s.stream i).life = .held) :
    clearHold i s = (.done, demandChanged i (s.modStream i fun r => { r with life := .opened, refusals := 0 })) := by
  rw [clearHold, if_pos h, setLife, modStream_modStream]

theorem clearHold_refused (h : (s.stream i).life ≠ .held) : clearHold i s = (.wrongState, s) := if_neg h

end close

/-! ### The commands -/

section bodies
variable {p : PortNo} {q : Request} {i : StreamNo}

theorem bodyOpenStream_eq (ht : targetOf q = i.val) : bodyOpenStream p q = answering (openStream i) := by
  simp [bodyOpenStream, withStream, withTarget, ht]

theorem bodyCloseStream_eq (ht : targetOf q = i.val) (hs : selectorOf q = 0) :
    bodyCloseStream p q = answering (closePlain i) := by
  simp [bodyCloseStream, withStream, withTarget, withSelector, ht, hs]

theorem bodyCloseStreamDiscard_eq (ht : targetOf q = i.val) (hs : selectorOf q = 1) :
    bodyCloseStreamDiscard p q = answering (discardClose i) := by
  simp [bodyCloseStreamDiscard, withStream, withTarget, withSelector, ht, hs]

theorem bodyClearHold_eq (ht : targetOf q = i.val) : bodyClearHold p q = answering (clearHold i) := by
  simp [bodyClearHold, withStream, withTarget, ht]

end bodies

theorem stream_taken (s : State) (p : PortNo) (q : Request) (i : StreamNo) :
    (takeRequest p q s).dropTurn.stream i = s.stream i := by rw [stream_dropTurn, stream_takeRequest]

/-- Settles O35: the pacing unit's notification, where it comes, and then the stream table's. -/
theorem openStreamOpens : Obligations.OpenStreamOpens := by
  intro s p q i hpin hcount hnext hturn hfull hcode ht t r
  have hstream : t.stream i = r := stream_taken s p q i
  have hcmd : Command.ofCode q.code = some .openStream := by rw [hcode]; rfl
  have answer {status : Status} {u : State} (hclaim : openStream i t = (status, u)) :
      exec .openStream s = .next (respond p q (bare status) u) := by
    refine (Pacing.running_serve_answering hpin hcount hnext hturn (Pacing.isCommand_of_ofCode hcmd)
      (hfull ▸ Pacing.privilegeFailure_full hcmd) (bodyOpenStream_eq ht)).trans ?_
    rw [hclaim]
  rw [← hstream]
  refine ⟨?_, fun h => answer (openStream_refused h)⟩
  intro hlife hgen u
  have hu : u.stream i = opened (t.stream i) := stream_modStream_same _ _ _
  rw [hu]
  exact answer (openStream_opens ⟨hlife, hgen⟩)

/-- Settles O36: each command is one claim, and the claims are known by life state. -/
theorem plainCloseAndClearHold : Obligations.PlainCloseAndClearHold := by
  intro s p q i hpin hcount hnext hturn hfull ht t r closed drains
  have hstream : t.stream i = r := stream_taken s p q i
  have hclosed : closed = closedAt i t := by rw [closedAt_eq, hstream]
  refine ⟨fun hcode hsel => ?close, fun hcode => ?clear⟩
  case close =>
    have hcmd : Command.ofCode q.code = some .closeStream := by rw [hcode]; rfl
    have answer {status : Status} {u : State} (hclaim : closePlain i t = (status, u)) :
        exec .closeStream s = .next (respond p q (bare status) u) := by
      refine (Pacing.running_serve_answering hpin hcount hnext hturn (Pacing.isSelected_of_selectorOf hcmd hsel)
        (hfull ▸ Pacing.privilegeFailure_full hcmd) (bodyCloseStream_eq ht hsel)).trans ?_
      rw [hclaim]
    rw [hclosed]
    rw [← hstream]
    refine ⟨fun h => answer (closePlain_closed h), fun ⟨k, h⟩ => answer (closePlain_draining h),
      fun h hbusy => answer (closePlain_drains h hbusy), fun l _ hq hl hh hb => ?_, fun h hn => ?_⟩
    · exact demandChanged_drains_bound hq hl hh hb
    · obtain h | ⟨h, hq⟩ := h
      · exact answer (closePlain_held h hn)
      · exact answer (closePlain_drained h hq hn)
  case clear =>
    have hcmd : Command.ofCode q.code = some .clearHold := by rw [hcode]; rfl
    have answer {status : Status} {u : State} (hclaim : clearHold i t = (status, u)) :
        exec .clearHold s = .next (respond p q (bare status) u) := by
      refine (Pacing.running_serve_answering hpin hcount hnext hturn (Pacing.isCommand_of_ofCode hcmd)
        (hfull ▸ Pacing.privilegeFailure_full hcmd) (bodyClearHold_eq ht)).trans ?_
      rw [hclaim]
    rw [← hstream]
    exact ⟨fun h => answer (clearHold_refused h), fun h => answer (clearHold_held h)⟩

/-- Settles O37: the command is one claim, its status told by the life state, and the claim by the lane that the stream
holds. -/
theorem discardCloseFlushes : Obligations.DiscardCloseFlushes := by
  constructor
  case left =>
    intro s p q i hpin hcount hnext hturn hfull ht hcode hsel t
    have hcmd : Command.ofCode q.code = some .closeStream := by rw [hcode]; rfl
    have hstatus : (closeDiscard i t).1 = if (s.stream i).life = .closed then .wrongState else .done := by
      rw [closeDiscard_status, stream_taken s p q i]
    refine (Pacing.running_serve_answering hpin hcount hnext hturn (Pacing.isSelected_of_selectorOf hcmd hsel)
      (hfull ▸ Pacing.privilegeFailure_full hcmd) (bodyCloseStreamDiscard_eq ht hsel)).trans ?_
    rw [← hstatus, discardClose]
  case right =>
    intro t i r flushed drains
    have hdrains : drains = removeEntry i (drainingAt .discard i (returned i t)) := by
      rw [drainingAt, returned, modStream_modStream]
      rfl
    refine ⟨closeDiscard_closed, closeDiscard_discarding, fun h hn => ?_, fun l h hl hh => ?_⟩
    · rw [← closedAt_eq]
      obtain h | h := h
      · exact closeDiscard_held h hn
      · rw [closeDiscard_open h, closeDiscarding_free hn]
    · rw [closeDiscard_open h, closeDiscarding_bearing hl hh, ← hdrains]
      have hlane : drains.lane l = t.lane l := lane_removeEntry _ i l
      refine ⟨fun hb => ?_, fun hb => ?_⟩
      · rw [startRelease, hlane, if_neg hb]
      · rw [Pacing.startRelease_bound (by rwa [hlane]) (by rwa [hlane])]
        rfl

/-! ### The claims of a lost lane (R62) -/

section loss
variable {s : State} {i : StreamNo} {m : StreamImage}

/-- A record that a stream leaves with its image applied (R122). -/
def withoutApplied (i : StreamNo) (c : CommitRecord) : CommitRecord :=
  { c with
    streams := c.streams.filter (· ≠ i)
    applied := if i ∈ c.streams then c.applied + 1 else c.applied }

theorem leaveRecord_countApplication (i : StreamNo) :
    Staging.leaveRecord i ∘ Staging.countApplication i = withoutApplied i := by
  funext c
  by_cases hi : i ∈ c.streams
  · rw [Staging.leaveRecord_countApplication_mem hi, withoutApplied, if_pos hi]
  · have hkept : c.streams.filter (· ≠ i) = c.streams :=
      List.filter_eq_self.2 fun j hj => decide_eq_true fun he => hi (he ▸ hj)
    rw [Staging.leaveRecord_countApplication_notMem hi, withoutApplied, if_neg hi, hkept]

/-- A loss of the lane of a stream that does not drain and waits for no image is only notified. -/
theorem lossClaims_quiet (kind : NotifyKind) (hd : ¬ (s.stream i).drainComplete = true)
    (hp : (s.stream i).commitPending = false) : lossClaims kind i s = notify kind i s := by
  rw [lossClaims, judgeDrain_idle hd, Staging.commitLoss_idle (.inl hp)]

/-- The loss completes a drain: the stream is CLOSED (R13). -/
theorem lossClaims_drained (kind : NotifyKind) (hd : (s.stream i).drainComplete = true)
    (hp : (s.stream i).commitPending = false) :
    (lossClaims kind i s).sansBinding = (closedAt i s).sansBinding := by
  have hstill : ((closedAt i s).stream i).commitPending = false := by
    rw [closedAt, stream_settled, stream_modStream_same, stream_returned]
    exact hp
  rw [lossClaims, judgeDrain_complete hd, ← closedAt, Staging.commitLoss_idle (.inl hstill), notify_sansBinding]

/-- The loss lets a waiting image be applied (R122). -/
theorem lossClaims_applied (kind : NotifyKind) (hd : ¬ (s.stream i).drainComplete = true)
    (hp : (s.stream i).commitPending = true) (hm : (s.stream i).staged = some m) :
    (lossClaims kind i s).sansBinding =
      (judgeCompletion (modRecord (withoutApplied i) (Staging.imageApplied i m s))).sansBinding := by
  rw [lossClaims, judgeDrain_idle hd, notify_sansBinding, Staging.commitLoss_pending hp hm,
    leaveRecord_countApplication, Staging.judgeCompletion_congr (removeEntry_sansBinding _ i)]

end loss

/-- Settles O25, by whether the loss completes a drain and whether an image waits. -/
theorem lossClaimsInOrder : Obligations.LossClaimsInOrder := by
  intro s kind i hpin hcount hn r drained
  have hdrained : drained ↔ (s.stream i).drainComplete = true := by simp [drained, drainComplete_iff, hn, r]
  refine ⟨⟨_, exec_drainCompletion i hpin hcount, rfl⟩, fun hd hp => ?_, fun hd hp => ?_, fun m hd hp hm => ?_⟩
  · exact lossClaims_quiet kind (fun h => hd (hdrained.2 h)) hp
  · rw [lossClaims_drained kind (hdrained.1 hd) hp, closedAt, sansBinding_closed]
    rfl
  · exact lossClaims_applied kind (fun h => hd (hdrained.2 h)) hp hm

end Sys2Proof.Proofs.Closing

/-! Launches: a lane's slot that begins one or goes on with it, its claims, and the events that come among them. -/

namespace Sys2Proof.Proofs.Launches

open Sys2Proof Sys2Proof.Machine

section slot
variable {s : State} {l : LaneNo} {i : StreamNo}

/-- FILL in a lane's slot ends the launch in flight on it. -/
theorem sendFill_filled (l : LaneNo) (s : State) :
    sendFill l s = s.modLane l fun r =>
      { r with launching := none, sent := some (formCell ⟨0x0, 0, l.val, 0, 0, 0, 0⟩ (octetTable 56 [])) } := rfl

/-- A lane carries a stream's cells (R87, R89). -/
theorem carries_iff (s : State) (l : LaneNo) (i : StreamNo) :
    s.carries l i = true ↔
      s.trunkUp = true ∧ (s.lane l).state = .bound ∧ (s.lane l).paused = false ∧ (s.lane l).waitingCell = none
        ∧ (s.lane l).holder = some i := by
  simp [State.carries, launchLane, and_assoc]

theorem exec_laneSlot (l : LaneNo) (hpin : s.resetPin = false) (hcount : s.uncounted = false) :
    exec (.laneSlot l) s = .next (laneSlot l s) := running_counted hpin hcount

/-! ### The slot (R85, R87) -/

/-- A slot that finds the launch conditions begins a launch, and goes on with it unless a turn has another event come
between. -/
theorem readSlot_launches (hc : s.carries l i = true) (hcredit : 1 ≤ (s.stream i).credit)
    (hq : (s.stream i).queue ≠ []) :
    readSlot l s =
      if s.turn then beginLaunch l i s.dropTurn else launchCredit l i (beginLaunch l i s.dropTurn) := by
  obtain ⟨hup, hb, hp, hw, hh⟩ := (carries_iff s l i).1 hc
  have hlaunch : launchable s.trunkUp (s.lane l) (s.stream i) = true := by
    simp [launchable, launchLane, StreamRec.creditInput, hup, hb, hp, hw, hcredit, hq]
  simp only [readSlot, hup, if_true, hw, hh, takeTurn_eq]
  rw [if_pos (hup ▸ hlaunch)]
  rfl

theorem carries_beginLaunch (l : LaneNo) (i j : StreamNo) (s : State) :
    (beginLaunch l j s).carries l i = s.carries l i := by
  rw [Bool.eq_iff_iff, carries_iff, carries_iff, beginLaunch, lane_modLane_same, modLane_trunkUp]

/-- A slot goes on with its lane's launch. -/
theorem laneSlot_goesOn (hl : (s.lane l).launching = some i) (hc : s.carries l i = true) :
    laneSlot l s = launchCredit l i s := by rw [laneSlot_launching hl, if_pos hc]

/-- Whatever a slot does afresh overwrites a launch that it finds in flight. -/
theorem readSlot_unlaunched (l : LaneNo) (s : State) :
    readSlot l (s.modLane l fun r => { r with launching := none }) = readSlot l s := by
  have hfill : sendFill l (s.modLane l fun r => { r with launching := none }) = sendFill l s := by
    rw [sendFill_filled, modLane_modLane, sendFill_filled]
  have hcontrol (c : ControlCell) :
      sendControl l c (s.modLane l fun r => { r with launching := none }) = sendControl l c s := by
    simp only [sendControl, sendOnLane, modLane_modLane]
    rfl
  have hbegin (i : StreamNo) :
      beginLaunch l i (s.modLane l fun r => { r with launching := none }).dropTurn = beginLaunch l i s.dropTurn :=
    modLane_modLane s.dropTurn l (fun r => { r with launching := none }) fun r => { r with launching := some i }
  have hlaunchable (h : StreamRec) :
      launchable s.trunkUp { s.lane l with launching := none } h = launchable s.trunkUp (s.lane l) h := rfl
  simp only [readSlot, modLane_trunkUp, lane_modLane_same, modLane_stream, takeTurn_eq, hfill, hcontrol, hbegin,
    hlaunchable]
  rfl

/-! ### The claims (R88, R89) -/

/-- The credit claim (R26, R34): the last credit taken is notified. -/
theorem changePacing_spend (hcredit : 1 ≤ (s.stream i).credit) :
    changePacing i (fun r => { r with credit := r.credit - 1 }) s =
      if (s.stream i).credit = 1 then demandChanged i (s.modStream i fun r => { r with credit := r.credit - 1 })
      else s.modStream i fun r => { r with credit := r.credit - 1 } := by
  rw [Pacing.changePacing_eq]
  by_cases h1 : (s.stream i).credit = 1
  · rw [if_pos h1, if_neg fun h => by simp [h1] at h]
  · have hstill : 1 ≤ (s.stream i).credit - 1 := by omega
    rw [if_neg h1, if_pos ⟨iff_of_true hcredit hstill, rfl⟩]

/-- One credit is spent, and the last one notified. -/
def spent (i : StreamNo) (s : State) : State := (consumeCredit i s).2

theorem consumeCredit_granted (hcredit : 1 ≤ (s.stream i).credit) : consumeCredit i s = (true, spent i s) := by
  have h : (s.stream i).credit ≠ 0 := by omega
  rw [spent, consumeCredit, if_neg h]

theorem spent_eq (hcredit : 1 ≤ (s.stream i).credit) :
    spent i s =
      if (s.stream i).credit = 1 then demandChanged i (s.modStream i fun r => { r with credit := r.credit - 1 })
      else s.modStream i fun r => { r with credit := r.credit - 1 } := by
  have h : (s.stream i).credit ≠ 0 := by omega
  rw [spent, consumeCredit, if_neg h]
  exact changePacing_spend hcredit

theorem launchCredit_granted (hcredit : 1 ≤ (s.stream i).credit) :
    launchCredit l i s = launchCell l i (spent i s) := by
  rw [launchCredit, consumeCredit_granted hcredit]

/-- The head of a queue has been taken, and its buffer given back (R106). -/
def headTaken (i : StreamNo) (rest : List TrafficCell) (s : State) : State :=
  { s with freeBuffers := s.freeBuffers + 1 }.modStream i fun r => { r with queue := rest }

@[simp] theorem stream_headTaken (i : StreamNo) (rest : List TrafficCell) (s : State) :
    (headTaken i rest s).stream i = { s.stream i with queue := rest } := stream_modStream_same _ _ _

/-- What the taking of a head brings: the last cell taken is notified, and its stream judged for a drain. -/
def afterHead (i : StreamNo) (rest : List TrafficCell) (s : State) : State :=
  if rest = [] then judgeDrain i (demandChanged i (headTaken i rest s)) else headTaken i rest s

/-- The cell of a launch has left (R88). -/
def launchedOn (l : LaneNo) (i : StreamNo) (c : TrafficCell) (s : State) : State :=
  (s.modLane l fun r => { r with launching := none, sent := some (launchedCell l c) }).modStream i
    fun r => { r with launched := r.launched + 1 }

theorem launchCell_launches {c : TrafficCell} {rest : List TrafficCell} (h : (s.stream i).queue = c :: rest) :
    launchCell l i s = launchedOn l i c (afterHead i rest s) := by
  have htaken : takeHead i s = (some c, emptinessChanged i false (headTaken i rest s)) := by
    simp only [takeHead, h, headTaken]
  simp only [launchCell, htaken]
  cases rest with
  | nil =>
    have hchanged : emptinessChanged i false (headTaken i [] s) = demandChanged i (headTaken i [] s) := by
      simp [emptinessChanged]
    have hempty : ((demandChanged i (headTaken i [] s)).stream i).queue = [] := by
      have hkept := stream_of_sansBinding (demandChanged_sansBinding (s := headTaken i [] s) i) i
      exact (congrArg StreamRec.queue hkept :).trans (by rw [stream_headTaken]; rfl)
    rw [hchanged, hempty]
    rfl
  | cons d rest =>
    have hunchanged : emptinessChanged i false (headTaken i (d :: rest) s) = headTaken i (d :: rest) s := by
      simp [emptinessChanged]
    rw [hunchanged, stream_headTaken]
    rfl

end slot

/-! ### Launches in flight -/

section flights
variable {s : State} {l : LaneNo} {i : StreamNo}

/-- The launch in flight on a lane, if it is of the streams `which` and the lane still carries its cells. -/
def flightOn (s : State) (which : StreamNo → Bool) (l : LaneNo) : Option (LaneNo × StreamNo) :=
  ((s.lane l).launching.filter fun i => which i && s.carries l i).map fun i => (l, i)

theorem launches_eq (s : State) (which : StreamNo → Bool) :
    s.launches which = (List.finRange 16).filterMap (flightOn s which) := by
  refine List.filterMap_congr fun l _ => ?_
  rw [flightOn]
  cases (s.lane l).launching with
  | none => rfl
  | some i =>
    simp only [Option.filter_some]
    split_ifs <;> rfl

theorem flightOn_eq_some_iff {which : StreamNo → Bool} {f : LaneNo × StreamNo} :
    flightOn s which l = some f ↔
      f.1 = l ∧ (s.lane l).launching = some f.2 ∧ which f.2 = true ∧ s.carries l f.2 = true := by
  obtain ⟨k, i⟩ := f
  simp only [flightOn, Option.map_eq_some_iff, Option.filter_eq_some_iff, Prod.mk.injEq, Bool.and_eq_true]
  constructor
  · rintro ⟨j, ⟨hl, hw, hc⟩, rfl, rfl⟩
    exact ⟨rfl, hl, hw, hc⟩
  · rintro ⟨rfl, hl, hw, hc⟩
    exact ⟨i, ⟨hl, hw, hc⟩, rfl, rfl⟩

theorem mem_launches {which : StreamNo → Bool} :
    (l, i) ∈ s.launches which ↔ (s.lane l).launching = some i ∧ which i = true ∧ s.carries l i = true := by
  simp only [launches_eq, List.mem_filterMap, List.mem_finRange, true_and, flightOn_eq_some_iff]
  exact ⟨fun ⟨_, hk, h⟩ => hk ▸ h, fun h => ⟨l, rfl, h⟩⟩

theorem pairwise_launches (s : State) (which : StreamNo → Bool) :
    ((s.launches which).map Prod.fst).Pairwise (· < ·) := by
  rw [launches_eq, List.pairwise_map, List.pairwise_filterMap]
  refine (List.pairwise_lt_finRange 16).imp fun hab f hf g hg => ?_
  rw [(flightOn_eq_some_iff.1 hf).1, (flightOn_eq_some_iff.1 hg).1]
  exact hab

theorem chargeLaunches_refused (fs : List (LaneNo × StreamNo)) (h : (s.stream i).credit = 0) :
    chargeLaunches ((l, i) :: fs) s = chargeLaunches fs s := if_pos h

theorem chargeLaunches_granted (fs : List (LaneNo × StreamNo)) (hcredit : 1 ≤ (s.stream i).credit) :
    chargeLaunches ((l, i) :: fs) s =
      if s.turn then
        ((l, i) :: (chargeLaunches fs (spent i s.dropTurn)).1, (chargeLaunches fs (spent i s.dropTurn)).2)
      else chargeLaunches fs s.dropTurn := by
  have h : (s.stream i).credit ≠ 0 := by omega
  rw [chargeLaunches, if_neg h]
  rfl

end flights

/-- Settles O11: the slot, the claims, the launches in flight, and what an event finds and leaves of them. -/
theorem laneSlotLaunches : Obligations.LaneSlotLaunches := by
  unfold Obligations.LaneSlotLaunches
  intro filled carries spends
  have hcarries (s : State) (l : LaneNo) (i : StreamNo) : s.carries l i = true ↔ carries s l i := carries_iff s l i
  refine ⟨?slot, fun s which => ⟨pairwise_launches s which, fun l i => ?flight⟩, fun s => rfl, fun s l i fs =>
    ⟨chargeLaunches_refused fs, fun h => ?charge⟩, fun s l i charged => ?ends, fun s which event => ⟨rfl, rfl⟩⟩
  case flight => rw [mem_launches, hcarries]
  case charge =>
    have hspent : spends s.dropTurn i = spent i s.dropTurn := (spent_eq (s := s.dropTurn) h).symm
    rw [hspent, chargeLaunches_granted fs h]
  case ends =>
    simp only [endLaunch, List.contains_iff_mem, sendFill_filled]
    rfl
  case slot =>
    intro s l i hpin hcount
    refine ⟨fun hnone hc hcredit hq => ?begins,
      fun hl => ⟨fun hc => ⟨fun h => ?refused, fun h => ?granted⟩, fun hc => ?afresh⟩,
      fun hq => launchCell_fails hq, fun c rest hq => ?launches⟩
    case begins =>
      intro begun
      have hbegun : (begun.lane l).launching = some i := by simp [begun]
      have hbegunc : begun.carries l i = true := (carries_beginLaunch l i i s.dropTurn).trans ((hcarries s l i).2 hc)
      rw [exec_laneSlot l hpin hcount, laneSlot_first hnone, readSlot_launches ((hcarries s l i).2 hc) hcredit hq,
        exec_laneSlot (s := begun) l hpin hcount, laneSlot_goesOn hbegun hbegunc]
      exact apply_ite _ _ _ _
    case refused =>
      rw [exec_laneSlot l hpin hcount, laneSlot_goesOn hl ((hcarries s l i).2 hc), launchCredit_refused h]
      rfl
    case granted =>
      rw [exec_laneSlot l hpin hcount, laneSlot_goesOn hl ((hcarries s l i).2 hc), launchCredit_granted h, spent_eq h]
    case afresh =>
      rw [← hcarries, Bool.not_eq_true] at hc
      rw [exec_laneSlot l hpin hcount, exec_laneSlot (s := s.modLane l _) l hpin hcount, laneSlot_launching hl, hc,
        if_neg Bool.false_ne_true, laneSlot_first (by rw [lane_modLane_same]), readSlot_unlaunched]
    case launches =>
      intro u
      refine ⟨afterHead i rest s, fun h => if_neg h, fun h => ?_, launchCell_launches hq⟩
      have hresets : (demandChanged i u).resetPin = false := (demandChanged_resetPin u i).trans hpin
      rw [Closing.exec_drainCompletion i hresets ((demandChanged_uncounted u i).trans hcount), afterHead, if_pos h]
      rfl

end Sys2Proof.Proofs.Launches

/-! RESTART: what it makes of each part of the state, and the launches in flight that it comes among. -/

namespace Sys2Proof.Proofs.Restart

open Sys2Proof Sys2Proof.Machine

section shape
variable {s : State}

/-! ### The commit unit's part (R129) -/

/-- The device parameter set after a RESTART: a waiting one applied (R129). -/
def paramsAfter (s : State) : DeviceParams :=
  if s.trunkCommitPending then s.stagedParams.getD s.params else s.params

/-- The staged device parameter set after a RESTART. -/
def stagedAfter (s : State) : Option DeviceParams := if s.trunkCommitPending then none else s.stagedParams

/-- The response of a record that a RESTART closes (R129). -/
def finalAnswer (s : State) (c : CommitRecord) : Response :=
  (Management.restartRecord s c).answer .done (Management.restartRecord s c).doneResult

/-- The ports after a RESTART's close of the open record: its response placed, or discarded if it is void (R148). -/
def portsAfter (s : State) : Table 6 PortRec :=
  match s.record with
  | some c => s.ports.write c.port (Management.settled s.owedVoid (finalAnswer s c) (s.port c.port))
  | none => s.ports

/-- The state after the commit unit's part of a RESTART. -/
def committedAfter (s : State) : State :=
  { s with
    params := paramsAfter s
    stagedParams := stagedAfter s
    trunkCommitPending := false
    streams := s.streams.mapAll (restartImage s.paceCount s.params.settleInterval)
    ports := portsAfter s
    record := none
    barred := none
    owedVoid := false
    commitAnswer := none }

theorem lane_committedAfter (s : State) (l : LaneNo) : (committedAfter s).lane l = s.lane l := rfl

theorem port_committedAfter (s : State) (x : PortNo) : (committedAfter s).port x = (portsAfter s).read x := rfl

/-- Without a setup budget the application of a device set finds nothing to judge (R52). -/
theorem applyDevice_unbudgeted (d : DeviceParams) (hb : s.budget = []) (hsp : s.spacing = none) :
    applyDevice d s =
      modRecord (fun c => if c.devicePart = .pending then { c with devicePart := .applied } else c)
        { s with params := d, stagedParams := none, trunkCommitPending := false } := by
  simp [applyDevice, takeBudgetValues, modRecord, hb, hsp]

/-- The device part of a record takes no part in its answer. -/
theorem restartDevice_eq (hb : s.budget = []) (hsp : s.spacing = none) :
    ∃ f : CommitRecord → CommitRecord,
      (∀ c, (f c).port = c.port ∧ (f c).answer .done (f c).doneResult = c.answer .done c.doneResult)
        ∧ Management.restartDevice s =
          modRecord f
            { s with params := paramsAfter s, stagedParams := stagedAfter s, trunkCommitPending := false } := by
  by_cases hp : s.trunkCommitPending = true
  case neg =>
    refine ⟨id, fun c => ⟨rfl, rfl⟩, ?_⟩
    simp [Management.restartDevice, modRecord, paramsAfter, stagedAfter, hp]
  cases hd : s.stagedParams with
  | none =>
    refine ⟨id, fun c => ⟨rfl, rfl⟩, ?_⟩
    simp [Management.restartDevice, modRecord, paramsAfter, stagedAfter, hp, hd]
  | some d =>
    refine ⟨fun c => if c.devicePart = .pending then { c with devicePart := .applied } else c, fun c => ?_, ?_⟩
    · dsimp only
      split <;> exact ⟨rfl, rfl⟩
    · simp only [Management.restartDevice, hp, hd, paramsAfter, stagedAfter, applyDevice_unbudgeted d hb hsp, if_true,
        Option.getD_some]

theorem restartCommit_eq (h : CommitInv s) (hb : s.budget = []) (hsp : s.spacing = none) :
    restartCommit s = committedAfter s := by
  obtain ⟨hnone, hbarred, howed, -, -⟩ := h
  obtain ⟨f, hf, hdevice⟩ := restartDevice_eq (s := Management.restartImages s) hb hsp
  cases hc : s.record with
  | none =>
    have hbar : s.barred = none := by rw [hbarred, hc]; rfl
    have howe : s.owedVoid = false := eq_false_of_ne_true fun h => howed h hbar
    have hrecord : (Management.restartDevice (Management.restartImages s)).record = none := by
      rw [hdevice]
      simp [modRecord, Management.restartImages, hc]
    rw [Management.restartCommit_eq, hrecord, hdevice]
    simp only [modRecord, Management.restartImages, committedAfter, portsAfter, hc, hbar, howe, hnone, Option.map_none]
    rfl
  | some c =>
    have hbar : (Management.restartDevice (Management.restartImages s)).barred = some c.port := by
      rw [hdevice]
      exact hbarred.trans (by rw [hc]; rfl)
    have hrecord : (Management.restartDevice (Management.restartImages s)).record =
        some (f (Management.restartRecord s c)) := by
      rw [hdevice]
      simp [modRecord, Management.restartImages, hc]
    rw [Management.restartCommit_eq, hrecord]
    dsimp only
    rw [Management.closeRecord_barred _ _ _ hbar, (hf _).2, hdevice]
    simp only [committedAfter, portsAfter, hc]
    rfl

/-- The commit unit's part makes of the streams what it makes of them, whatever record is open. -/
theorem restartCommit_streams (s : State) :
    (restartCommit s).streams = s.streams.mapAll (restartImage s.paceCount s.params.settleInterval) := by
  have hdevice : (Management.restartDevice (Management.restartImages s)).streams =
      s.streams.mapAll (restartImage s.paceCount s.params.settleInterval) := by
    unfold Management.restartDevice
    split <;> rfl
  rw [Management.restartCommit_eq]
  split
  · next c hc =>
    rw [← hdevice]
    cases hb : (Management.restartDevice (Management.restartImages s)).barred with
    | none => rw [Management.closeRecord_unbarred _ _ _ hb]
    | some p =>
      rw [Management.closeRecord_barred _ _ _ hb]
      rfl
  · exact hdevice

/-! ### The whole of it (R155) -/

/-- The state before the commit unit's part of a RESTART (R155 steps 1 to 5). -/
def swept (s : State) : State := restartStreams (restartQueues (restartArbiter (dropLanes s)))

theorem commitInv_swept (h : CommitInv s) : CommitInv (swept s) :=
  Management.commitInv_of_view (Management.ClaimInvariant.view_restartStreams s) h

/-- A stream after a RESTART (R155). -/
def streamAfter (now : PaceCount) (interval : Nat) (r : StreamRec) : StreamRec :=
  (restartImage now interval
    (restartPacing (restartLife { r with heldLane := none, keptTime := none, queue := [] }))).sansNotices

/-- A lane after a RESTART (R83, R155). -/
def laneAfter (up : Bool) (r : LaneRec) : LaneRec :=
  if up = true ∧ r.dropped.state = .down then { r.dropped with holder := none }.sansNotices.beginRecovery
  else { r.dropped with holder := none }.sansNotices

theorem restartRecoveries_eq (s : State) :
    restartRecoveries s =
      { s with lanes := s.lanes.mapAll fun r => if s.trunkUp = true ∧ r.state = .down then r.beginRecovery else r } := by
  unfold restartRecoveries
  split
  · next h => simp [recoverDownLanes, h]
  · next h =>
    have hsame : s.lanes.mapAll (fun r => if s.trunkUp = true ∧ r.state = .down then r.beginRecovery else r) = s.lanes := by
      simp [h]
    rw [hsame]

/-! #### Records after the last two steps -/

theorem lane_restartNotices (s : State) (l : LaneNo) :
    (restartNotices s).lane l = (s.lane l).sansNotices := Table.read_mapAll _ _ _

theorem port_restartNotices (s : State) (x : PortNo) :
    (restartNotices s).port x = (s.port x).sansNotices := Table.read_mapAll _ _ _

theorem stream_restartNotices (s : State) (i : StreamNo) :
    (restartNotices s).stream i = (s.stream i).sansNotices := Table.read_mapAll _ _ _

theorem lane_restartRecoveries (s : State) (l : LaneNo) :
    (restartRecoveries s).lane l =
      if s.trunkUp = true ∧ (s.lane l).state = .down then (s.lane l).beginRecovery else s.lane l := by
  rw [restartRecoveries_eq]
  exact Table.read_mapAll _ _ _

theorem port_restartRecoveries (s : State) (x : PortNo) : (restartRecoveries s).port x = s.port x := by
  rw [restartRecoveries_eq]
  rfl

theorem stream_restartRecoveries (s : State) (i : StreamNo) : (restartRecoveries s).stream i = s.stream i := by
  rw [restartRecoveries_eq]
  rfl

theorem lane_swept (s : State) (l : LaneNo) : (swept s).lane l = { (s.lane l).dropped with holder := none } :=
  Table.read_mapAll _ _ _

theorem deviceRestart_eq (h : CommitInv s) :
    deviceRestart s = restartRecoveries (restartNotices (committedAfter (swept s))) :=
  congrArg (fun t => restartRecoveries (restartNotices t)) (restartCommit_eq (commitInv_swept h) rfl rfl)

theorem stream_deviceRestart (s : State) (i : StreamNo) :
    (deviceRestart s).stream i = streamAfter s.paceCount s.params.settleInterval (s.stream i) := by
  have hswept : (swept s).stream i = _ := Lives.StreamRules.stream_restartStreams s i
  have hcommit : (restartCommit (swept s)).stream i =
      restartImage s.paceCount s.params.settleInterval ((swept s).stream i) := by
    rw [State.stream, restartCommit_streams, Table.read_mapAll]
    rfl
  rw [deviceRestart, stream_restartRecoveries, stream_restartNotices, ← swept, hcommit, hswept, streamAfter]

theorem lane_beforeRecoveries (s : State) (l : LaneNo) :
    (restartNotices (committedAfter (swept s))).lane l = { (s.lane l).dropped with holder := none }.sansNotices := by
  rw [lane_restartNotices, lane_committedAfter, lane_swept]

/-- The parts of a swept state that are not tables of records (R55, R83, R112). -/
theorem swept_eq (s : State) :
    swept s =
      { s with
        streams := (swept s).streams
        lanes := (swept s).lanes
        freeBuffers := Config.poolSize
        requests := []
        waiting := Table.const 4 false
        freeLanes := Table.const 4 []
        budget := []
        spacing := none } := by
  simp only [swept, restartStreams, restartQueues, restartArbiter, dropLanes]

/-- The parts of a restarted state that are not tables of records (R155). -/
theorem deviceRestart_parts (h : CommitInv s) :
    deviceRestart s =
      { s with
        streams := (deviceRestart s).streams
        lanes := (deviceRestart s).lanes
        ports := (deviceRestart s).ports
        params := paramsAfter s
        stagedParams := stagedAfter s
        trunkCommitPending := false
        freeBuffers := Config.poolSize
        requests := []
        waiting := Table.const 4 false
        freeLanes := Table.const 4 []
        budget := []
        spacing := none
        record := none
        notices := Table.const 4 none
        reports := []
        barred := none
        owedVoid := false
        commitAnswer := none } := by
  rw [deviceRestart_eq h, restartRecoveries_eq, swept_eq]
  simp only [restartNotices, committedAfter]
  rfl

theorem trunkUp_beforeRecoveries (s : State) : (restartNotices (committedAfter (swept s))).trunkUp = s.trunkUp := by
  rw [swept_eq, restartNotices, committedAfter]

theorem lane_deviceRestart (h : CommitInv s) (l : LaneNo) :
    (deviceRestart s).lane l = laneAfter s.trunkUp (s.lane l) := by
  have hstate : { (s.lane l).dropped with holder := none }.sansNotices.state = (s.lane l).dropped.state := rfl
  rw [deviceRestart_eq h, lane_restartRecoveries, trunkUp_beforeRecoveries, lane_beforeRecoveries, hstate, laneAfter]

theorem port_deviceRestart (h : CommitInv s) (x : PortNo) :
    (deviceRestart s).port x = ((portsAfter (swept s)).read x).sansNotices := by
  rw [deviceRestart_eq h, port_restartRecoveries, port_restartNotices, port_committedAfter]

/-- The response that a RESTART gives an open record: DONE with its counts, every pending stream applied (R129). -/
theorem finalAnswer_eq {c : CommitRecord} (h : CommitInv s) (hc : s.record = some c) :
    finalAnswer s c =
      ⟨c.tag, .done, octetTable 56
        ([0x0A, c.selector] ++ octets2 (c.applied + c.streams.length) ++ octets2 c.withdrawn)⟩ := by
  obtain ⟨-, -, -, -, hpending⟩ := h
  have hall : (c.streams.filter fun i => (s.stream i).commitPending) = c.streams := List.filter_eq_self.2 (hpending c hc)
  rw [finalAnswer, Management.restartRecord, hall]
  rfl

theorem record_swept (s : State) : (swept s).record = s.record := by rw [swept_eq]

theorem owedVoid_swept (s : State) : (swept s).owedVoid = s.owedVoid := by rw [swept_eq]

theorem port_swept (s : State) (x : PortNo) : (swept s).port x = s.port x := by rw [swept_eq]; rfl

theorem port_deviceRestart_answered {c : CommitRecord} (h : CommitInv s) (hc : s.record = some c) :
    (deviceRestart s).port c.port =
      (Management.settled s.owedVoid (finalAnswer (swept s) c) (s.port c.port)).sansNotices := by
  have hports : portsAfter (swept s) = (swept s).ports.write c.port
      (Management.settled (swept s).owedVoid (finalAnswer (swept s) c) ((swept s).port c.port)) := by
    rw [portsAfter, record_swept, hc]
  rw [port_deviceRestart h, hports, Table.read_write_same, owedVoid_swept, port_swept]

theorem port_deviceRestart_other {x : PortNo} (h : CommitInv s) (hx : ∀ c, s.record = some c → c.port ≠ x) :
    (deviceRestart s).port x = (s.port x).sansNotices := by
  rw [port_deviceRestart h, portsAfter, record_swept]
  have hport : (swept s).ports.read x = s.port x := port_swept s x
  cases hc : s.record with
  | none => rw [← hport]
  | some c =>
    dsimp only
    rw [Table.read_write_ne _ (hx c hc), hport]

/-! ### What is left of a lane and of a stream -/

/-- A lane is out after a RESTART if it was DISABLED, or had a disable pending (R83). -/
def isOut (r : LaneRec) : Bool := r.state == .disabled || r.disablePending

theorem dropped_state (r : LaneRec) : r.dropped.state = if isOut r = true then .disabled else .down := by
  simp [LaneRec.dropped, isOut]

/-- A lane that is not out begins a recovery if the trunk is UP (R83). -/
theorem laneAfter_eq (up : Bool) (r : LaneRec) :
    laneAfter up r =
      if isOut r = false ∧ up = true then
        { r.dropped with holder := none }.sansNotices.beginRecovery
      else { r.dropped with holder := none }.sansNotices := by
  unfold laneAfter
  dsimp only
  rw [dropped_state]
  cases isOut r <;> simp

theorem state_laneAfter (up : Bool) (r : LaneRec) :
    (laneAfter up r).state = if isOut r = true then .disabled else if up = true then .recovering else .down := by
  rw [laneAfter_eq]
  split
  · next h =>
    obtain ⟨hout, hup⟩ := h
    rw [hout, hup]
    rfl
  · next h =>
    refine (dropped_state r).trans ?_
    cases hout : isOut r <;> simp_all

theorem tag_laneAfter (up : Bool) (r : LaneRec) :
    (laneAfter up r).tag = if (!isOut r && up) = true then r.tag + 1 else r.tag := by
  rw [laneAfter_eq]
  simp only [Bool.and_eq_true, Bool.not_eq_true']
  split <;> rfl

theorem laneAfter_cleared (up : Bool) (r : LaneRec) :
    (laneAfter up r).holder = none ∧ (laneAfter up r).launching = none ∧ (laneAfter up r).disablePending = false
      ∧ (laneAfter up r).paused = false ∧ (laneAfter up r).holdDeadline = none
      ∧ (laneAfter up r).answerDeadline = none := by
  rw [laneAfter_eq]
  split <;> exact ⟨rfl, rfl, rfl, rfl, rfl, rfl⟩

theorem laneAfter_kept (up : Bool) (r : LaneRec) :
    (laneAfter up r).group = r.group ∧ (laneAfter up r).aligned = r.aligned
      ∧ (laneAfter up r).bindsAccepted = r.bindsAccepted ∧ (laneAfter up r).bindsRefused = r.bindsRefused
      ∧ (laneAfter up r).answerTimeouts = r.answerTimeouts ∧ (laneAfter up r).staleAnswers = r.staleAnswers := by
  rw [laneAfter_eq]
  split <;> exact ⟨rfl, rfl, rfl, rfl, rfl, rfl⟩

/-- The life state after a RESTART: a stream that drains is CLOSED (R19). -/
def lifeAfter (r : StreamRec) : Life := match r.life with | .draining _ => .closed | l => l

/-- The timer after a RESTART: only a RUNNING one of a stream that does not drain runs on (R19, R36). -/
def timerAfter (r : StreamRec) : Timer :=
  match r.life, r.timer with
  | .draining _, _ => .stopped
  | _, .running => .running
  | _, .stopPending => .stopped
  | _, .stopped => .stopped

/-- A stream before the commit unit's part of a RESTART. -/
def streamSwept (r : StreamRec) : StreamRec :=
  { r with
    heldLane := none
    keptTime := none
    queue := []
    count := r.config.reload
    credit := 0
    life := lifeAfter r
    timer := timerAfter r }

theorem restartPacing_restartLife (r : StreamRec) :
    restartPacing (restartLife { r with heldLane := none, keptTime := none, queue := [] }) = streamSwept r := by
  cases hl : r.life <;> cases ht : r.timer <;>
    simp [restartPacing, restartLife, closePacing, streamSwept, lifeAfter, timerAfter, hl, ht]

theorem streamAfter_kept {now : PaceCount} {interval : Nat} {r : StreamRec}
    (h : r.commitPending = false ∨ r.staged = none) :
    streamAfter now interval r = (streamSwept r).sansNotices := by
  rw [streamAfter, restartPacing_restartLife, restartImage]
  split
  · next hp hm =>
    exact absurd h (by simp [show r.commitPending = true from hp, show r.staged = some _ from hm])
  · rfl

theorem streamAfter_applied {now : PaceCount} {interval : Nat} {r : StreamRec} {m : StreamImage}
    (hp : r.commitPending = true) (hm : r.staged = some m) :
    streamAfter now interval r = ((streamSwept r).applyImage now interval m).sansNotices := by
  have hp' : (streamSwept r).commitPending = true := hp
  have hm' : (streamSwept r).staged = some m := hm
  rw [streamAfter, restartPacing_restartLife, restartImage, hp', hm']

/-- After a RESTART no stream has a cell to launch, or a credit to launch it with (R36, R112). -/
theorem streamAfter_drained (now : PaceCount) (interval : Nat) (r : StreamRec) :
    (streamAfter now interval r).queue = [] ∧ (streamAfter now interval r).credit = 0 := by
  by_cases h : r.commitPending = false ∨ r.staged = none
  · rw [streamAfter_kept h]
    exact ⟨rfl, rfl⟩
  · obtain ⟨hp, hm⟩ := not_or.1 h
    obtain ⟨m, hm⟩ := Option.ne_none_iff_exists'.1 hm
    rw [streamAfter_applied (Bool.not_eq_false _ ▸ hp) hm]
    exact ⟨rfl, Nat.zero_min _⟩

end shape

/-! ### Launches in flight -/

section flights
variable {s : State}

/-- No stream has a cell, or a credit. -/
def Drained (s : State) : Prop := ∀ i, (s.stream i).queue = [] ∧ (s.stream i).credit = 0

theorem drained_deviceRestart (s : State) : Drained (deviceRestart s) := fun i => by
  rw [stream_deviceRestart]
  exact streamAfter_drained _ _ _

/-- Without a cell and without a credit a launch fails, whether or not it has had its credit (R89). -/
theorem endLaunch_drained (h : Drained s) (charged : List (LaneNo × StreamNo)) (f : LaneNo × StreamNo) :
    endLaunch charged s f = sendFill f.1 s := by
  unfold endLaunch
  split
  · exact launchCell_fails (h f.2).1
  · exact if_pos (h f.2).2

theorem foldl_endLaunch_drained (h : Drained s) (charged flights : List (LaneNo × StreamNo)) :
    flights.foldl (endLaunch charged) s = flights.foldl (fun u f => sendFill f.1 u) s := by
  induction flights generalizing s with
  | nil => rfl
  | cons f fs ih =>
    rw [List.foldl_cons, List.foldl_cons, endLaunch_drained h]
    exact ih h

end flights

theorem commitInv_taken {s : State} {p : PortNo} {q : Request} (hnext : s.nextRequest = some (p, q))
    (h : CommitInv s) : CommitInv (takeRequest p q s).dropTurn :=
  Management.commitInv_agentInvariant.keeps_dropTurn (Management.commitInv_agentInvariant.taken hnext h)

/-! ### The parts of the state that a RESTART leaves -/

section parts
variable {s : State}

theorem entry_deviceRestart (h : CommitInv s) (pt : CausePoint) : (deviceRestart s).entry pt = none := by
  cases pt with
  | device c =>
    exact (congrArg (fun t : State => t.notices.read c.bit) (deviceRestart_parts h) :).trans (Table.read_const _ _)
  | port x c => exact (congrArg (fun r => r.notices.read c.bit) (port_deviceRestart h x)).trans (Table.read_const _ _)
  | lane l c =>
    rw [State.entry, lane_deviceRestart h, laneAfter]
    split <;> exact Table.read_const _ _
  | stream i c =>
    exact (congrArg (fun r => r.notices.read c.bit) (stream_deviceRestart s i)).trans (Table.read_const _ _)

/-- The ports keep all but a response that is owed, its place and the notices. -/
theorem port_deviceRestart_kept (h : CommitInv s) (x : PortNo) :
    ∃ responses reserved, (deviceRestart s).port x =
      { s.port x with responses := responses, reserved := reserved }.sansNotices := by
  by_cases hx : ∀ c, s.record = some c → c.port ≠ x
  · exact ⟨_, _, port_deviceRestart_other h hx⟩
  · push Not at hx
    obtain ⟨c, hc, rfl⟩ := hx
    exact ⟨_, _, port_deviceRestart_answered h hc⟩

end parts

/-- Settles O52: the launches in flight fail on the state that the device restart leaves, and that state is read part by
part. -/
theorem restartClears : Obligations.RestartClears := by
  constructor
  case left =>
    intro s p q hpin hcount hnext hturn hfull hcode taken flights
    have hcmd : Command.ofCode q.code = some .restart := by rw [hcode]; rfl
    have hrun : exec .restart s =
        .next (respond p q (bare .done) (duringLaunches (fun _ => true) deviceRestart taken)) :=
      Pacing.running_serve_answering (claim := fun t => (.done, duringLaunches (fun _ => true) deviceRestart t)) hpin
        hcount hnext hturn (Pacing.isCommand_of_ofCode hcmd) (hfull ▸ Pacing.privilegeFailure_full hcmd) rfl
    refine ⟨?_, fun h => Management.commitInv_agentInvariant.keeps_chargeLaunches flights (commitInv_taken hnext h)⟩
    rw [hrun, duringLaunches]
    dsimp only
    rw [foldl_endLaunch_drained (drained_deviceRestart _)]
    rfl
  case right =>
    intro s h u
    have hparts : u = _ := deviceRestart_parts h
    refine ⟨congrArg State.requests hparts, congrArg State.budget hparts, congrArg State.spacing hparts,
      congrArg State.freeBuffers hparts, congrArg State.reports hparts, congrArg State.record hparts,
      congrArg State.trunkCommitPending hparts, (congrArg State.paceCount hparts :), (congrArg State.trunkUp hparts :),
      congrArg State.barred hparts, congrArg State.owedVoid hparts, congrArg State.commitAnswer hparts,
      (congrArg State.lastServed hparts :), fun g => ⟨?waiting, ?free⟩, entry_deviceRestart h, fun l => ?lane, fun i => ?stream,
      fun d hp hd => ?applied, fun hp => ?unapplied, fun x => ?port⟩
    case waiting => exact (congrArg (fun t : State => t.waiting.read g) hparts :).trans (Table.read_const _ _)
    case free => exact (congrArg (fun t : State => t.freeLanes.read g) hparts :).trans (Table.read_const _ _)
    case applied =>
      have hparams : u.params = paramsAfter s := congrArg State.params hparts
      have hstaged : u.stagedParams = stagedAfter s := congrArg State.stagedParams hparts
      simp [hparams, hstaged, paramsAfter, stagedAfter, hp, hd]
    case unapplied =>
      have hparams : u.params = paramsAfter s := congrArg State.params hparts
      have hstaged : u.stagedParams = stagedAfter s := congrArg State.stagedParams hparts
      simp [hparams, hstaged, paramsAfter, stagedAfter, hp]
    case lane =>
      intro r out
      have hlane : u.lane l = laneAfter s.trunkUp r := lane_deviceRestart h l
      obtain ⟨hholder, hlaunching, hpending, hpaused, hhold, hanswer⟩ := laneAfter_cleared s.trunkUp r
      rw [hlane]
      exact ⟨state_laneAfter _ r, hholder, hlaunching, hpending, hpaused, hhold, hanswer, tag_laneAfter _ r,
        laneAfter_kept _ r⟩
    case stream =>
      intro r r'
      have hstream : r' = streamAfter s.paceCount s.params.settleInterval r := stream_deviceRestart s i
      cases hp : r.commitPending with
      | false =>
        rw [hstream, streamAfter_kept (.inl hp)]
        exact ⟨rfl, rfl, rfl, rfl, hp, rfl, rfl, rfl, rfl, rfl, rfl, rfl, rfl, rfl, fun _ => ⟨rfl, rfl, rfl, rfl, rfl⟩,
          nofun⟩
      | true =>
        obtain ⟨-, -, -, himage, -⟩ := h
        obtain ⟨m, hm⟩ := Option.isSome_iff_exists.1 (himage i hp)
        rw [hstream, streamAfter_applied hp hm]
        refine ⟨rfl, rfl, Nat.zero_min _, rfl, rfl, rfl, rfl, rfl, rfl, rfl, rfl, rfl, rfl, ?_, nofun, fun m' _ hm' => ?_⟩
        · exact ite_eq_right_iff.2 fun hreload => hreload.symm
        · obtain rfl : m = m' := Option.some.inj (hm.symm.trans hm')
          exact ⟨rfl, rfl, rfl, rfl, rfl⟩
    case port =>
      obtain ⟨responses, reserved, hkept⟩ := port_deviceRestart_kept h x
      have hport : u.port x = _ := hkept
      refine ⟨by rw [hport]; rfl, by rw [hport]; rfl, by rw [hport]; rfl, by rw [hport]; rfl, by rw [hport]; rfl,
        fun c hc hx => ?_, fun hx => ?_⟩
      · subst hx
        have hanswered : u.port c.port = _ := port_deviceRestart_answered h hc
        have hfinal : finalAnswer (swept s) c = _ := finalAnswer_eq (commitInv_swept h) ((record_swept s).trans hc)
        rw [hanswered, hfinal]
        exact ⟨rfl, rfl⟩
      · have hother : u.port x = _ := port_deviceRestart_other h hx
        rw [hother]
        exact ⟨rfl, rfl⟩

end Sys2Proof.Proofs.Restart

/-! The claims of a lost lane, and what follows them: what they keep of lanes, of entries and of streams. -/

namespace Sys2Proof.Proofs.Losses

open Sys2Proof Sys2Proof.Machine

/-! ### What the arbiter and the judgements of lanes keep -/

/-- A predicate of the lanes, the free-lane lists and the held lanes that a judgement of a lane and the grant of a free
one respect. -/
structure BindingRules (P : State → Prop) : Prop where
  frame : ∀ {s t : State}, P s → t.lanes = s.lanes → t.freeLanes = s.freeLanes →
    (∀ i, (t.stream i).heldLane = (s.stream i).heldLane) → P t
  judged : ∀ {s : State} (l : LaneNo), P s → P (judgeLane l s)
  granted : ∀ {s : State} {e : RequestEntry} {l : LaneNo} {rest : List LaneNo},
    s.freeLanes.read e.group = l :: rest → P s → P (grantBind e l rest s)

namespace BindingRules

variable {P : State → Prop} (h : BindingRules P) {s : State}
include h

theorem keeps_rest {t : State} (hs : P s) (hl : t.lanes = s.lanes) (hf : t.freeLanes = s.freeLanes)
    (hr : t.streams = s.streams) : P t :=
  h.frame hs hl hf fun i => by rw [State.stream, hr, State.stream]

theorem keeps_modStream (i : StreamNo) {f : StreamRec → StreamRec} (hf : ∀ r, (f r).heldLane = r.heldLane)
    (hs : P s) : P (s.modStream i f) :=
  h.frame hs rfl rfl (stream_modStream_keeps s StreamRec.heldLane hf i)

/-! #### The arbiter -/

theorem keeps_removeEntry (i : StreamNo) (hs : P s) : P (removeEntry i s) :=
  h.keeps_rest hs (Holding.removeEntry_lanes i s) (Arbiter.removeEntry_keeps i s).1 (Holding.removeEntry_streams i s)

theorem keeps_judgeGroup (g : GroupNo) (hs : P s) : P (judgeGroup g s) :=
  Arbiter.ClaimInvariant.keeps_foldl (fun _ l => h.judged l) _ hs

theorem keeps_indicateNotWaiting (g : GroupNo) (hs : P s) : P (indicateNotWaiting g s) := by
  rw [Arbiter.indicateNotWaiting_eq]
  exact h.keeps_rest hs rfl rfl rfl

theorem keeps_dropTurn (hs : P s) : P s.dropTurn := h.keeps_rest hs rfl rfl rfl

theorem keeps_joinList (e : RequestEntry) (hs : P s) : P (joinList e s) := by
  unfold joinList
  dsimp only
  split
  · exact h.keeps_judgeGroup _ (h.keeps_rest hs rfl rfl rfl)
  · exact h.keeps_rest hs rfl rfl rfl

theorem keeps_afterGrant (g : GroupNo) (hs : P s) : P (afterGrant g s) := by
  unfold afterGrant
  dsimp only [takeTurn_eq]
  split
  · split
    · exact h.keeps_judgeGroup g hs
    · split
      · exact h.keeps_indicateNotWaiting g (h.keeps_judgeGroup g (h.keeps_dropTurn hs))
      · exact h.keeps_judgeGroup g (h.keeps_indicateNotWaiting g (h.keeps_dropTurn hs))
  · exact h.keeps_indicateNotWaiting g hs

theorem keeps_takeClaim (e : RequestEntry) (marked : List GroupNo) (hs : P s) : P (takeClaim e marked s).2 := by
  cases hf : s.freeLanes.read e.group with
  | nil => rwa [takeClaim_refused hf]
  | cons l rest =>
    rw [takeClaim_granted hf]
    exact h.keeps_afterGrant _ (h.granted hf hs)

theorem keeps_passLoop (n : Nat) (marked : List GroupNo) (hs : P s) : P (passLoop n marked s) := by
  induction n generalizing s marked with
  | zero => exact hs
  | succ n ih =>
    unfold passLoop
    split
    · exact hs
    · split
      · exact hs
      · split
        · exact ih _ (h.keeps_removeEntry _ hs)
        · exact ih _ (h.keeps_takeClaim _ _ hs)

theorem keeps_callPass (hs : P s) : P (callPass s) := by
  cases ht : s.turn with
  | true => rw [callPass_later ht]; exact h.keeps_dropTurn hs
  | false => rw [callPass_now ht]; exact h.keeps_passLoop _ _ (h.keeps_dropTurn hs)

theorem keeps_notify (kind : NotifyKind) (i : StreamNo) (hs : P s) : P (notify kind i s) := by
  have hsettled : P (s.modStream i (settleKeptTime kind s.paceCount)) :=
    h.keeps_modStream i (fun r => congrArg Lives.Facet.heldLane (Lives.settleKeptTime_facet kind _ r)) hs
  unfold notify
  dsimp only
  split
  · split
    · exact h.keeps_rest hsettled rfl rfl rfl
    · exact h.keeps_removeEntry i hsettled
  · split
    · exact h.keeps_callPass (h.keeps_joinList _ hsettled)
    · exact hsettled

theorem keeps_demandChanged (i : StreamNo) (hs : P s) : P (demandChanged i s) := by
  unfold demandChanged judgeHeld
  split
  · exact h.judged _ (h.keeps_notify _ i hs)
  · exact h.keeps_notify _ i hs

/-! #### The stream table and the commit unit -/

theorem keeps_changePacing (i : StreamNo) {f : StreamRec → StreamRec} (hf : ∀ r, (f r).heldLane = r.heldLane)
    (hs : P s) : P (changePacing i f s) := by
  unfold changePacing
  dsimp only
  split
  · exact h.keeps_demandChanged i (h.keeps_modStream i hf hs)
  · exact h.keeps_modStream i hf hs

theorem keeps_flush (i : StreamNo) (hs : P s) : P (flush i s) := by
  unfold flush
  dsimp only
  split
  · exact hs
  · exact h.keeps_demandChanged i (h.keeps_modStream i (f := Lives.flushed) (fun _ => rfl)
      (h.keeps_rest hs rfl rfl rfl))

theorem keeps_enterClosed (i : StreamNo) (hs : P s) : P (enterClosed i s) :=
  h.keeps_demandChanged i (h.keeps_removeEntry i (h.keeps_flush i (h.keeps_changePacing i (f := closePacing)
    (fun _ => rfl) (h.keeps_modStream i (f := fun r => { r with life := .closed }) (fun _ => rfl) hs))))

theorem keeps_judgeDrain (i : StreamNo) (hs : P s) : P (judgeDrain i s) := by
  unfold judgeDrain
  split
  · exact h.keeps_enterClosed i hs
  · exact hs

theorem keeps_takeCommitAnswer (hs : P s) : P (takeCommitAnswer s) := by
  unfold takeCommitAnswer
  split
  · dsimp only
    split <;> exact h.keeps_rest hs rfl rfl rfl
  · exact hs

theorem keeps_judgeCompletion (hs : P s) : P (judgeCompletion s) := by
  unfold judgeCompletion
  split
  · split
    · exact h.keeps_takeCommitAnswer (h.keeps_rest hs rfl rfl rfl)
    · exact hs
  · exact hs

theorem keeps_commitLoss (i : StreamNo) (hs : P s) : P (commitLoss i s) := by
  unfold commitLoss
  dsimp only
  split
  · next img _ _ =>
    have happlied := h.keeps_modStream (s := s) i
      (f := StreamRec.applyImage s.paceCount s.params.settleInterval img) (fun _ => rfl) hs
    exact h.keeps_judgeCompletion (h.keeps_removeEntry i (h.keeps_rest happlied rfl rfl rfl))
  · exact hs

theorem keeps_lossClaims (kind : NotifyKind) (i : StreamNo) (hs : P s) : P (lossClaims kind i s) :=
  h.keeps_notify kind i (h.keeps_commitLoss i (h.keeps_judgeDrain i hs))

theorem keeps_judgeDevicePart (hs : P s) : P (judgeDevicePart s) := by
  unfold judgeDevicePart
  split
  · split
    · exact h.keeps_judgeCompletion (h.keeps_callPass (h.keeps_rest hs rfl rfl rfl))
    · exact hs
  · exact hs

end BindingRules

/-! ### Lanes and streams at a raise -/

section raise
variable {s : State}

theorem raiseReportLost_lanes (s : State) : (raiseReportLost s).lanes = s.lanes := by
  unfold raiseReportLost
  split
  · rfl
  · dsimp only
    split <;> rfl

/-- A raise at a stream or at the device changes no lane. -/
theorem raise_lanes {pt : CausePoint} (h : ∀ l c, pt ≠ .lane l c) (s : State) : (raise pt s).lanes = s.lanes := by
  have hset (t : State) (e : Option NoticeEntry) : (t.setEntry pt e).lanes = t.lanes := by
    cases pt with
    | lane l c => exact absurd rfl (h l c)
    | _ => rfl
  have hcreate (t : State) : (createEntry pt t).lanes = t.lanes := hset t _
  unfold raise
  split
  · exact raiseReportLost_lanes s
  · unfold raiseOrdinary
    split
    · exact hset s _
    · dsimp only
      split
      · split
        · exact hcreate s
        · exact (raiseReportLost_lanes _).trans (hcreate s)
      · exact hcreate s

theorem heldLane_raise (pt : CausePoint) (s : State) (i : StreamNo) :
    ((raise pt s).stream i).heldLane = (s.stream i).heldLane :=
  (congrArg StreamRec.heldLane (stream_of_sansNotices (raise_sansNotices s pt) i) :)

theorem freeLanes_raise (pt : CausePoint) (s : State) : (raise pt s).freeLanes = s.freeLanes :=
  freeLanes_of_sansNotices (raise_sansNotices s pt)

/-- What the binding rules keep, a raise at a stream keeps. -/
theorem BindingRules.keeps_raise {P : State → Prop} (h : BindingRules P) (i : StreamNo) (c : StreamCause) (hs : P s) :
    P (raise (.stream i c) s) :=
  h.frame hs (raise_lanes (by simp) s) (freeLanes_raise _ s) (heldLane_raise _ s)

end raise

/-! ### What the claims keep beside lanes and streams -/

/-- The parts of a state that the claims of a loss do not reach. -/
def ambient (s : State) : Bool × Bool × PaceCount × Bool × DeviceParams × Option DeviceParams × Bool :=
  (s.resetPin, s.uncounted, s.paceCount, s.trunkUp, s.params, s.stagedParams, s.trunkCommitPending)

/-- Two states with the same entries in their notice sets and the same ambient parts. -/
structure SameRest (t s : State) : Prop where
  ambient : ambient t = ambient s
  entry : ∀ pt, t.entry pt = s.entry pt

namespace SameRest

variable {s t u : State}

theorem refl (s : State) : SameRest s s := ⟨rfl, fun _ => rfl⟩

theorem trans (h : SameRest u t) (h' : SameRest t s) : SameRest u s :=
  ⟨h.ambient.trans h'.ambient, fun pt => (h.entry pt).trans (h'.entry pt)⟩

theorem of_sansBinding (h : t.sansBinding = s.sansBinding) : SameRest t s :=
  ⟨(congrArg Losses.ambient h :), entry_of_sansBinding h⟩

/-- A change of one stream outside its notice set. -/
theorem modStream (s : State) (i : StreamNo) {f : StreamRec → StreamRec} (hf : ∀ r, (f r).notices = r.notices) :
    SameRest (s.modStream i f) s where
  ambient := rfl
  entry pt := by
    cases pt with
    | stream j c => exact congrArg (fun n : NoticeSet 6 => n.read c.bit) (stream_modStream_keeps s _ hf i j)
    | _ => rfl

/-- A change of one lane outside its notice set. -/
theorem modLane (s : State) (l : LaneNo) {f : LaneRec → LaneRec} (hf : ∀ r, (f r).notices = r.notices) :
    SameRest (s.modLane l f) s where
  ambient := rfl
  entry pt := by
    cases pt with
    | lane k c => exact congrArg (fun n : NoticeSet 4 => n.read c.bit) (lane_modLane_keeps s LaneRec.notices hf l k)
    | _ => rfl

/-- A change of one port outside its notice set. -/
theorem modPort (s : State) (p : PortNo) {f : PortRec → PortRec} (hf : ∀ r, (f r).notices = r.notices) :
    SameRest (s.modPort p f) s where
  ambient := rfl
  entry pt := by
    cases pt with
    | port x c => exact congrArg (fun n : NoticeSet 6 => n.read c.bit) (port_modPort_keeps s _ hf p x)
    | _ => rfl

theorem paceCount (h : SameRest t s) : t.paceCount = s.paceCount := congrArg (fun a => a.2.2.1) h.ambient
theorem trunkUp (h : SameRest t s) : t.trunkUp = s.trunkUp := congrArg (fun a => a.2.2.2.1) h.ambient
theorem params (h : SameRest t s) : t.params = s.params := congrArg (fun a => a.2.2.2.2.1) h.ambient
theorem stagedParams (h : SameRest t s) : t.stagedParams = s.stagedParams :=
  congrArg (fun a => a.2.2.2.2.2.1) h.ambient
theorem trunkCommitPending (h : SameRest t s) : t.trunkCommitPending = s.trunkCommitPending :=
  congrArg (fun a => a.2.2.2.2.2.2) h.ambient

end SameRest

section rest
variable (s : State)

theorem ambient_raise (pt : CausePoint) : ambient (raise pt s) = ambient s :=
  (congrArg ambient (raise_sansNotices s pt) :)

theorem sameRest_takeCommitAnswer : SameRest (takeCommitAnswer s) s := by
  unfold takeCommitAnswer
  split
  · dsimp only
    split
    · refine SameRest.trans (t := releaseReserved _ s) ⟨rfl, fun pt => by cases pt <;> rfl⟩ ?_
      exact SameRest.modPort s _ fun _ => rfl
    · refine SameRest.trans (t := placeReserved _ _ s) ⟨rfl, fun pt => by cases pt <;> rfl⟩ ?_
      exact SameRest.modPort s _ fun _ => rfl
  · exact .refl s

theorem sameRest_judgeCompletion : SameRest (judgeCompletion s) s := by
  unfold judgeCompletion
  split
  · split
    · exact (sameRest_takeCommitAnswer _).trans ⟨rfl, fun pt => by cases pt <;> rfl⟩
    · exact .refl s
  · exact .refl s

theorem takeCommitAnswer_streams : (takeCommitAnswer s).streams = s.streams := by
  unfold takeCommitAnswer
  split
  · dsimp only
    split <;> rfl
  · rfl

theorem judgeCompletion_streams : (judgeCompletion s).streams = s.streams := by
  unfold judgeCompletion
  split
  · split
    · exact takeCommitAnswer_streams _
    · rfl
  · rfl

theorem takeCommitAnswer_freeBuffers : (takeCommitAnswer s).freeBuffers = s.freeBuffers := by
  unfold takeCommitAnswer
  split
  · dsimp only
    split <;> rfl
  · rfl

theorem judgeCompletion_freeBuffers : (judgeCompletion s).freeBuffers = s.freeBuffers := by
  unfold judgeCompletion
  split
  · split
    · exact takeCommitAnswer_freeBuffers _
    · rfl
  · rfl

end rest

/-! ### The commit unit's claim (R122) -/

section commitLoss
variable {s : State} {i : StreamNo}

/-- A stream as the commit unit's claim of a loss leaves it: a waiting image is applied. -/
def imaged (s : State) (r : StreamRec) : StreamRec := restartImage s.paceCount s.params.settleInterval r

/-- The claim: a waiting image is applied, and the record judged. -/
theorem commitLoss_cases (i : StreamNo) (s : State) :
    (commitLoss i s = s ∧ imaged s (s.stream i) = s.stream i)
      ∨ ∃ m f, imaged s (s.stream i) = (s.stream i).applyImage s.paceCount s.params.settleInterval m
        ∧ commitLoss i s = judgeCompletion (removeEntry i (modRecord f (Staging.imageApplied i m s))) := by
  cases hp : (s.stream i).commitPending with
  | false => exact .inl ⟨Staging.commitLoss_idle (.inl hp), by simp [imaged, restartImage, hp]⟩
  | true =>
    cases hm : (s.stream i).staged with
    | none => exact .inl ⟨Staging.commitLoss_idle (.inr hm), by simp [imaged, restartImage, hm]⟩
    | some m => exact .inr ⟨m, _, by simp [imaged, restartImage, hp, hm], Staging.commitLoss_pending hp hm⟩

theorem sameRest_commitLoss (i : StreamNo) (s : State) : SameRest (commitLoss i s) s := by
  obtain ⟨h, -⟩ | ⟨m, f, -, h⟩ := commitLoss_cases i s
  · rw [h]
    exact .refl s
  · rw [h]
    refine (sameRest_judgeCompletion _).trans ((SameRest.of_sansBinding (removeEntry_sansBinding _ i)).trans ?_)
    refine SameRest.trans (t := Staging.imageApplied i m s) ⟨rfl, fun pt => by cases pt <;> rfl⟩ ?_
    exact SameRest.modStream s i fun _ => rfl

theorem freeBuffers_commitLoss (i : StreamNo) (s : State) : (commitLoss i s).freeBuffers = s.freeBuffers := by
  obtain ⟨h, -⟩ | ⟨m, f, -, h⟩ := commitLoss_cases i s
  · rw [h]
  · rw [h, judgeCompletion_freeBuffers, Closing.freeBuffers_removeEntry]
    rfl

theorem stream_commitLoss (i j : StreamNo) (s : State) :
    (commitLoss i s).stream j = if i = j then imaged s (s.stream i) else s.stream j := by
  obtain ⟨h, hi⟩ | ⟨m, f, hi, h⟩ := commitLoss_cases i s
  · rw [h, hi]
    split
    · next hij => rw [hij]
    · rfl
  · have hstreams : (commitLoss i s).stream j = (Staging.imageApplied i m s).stream j := by
      rw [h, State.stream, judgeCompletion_streams, Holding.removeEntry_streams]
      rfl
    rw [hstreams, Staging.imageApplied, stream_modStream, hi]

end commitLoss

/-! ### The report to the commit unit (R123) -/

section devicePart
variable {s : State}

theorem stream_judgeDevicePart (s : State) (i : StreamNo) :
    ((judgeDevicePart s).stream i).sansBinding = (s.stream i).sansBinding := by
  unfold judgeDevicePart
  split
  · next d _ =>
    split
    · have hpass := stream_of_sansBinding (callPass_sansBinding (applyDevice d s)) i
      rw [State.stream, judgeCompletion_streams]
      exact hpass
    · rfl
  · rfl

theorem entry_judgeDevicePart (s : State) (pt : CausePoint) : (judgeDevicePart s).entry pt = s.entry pt := by
  unfold judgeDevicePart
  split
  · next d _ =>
    split
    · rw [(sameRest_judgeCompletion _).entry, entry_of_sansBinding (callPass_sansBinding _)]
      cases pt <;> rfl
    · rfl
  · rfl

theorem freeBuffers_judgeDevicePart (s : State) : (judgeDevicePart s).freeBuffers = s.freeBuffers := by
  unfold judgeDevicePart
  split
  · next d _ =>
    split
    · refine (judgeCompletion_freeBuffers _).trans ?_
      exact (freeBuffers_of_sansBinding (callPass_sansBinding (applyDevice d s)) :)
    · rfl
  · rfl

theorem trunkUp_judgeDevicePart (s : State) : (judgeDevicePart s).trunkUp = s.trunkUp := by
  unfold judgeDevicePart
  split
  · next d _ =>
    split
    · refine (sameRest_judgeCompletion _).trunkUp.trans ?_
      exact (trunkUp_of_sansBinding (callPass_sansBinding (applyDevice d s)) :)
    · rfl
  · rfl

end devicePart

/-! ### The stream table's claim (R13) -/

section drain
variable {s : State} {i : StreamNo}

/-- A stream as the stream table's claim of a loss leaves it: a complete drain is CLOSED. -/
def drainedOf (r : StreamRec) : StreamRec := if r.drainComplete then Lives.closed r else r

theorem sameRest_closedAt (i : StreamNo) (s : State) : SameRest (Closing.closedAt i s) s := by
  refine (SameRest.of_sansBinding (Closing.sansBinding_closed i s)).trans ?_
  exact SameRest.trans (SameRest.modStream _ i fun _ => rfl) ⟨rfl, fun pt => by cases pt <;> rfl⟩

theorem stream_closedAt (i j : StreamNo) (s : State) :
    ((Closing.closedAt i s).stream j).sansBinding =
      if i = j then (Lives.closed (s.stream i)).sansBinding else (s.stream j).sansBinding := by
  refine (stream_of_sansBinding (Closing.sansBinding_closed i s) j).trans ?_
  rw [stream_modStream]
  exact apply_ite StreamRec.sansBinding _ _ _

theorem freeBuffers_closedAt (i : StreamNo) (s : State) :
    (Closing.closedAt i s).freeBuffers = s.freeBuffers + (s.stream i).queue.length :=
  freeBuffers_of_sansBinding (Closing.sansBinding_closed i s)

theorem judgeDrain_cases (i : StreamNo) (s : State) :
    ((s.stream i).drainComplete = true ∧ judgeDrain i s = Closing.closedAt i s)
      ∨ ((s.stream i).drainComplete = false ∧ judgeDrain i s = s) := by
  cases h : (s.stream i).drainComplete with
  | true => exact .inl ⟨rfl, Closing.judgeDrain_complete h⟩
  | false => exact .inr ⟨rfl, Closing.judgeDrain_idle (by simp [h])⟩

theorem sameRest_judgeDrain (i : StreamNo) (s : State) : SameRest (judgeDrain i s) s := by
  obtain ⟨-, h⟩ | ⟨-, h⟩ := judgeDrain_cases i s
  · rw [h]
    exact sameRest_closedAt i s
  · rw [h]
    exact .refl s

theorem stream_judgeDrain (i j : StreamNo) (s : State) :
    ((judgeDrain i s).stream j).sansBinding =
      if i = j then (drainedOf (s.stream i)).sansBinding else (s.stream j).sansBinding := by
  obtain ⟨hd, h⟩ | ⟨hd, h⟩ := judgeDrain_cases i s
  · rw [h, stream_closedAt, drainedOf, if_pos hd]
  · rw [h, drainedOf, hd, if_neg Bool.false_ne_true]
    split
    · next hij => rw [hij]
    · rfl

end drain

end Sys2Proof.Proofs.Losses

/-! A matching BIND-ACK REFUSE: the lane from its hand-back on, and the stream that loses it. -/

namespace Sys2Proof.Proofs.Refusal

open Sys2Proof Sys2Proof.Machine

/-! ### The lane that has been handed back -/

/-- A lane that has been handed back stands as it was left: FREE in its group's list, or DISABLED, and no stream holds
it. -/
structure Parked (l : LaneNo) (r : LaneRec) (s : State) : Prop where
  lane : s.lane l = r
  listed : ∀ g, (s.freeLanes.read g).count l = if r.state = .free ∧ r.group = g then 1 else 0
  unheld : ∀ i, (s.stream i).heldLane ≠ some l

/-- A lane that was handed back FREE has begun another bind since (R50, R61). -/
structure Granted (l : LaneNo) (r : LaneRec) (s : State) : Prop where
  free : r.state = .free
  binding : (s.lane l).state = .binding
  tag : (s.lane l).tag = r.tag + 1
  bindsRefused : (s.lane l).bindsRefused = r.bindsRefused
  unlisted : ∀ g, (s.freeLanes.read g).count l = 0

/-- A lane since its hand-back with the record `r`. -/
def HandedBack (l : LaneNo) (r : LaneRec) (s : State) : Prop := Parked l r s ∨ Granted l r s

section handedBack
variable {l : LaneNo} {r : LaneRec} {s t : State}

theorem Parked.frame (h : Parked l r s) (hl : t.lane l = s.lane l) (hf : t.freeLanes = s.freeLanes)
    (hh : ∀ i, (t.stream i).heldLane = (s.stream i).heldLane) : Parked l r t :=
  ⟨hl.trans h.lane, by rw [hf]; exact h.listed, fun i => by rw [hh]; exact h.unheld i⟩

theorem Granted.frame (h : Granted l r s) (hl : t.lane l = s.lane l) (hf : t.freeLanes = s.freeLanes) :
    Granted l r t :=
  ⟨h.free, by rw [hl]; exact h.binding, by rw [hl]; exact h.tag, by rw [hl]; exact h.bindsRefused,
    by rw [hf]; exact h.unlisted⟩

theorem HandedBack.frame (h : HandedBack l r s) (hl : t.lane l = s.lane l) (hf : t.freeLanes = s.freeLanes)
    (hh : ∀ i, (t.stream i).heldLane = (s.stream i).heldLane) : HandedBack l r t :=
  h.imp (·.frame hl hf hh) (·.frame hl hf)

theorem HandedBack.ne_bound (h : HandedBack l r s) (hr : r.state ≠ .bound) : (s.lane l).state ≠ .bound := by
  obtain h | h := h
  · rwa [h.lane]
  · rw [h.binding]
    nofun

/-- A judgement reaches neither a FREE lane nor one in a handshake (R92). -/
theorem HandedBack.judged (h : HandedBack l r s) (hr : r.state ≠ .bound) (k : LaneNo) :
    HandedBack l r (judgeLane k s) := by
  refine h.frame ?_ (Holding.judgeLane_freeLanes k s) fun i => by rw [Closing.stream_judgeLane]
  by_cases hk : k = l
  · subst hk
    rw [Holding.judgeLane_idle (h.ne_bound hr)]
  · exact Holding.lane_judgeLane_ne hk

section grant
variable {e : RequestEntry} {k : LaneNo} {rest : List LaneNo}

theorem lane_grantBind_same (e : RequestEntry) (l : LaneNo) (rest : List LaneNo) (s : State) :
    (grantBind e l rest s).lane l =
      { (s.lane l).begin .bind .binding e.stream with holder := some e.stream } :=
  lane_modLane_same (s.setFree e.group rest) l fun r =>
    { r.begin .bind .binding e.stream with holder := some e.stream }

theorem lane_grantBind_ne (hk : k ≠ l) : (grantBind e k rest s).lane l = s.lane l :=
  lane_modLane_ne (s.setFree e.group rest) hk fun r =>
    { r.begin .bind .binding e.stream with holder := some e.stream }

theorem heldLane_grantBind (e : RequestEntry) (k : LaneNo) (rest : List LaneNo) (s : State) (i : StreamNo) :
    ((grantBind e k rest s).stream i).heldLane = if e.stream = i then some k else (s.stream i).heldLane := by
  have hstream : (grantBind e k rest s).stream i =
      (s.modStream e.stream fun r => { r with heldLane := some k, keptTime := some e.time }).stream i := rfl
  rw [hstream, stream_modStream]
  split
  · rfl
  · rfl

theorem count_grantBind (hf : s.freeLanes.read e.group = k :: rest) (g : GroupNo) :
    ((grantBind e k rest s).freeLanes.read g).count l =
      (s.freeLanes.read g).count l - if k = l ∧ e.group = g then 1 else 0 := by
  have hlists : (grantBind e k rest s).freeLanes = s.freeLanes.write e.group rest := rfl
  rw [hlists, Table.read_write]
  split
  · next hg =>
    subst hg
    simp [hf, List.count_cons]
  · next hg => simp [hg]

/-- A grant takes a lane from its list: another one, or the lane itself, which then begins a bind (R50). -/
theorem HandedBack.granted (h : HandedBack l r s) (hf : s.freeLanes.read e.group = k :: rest) :
    HandedBack l r (grantBind e k rest s) := by
  by_cases hk : k = l
  · subst hk
    have hlisted : 1 ≤ (s.freeLanes.read e.group).count k := by rw [hf]; simp
    obtain h | h := h
    · have hfree : r.state = .free ∧ r.group = e.group := by
        by_contra hn
        rw [h.listed, if_neg hn] at hlisted
        omega
      obtain ⟨hfree, hgroup⟩ := hfree
      refine .inr ⟨hfree, ?_, ?_, ?_, fun g => ?_⟩
      · rw [lane_grantBind_same]
        rfl
      · rw [lane_grantBind_same, h.lane]
        rfl
      · rw [lane_grantBind_same, h.lane]
        rfl
      · rw [count_grantBind hf, h.listed]
        simp [hfree, hgroup]
    · rw [h.unlisted] at hlisted
      omega
  · have hcount (g : GroupNo) : ((grantBind e k rest s).freeLanes.read g).count l = (s.freeLanes.read g).count l := by
      rw [count_grantBind hf, if_neg fun hg => hk hg.1, Nat.sub_zero]
    obtain h | h := h
    · refine .inl ⟨(lane_grantBind_ne hk).trans h.lane, fun g => (hcount g).trans (h.listed g), fun i => ?_⟩
      rw [heldLane_grantBind]
      split
      · exact fun he => hk (Option.some.inj he)
      · exact h.unheld i
    · exact .inr ⟨h.free, by rw [lane_grantBind_ne hk]; exact h.binding, by rw [lane_grantBind_ne hk]; exact h.tag,
        by rw [lane_grantBind_ne hk]; exact h.bindsRefused, fun g => (hcount g).trans (h.unlisted g)⟩

end grant

theorem handedBack_bindingRules (hr : r.state ≠ .bound) : Losses.BindingRules (HandedBack l r) where
  frame hs hl hf hh := hs.frame (by rw [State.lane, hl, State.lane]) hf hh
  judged k hs := hs.judged hr k
  granted hf hs := hs.granted hf

end handedBack

/-! ### The bind-refused claim (R14 to R16) -/

section claim
variable {s : State} {i : StreamNo}

/-- The refusal reaches the stream's limit (R15). -/
def atLimit (limit : Nat) (r : StreamRec) : Bool := r.countsRefusals && limit ≤ r.refusals + 1

/-- A stream as the bind-refused claim leaves it, its notice set aside (R14 to R16). -/
def refusedOf (limit : Nat) (r : StreamRec) : StreamRec :=
  if r.countsRefusals then
    let r' := { r with refusals := r.refusals + 1 }
    if limit ≤ r.refusals + 1 then if r.life = .opened then { r' with life := .held } else Lives.closed r' else r'
  else r

theorem countsRefusals_iff (r : StreamRec) :
    r.countsRefusals = true ↔ r.life = .opened ∨ r.life = .draining .plain := by
  simp [StreamRec.countsRefusals]

/-- The refusal is counted on the stream. -/
def counted (i : StreamNo) (s : State) : State := s.modStream i fun r => { r with refusals := r.refusals + 1 }

theorem bindRefused_uncounted (h : (s.stream i).countsRefusals = false) : bindRefused i s = s := by
  simp [bindRefused, h]

theorem bindRefused_below (h : (s.stream i).countsRefusals = true)
    (hl : ¬ s.params.refusalLimit ≤ (s.stream i).refusals + 1) : bindRefused i s = counted i s := by
  simp [bindRefused, h, counted, hl]

theorem bindRefused_opened (h : (s.stream i).life = .opened) (hl : s.params.refusalLimit ≤ (s.stream i).refusals + 1) :
    bindRefused i s =
      demandChanged i (raise (.stream i .held) ((counted i s).modStream i fun r => { r with life := .held })) := by
  simp [bindRefused, countsRefusals_iff, h, counted, hl, refusalLimitReached]

theorem bindRefused_draining (h : (s.stream i).life = .draining .plain)
    (hl : s.params.refusalLimit ≤ (s.stream i).refusals + 1) (hn : (s.stream i).heldLane = none) :
    bindRefused i s = Closing.closedAt i (raise (.stream i .held) (counted i s)) := by
  have hheld : ((raise (.stream i .held) (counted i s)).stream i).heldLane = none := by
    rw [Losses.heldLane_raise, counted, stream_modStream_same]
    exact hn
  rw [Closing.closedAt, ← Closing.enterClosed_flush hheld]
  simp [bindRefused, countsRefusals_iff, h, hl, refusalLimitReached, counted]

/-- What the statement says of a stream that has lost its lane. -/
def gist (r : StreamRec) : Life × Nat × List TrafficCell := (r.life, r.refusals, r.queue)

theorem gist_of_sansBinding {r r' : StreamRec} (h : r.sansBinding = r'.sansBinding) : gist r = gist r' :=
  (congrArg gist h :)

theorem credit_of_sansBinding {r r' : StreamRec} (h : r.sansBinding = r'.sansBinding) : r.credit = r'.credit :=
  (congrArg StreamRec.credit h :)

theorem gist_raise (pt : CausePoint) (s : State) (i : StreamNo) : gist ((raise pt s).stream i) = gist (s.stream i) :=
  (congrArg gist (stream_of_sansNotices (raise_sansNotices s pt) i) :)

theorem gist_imaged (s : State) (r : StreamRec) : gist (Losses.imaged s r) = gist r := by
  unfold Losses.imaged restartImage
  split <;> rfl

theorem gist_judgeDrain (i : StreamNo) (s : State) :
    gist ((judgeDrain i s).stream i) = gist (Losses.drainedOf (s.stream i)) :=
  gist_of_sansBinding ((Losses.stream_judgeDrain i i s).trans (if_pos rfl))

theorem drainComplete_of_gist {r r' : StreamRec} (h : gist r = gist r') (hl : r'.life = .held ∨ r'.life = .closed) :
    r.drainComplete = false := by
  have hlife : r.life = r'.life := congrArg Prod.fst h
  obtain hl | hl := hl <;> simp [StreamRec.drainComplete, hlife, hl]

theorem drainedOf_idle {r : StreamRec} (h : r.life = .held ∨ r.life = .closed) : Losses.drainedOf r = r :=
  if_neg (by simp [drainComplete_of_gist rfl h])

/-- A stream that the claim leaves HELD or CLOSED has no drain left to complete. -/
theorem judgeDrain_ended {r : StreamRec} (h : gist (s.stream i) = gist r) (hl : r.life = .held ∨ r.life = .closed) :
    judgeDrain i s = s := Closing.judgeDrain_idle (by simp [drainComplete_of_gist h hl])

theorem refusedOf_uncounted {limit : Nat} {r : StreamRec} (h : r.countsRefusals = false) : refusedOf limit r = r :=
  if_neg (by simp [h])

theorem refusedOf_below {limit : Nat} {r : StreamRec} (h : r.countsRefusals = true) (hl : ¬ limit ≤ r.refusals + 1) :
    refusedOf limit r = { r with refusals := r.refusals + 1 } := by simp [refusedOf, h, hl]

theorem refusedOf_opened {limit : Nat} {r : StreamRec} (h : r.life = .opened) (hl : limit ≤ r.refusals + 1) :
    refusedOf limit r = { r with refusals := r.refusals + 1, life := .held } := by
  simp [refusedOf, countsRefusals_iff, h, hl]

theorem refusedOf_draining {limit : Nat} {r : StreamRec} (h : r.life = .draining .plain)
    (hl : limit ≤ r.refusals + 1) : refusedOf limit r = Lives.closed { r with refusals := r.refusals + 1 } := by
  simp [refusedOf, countsRefusals_iff, h, hl]

/-- At the limit an OPEN stream becomes HELD (R15). -/
theorem gist_bindRefused_opened (h : (s.stream i).life = .opened)
    (hl : s.params.refusalLimit ≤ (s.stream i).refusals + 1) :
    gist ((bindRefused i s).stream i) = gist (refusedOf s.params.refusalLimit (s.stream i)) := by
  rw [bindRefused_opened h hl, gist_of_sansBinding (stream_of_sansBinding (demandChanged_sansBinding _ i) i),
    gist_raise, stream_modStream_same, counted, stream_modStream_same, refusedOf_opened h hl]

/-- At the limit a plain drain is flushed and CLOSED (R16). -/
theorem gist_bindRefused_draining (h : (s.stream i).life = .draining .plain)
    (hl : s.params.refusalLimit ≤ (s.stream i).refusals + 1) (hn : (s.stream i).heldLane = none) :
    gist ((bindRefused i s).stream i) = gist (refusedOf s.params.refusalLimit (s.stream i)) := by
  have hraised : gist ((raise (.stream i .held) (counted i s)).stream i) =
      gist { s.stream i with refusals := (s.stream i).refusals + 1 } := by
    rw [gist_raise, counted, stream_modStream_same]
  rw [bindRefused_draining h hl hn, gist_of_sansBinding ((Losses.stream_closedAt i i _).trans (if_pos rfl)),
    refusedOf_draining h hl]
  exact congrArg (fun g : Life × Nat × List TrafficCell => (Life.closed, g.2.1, ([] : List TrafficCell))) hraised

/-- The two claims on a stream that holds no lane (R13, R14). -/
theorem gist_claims (hn : (s.stream i).heldLane = none) :
    gist ((judgeDrain i (bindRefused i s)).stream i) =
      gist (Losses.drainedOf (refusedOf s.params.refusalLimit (s.stream i))) := by
  cases hc : (s.stream i).countsRefusals with
  | false => rw [bindRefused_uncounted hc, gist_judgeDrain, refusedOf_uncounted hc]
  | true =>
    by_cases hl : s.params.refusalLimit ≤ (s.stream i).refusals + 1
    case neg => rw [bindRefused_below hc hl, gist_judgeDrain, counted, stream_modStream_same, refusedOf_below hc hl]
    obtain hlife | hlife := (countsRefusals_iff _).1 hc
    · have hheld : (refusedOf s.params.refusalLimit (s.stream i)).life = .held := by rw [refusedOf_opened hlife hl]
      have hgist := gist_bindRefused_opened hlife hl
      rw [judgeDrain_ended hgist (.inl hheld), drainedOf_idle (.inl hheld), hgist]
    · have hclosed : (refusedOf s.params.refusalLimit (s.stream i)).life = .closed := by
        rw [refusedOf_draining hlife hl]
        rfl
      have hgist := gist_bindRefused_draining hlife hl hn
      rw [judgeDrain_ended hgist (.inr hclosed), drainedOf_idle (.inr hclosed), hgist]

theorem sameRest_counted (i : StreamNo) (s : State) : Losses.SameRest (counted i s) s :=
  Losses.SameRest.modStream s i fun _ => rfl

/-- The ambient parts at the bind-refused claim. -/
theorem ambient_bindRefused (hn : (s.stream i).heldLane = none) :
    Losses.ambient (bindRefused i s) = Losses.ambient s := by
  cases hc : (s.stream i).countsRefusals with
  | false => rw [bindRefused_uncounted hc]
  | true =>
    by_cases hl : s.params.refusalLimit ≤ (s.stream i).refusals + 1
    case neg => rw [bindRefused_below hc hl, (sameRest_counted i s).ambient]
    obtain hlife | hlife := (countsRefusals_iff _).1 hc
    · rw [bindRefused_opened hlife hl, (Losses.SameRest.of_sansBinding (demandChanged_sansBinding _ i)).ambient,
        Losses.ambient_raise]
      rfl
    · rw [bindRefused_draining hlife hl hn, (Losses.sameRest_closedAt i _).ambient, Losses.ambient_raise]
      rfl

/-- The claim raises HELD at the limit, and no other time (R15, R16). -/
theorem entry_bindRefused (hn : (s.stream i).heldLane = none) :
    (bindRefused i s).entry (.stream i .held) =
      if atLimit s.params.refusalLimit (s.stream i) = true then
        some (raisedEntry s.paceCount (s.entry (.stream i .held)))
      else s.entry (.stream i .held) := by
  have hlimit {b : Bool} (hc : (s.stream i).countsRefusals = b) :
      atLimit s.params.refusalLimit (s.stream i) =
        (b && decide (s.params.refusalLimit ≤ (s.stream i).refusals + 1)) := by
    rw [atLimit, hc]
  cases hc : (s.stream i).countsRefusals with
  | false =>
    rw [bindRefused_uncounted hc, hlimit hc]
    rfl
  | true =>
    by_cases hl : s.params.refusalLimit ≤ (s.stream i).refusals + 1
    case neg =>
      rw [bindRefused_below hc hl, (sameRest_counted i s).entry, hlimit hc]
      simp [hl]
    have hentry (t : State) (ht : Losses.SameRest t s) : (raise (.stream i .held) t).entry (.stream i .held) =
        some (raisedEntry s.paceCount (s.entry (.stream i .held))) := by
      rw [entry_raise_same, ht.entry, ht.paceCount]
    rw [hlimit hc, if_pos (by simp [hl])]
    obtain hlife | hlife := (countsRefusals_iff _).1 hc
    · rw [bindRefused_opened hlife hl, entry_of_sansBinding (demandChanged_sansBinding _ i)]
      exact hentry _ ((Losses.SameRest.modStream _ i (f := fun r => { r with life := .held }) fun _ => rfl).trans
        (sameRest_counted i s))
    · rw [bindRefused_draining hlife hl hn, (Losses.sameRest_closedAt i _).entry]
      exact hentry _ (sameRest_counted i s)

/-- At the limit a plain drain gives its buffers back and loses its credit (R9, R16). -/
theorem claims_draining (h : (s.stream i).life = .draining .plain)
    (hl : s.params.refusalLimit ≤ (s.stream i).refusals + 1) (hn : (s.stream i).heldLane = none) :
    ((judgeDrain i (bindRefused i s)).stream i).credit = 0
      ∧ (judgeDrain i (bindRefused i s)).freeBuffers = s.freeBuffers + (s.stream i).queue.length := by
  have hclosed : (refusedOf s.params.refusalLimit (s.stream i)).life = .closed := by
    rw [refusedOf_draining h hl]
    rfl
  rw [judgeDrain_ended (gist_bindRefused_draining h hl hn) (.inr hclosed), bindRefused_draining h hl hn]
  have hstream := (Losses.stream_closedAt i i (raise (.stream i .held) (counted i s))).trans (if_pos rfl)
  refine ⟨(congrArg StreamRec.credit hstream :), ?_⟩
  have hqueue : ((raise (.stream i .held) (counted i s)).stream i).queue = (s.stream i).queue := by
    have hgist := gist_raise (.stream i .held) (counted i s) i
    rw [counted, stream_modStream_same] at hgist
    exact congrArg (fun g => g.2.2) hgist
  rw [Losses.freeBuffers_closedAt, hqueue, freeBuffers_of_sansNotices (raise_sansNotices _ _)]
  rfl

end claim

/-! ### The hand-back (R58, R60, R66, R76) -/

section handBack
variable {s : State} {l : LaneNo} {i : StreamNo}

/-- A lane as its hand-back leaves it. -/
def handedBackOf (g : GroupNo) (r : LaneRec) : LaneRec :=
  if r.disablePending then { r with holder := none, state := .disabled, disablePending := false }
  else { r with holder := none, state := .free, group := g }

theorem handedBackOf_state (g : GroupNo) (r : LaneRec) :
    (handedBackOf g r).state = if r.disablePending = true then .disabled else .free := by
  unfold handedBackOf
  split <;> rfl

theorem lane_clearHolder (l : LaneNo) (i : StreamNo) (s : State) :
    (clearHolder l i s).lane l = { s.lane l with holder := none } :=
  lane_modLane_same s l fun r => { r with holder := none }

theorem handBack_disabled (h : (s.lane l).disablePending = true) :
    handBack l i s = becomeDisabled l (clearHolder l i s) := if_pos (by rw [lane_clearHolder]; exact h)

theorem handBack_freed (h : (s.lane l).disablePending = false) :
    handBack l i s = joinFreeList l (clearHolder l i s) :=
  if_neg (by rw [lane_clearHolder]; exact fun h' => Bool.false_ne_true (h.symm.trans h'))

theorem lane_handBack (l : LaneNo) (i : StreamNo) (s : State) :
    (handBack l i s).lane l = handedBackOf (s.params.groupMap.read l) (s.lane l) := by
  cases h : (s.lane l).disablePending with
  | true =>
    rw [handBack_disabled h, becomeDisabled, lane_modLane_same, lane_clearHolder, handedBackOf, if_pos h]
  | false =>
    rw [handBack_freed h, Lanes.lane_joinFreeList, if_pos rfl, lane_clearHolder, handedBackOf,
      if_neg (by simp [h])]
    rfl

theorem stream_handBack (l : LaneNo) (i j : StreamNo) (s : State) :
    (handBack l i s).stream j = (s.modStream i fun r => { r with heldLane := none }).stream j := by
  cases h : (s.lane l).disablePending with
  | true => rw [handBack_disabled h]; rfl
  | false => rw [handBack_freed h]; rfl

theorem freeLanes_handBack (l : LaneNo) (i : StreamNo) (s : State) (g : GroupNo) :
    ((handBack l i s).freeLanes.read g).count l =
      (s.freeLanes.read g).count l
        + if (s.lane l).disablePending = false ∧ s.params.groupMap.read l = g then 1 else 0 := by
  cases h : (s.lane l).disablePending with
  | true =>
    rw [handBack_disabled h]
    simp [becomeDisabled, clearHolder]
  | false =>
    rw [handBack_freed h]
    simp only [joinFreeList, setFree_freeLanes, Table.read_write, clearHolder, modStream_freeLanes, modLane_freeLanes,
      modStream_params, modLane_params]
    split
    · next hg => simp [hg]
    · next hg => simp [hg]

theorem sameRest_handBack (l : LaneNo) (i : StreamNo) (s : State) : Losses.SameRest (handBack l i s) s := by
  have hcleared : Losses.SameRest (clearHolder l i s) s :=
    (Losses.SameRest.modStream _ i (f := fun r => { r with heldLane := none }) fun _ => rfl).trans
      (Losses.SameRest.modLane s l (f := fun r => { r with holder := none }) fun _ => rfl)
  cases h : (s.lane l).disablePending with
  | true =>
    rw [handBack_disabled h]
    exact (Losses.SameRest.modLane _ l (f := fun r => { r with state := .disabled, disablePending := false })
      fun _ => rfl).trans hcleared
  | false =>
    rw [handBack_freed h]
    have hfreed := Losses.SameRest.modLane (clearHolder l i s) l
      (f := fun r => { r with state := .free, group := (clearHolder l i s).params.groupMap.read l }) fun _ => rfl
    exact Losses.SameRest.trans (t := (clearHolder l i s).modLane l fun r =>
      { r with state := .free, group := (clearHolder l i s).params.groupMap.read l })
      ⟨rfl, fun pt => by cases pt <;> rfl⟩ (hfreed.trans hcleared)

theorem freeBuffers_handBack (l : LaneNo) (i : StreamNo) (s : State) :
    (handBack l i s).freeBuffers = s.freeBuffers := by
  cases h : (s.lane l).disablePending with
  | true => rw [handBack_disabled h]; rfl
  | false => rw [handBack_freed h]; rfl

/-- The lane stands as it is handed back, where it stood in no list and one stream at most held it. -/
theorem parked_handBack (hlist : ∀ g, (s.freeLanes.read g).count l = 0)
    (hheld : ∀ j, (s.stream j).heldLane = some l → i = j) :
    Parked l ((handBack l i s).lane l) (handBack l i s) where
  lane := rfl
  listed g := by
    rw [freeLanes_handBack, hlist, Nat.zero_add, lane_handBack, handedBackOf]
    cases (s.lane l).disablePending <;> simp
  unheld j := by
    rw [stream_handBack, stream_modStream]
    split
    · nofun
    · next hij => exact fun hj => hij (hheld j hj)

end handBack

/-! ### The cell (R64, R66) -/

section matched
variable {s : State} {l : LaneNo} {i : StreamNo}

/-- The lane at a matching refusal: the handshake ends, and the refusal is counted (R66). -/
def refusedLane (r : LaneRec) : LaneRec := { r.endHandshake with failures := 0, bindsRefused := r.bindsRefused + 1 }

/-- The state once the refused lane is handed back. -/
def handed (l : LaneNo) (i : StreamNo) (s : State) : State := handBack l i (s.modLane l refusedLane)

/-- The claims of the refusal and of the loss, in their order. -/
def claimed (l : LaneNo) (i : StreamNo) (s : State) : State :=
  commitLoss i (judgeDrain i (bindRefused i (handed l i s)))

/-- A matching refusal, whole. -/
def refusal (l : LaneNo) (i : StreamNo) (s : State) : State :=
  judgeDevicePart (refusalReports i (!(s.lane l).disablePending) (claimed l i s))

theorem bindRefuseMatched_held (hi : (s.lane l).holder = some i) :
    bindRefuseMatched l (s.modLane l fun r => { r with failures := 0 }) = refusal l i s := by
  have hheld : ({ s.lane l with failures := 0 } : LaneRec).endHandshake.holder = some i := hi
  simp only [bindRefuseMatched, modLane_modLane, lane_modLane_same, hheld]
  rfl

theorem exec_bindAckRefuse {tag : Byte} (hpin : s.resetPin = false) (hcount : s.uncounted = false)
    (hup : s.trunkUp = true) (hl : (s.lane l).aligned = true) (htag : tag = (s.lane l).tag)
    (hout : (s.lane l).outstanding = some .bind) (hi : (s.lane l).holder = some i) :
    exec (.bindAckRefuse l tag) s = .next (refusal l i s) := by
  have hlane := Lanes.lane_passed s l
  have run : exec (.bindAckRefuse l tag) s = _ := Lanes.running_onTrunkCell_up hpin hcount _ hup hl
  rw [run, Lanes.takeAnswer_matching (htag.trans (by rw [hlane])) (by rw [hlane]; exact hout),
    bindRefuseMatched_held hi]

/-! #### The hand-back, and what it leaves -/

theorem handed_eq (l : LaneNo) (i : StreamNo) (s : State) :
    handed l i s =
      let ended :=
        (s.modLane l fun r =>
          { r with
            outstanding := none
            answerDeadline := none
            waitingCell := none
            failures := 0
            bindsRefused := r.bindsRefused + 1
            holder := none }).modStream i fun r => { r with heldLane := none }
      let g := s.params.groupMap.read l
      if (s.lane l).disablePending = true then
        ended.modLane l fun r => { r with state := .disabled, disablePending := false }
      else (ended.modLane l fun r => { r with state := .free, group := g }).setFree g (s.freeLanes.read g ++ [l]) := by
  have hcleared : clearHolder l i (s.modLane l refusedLane) =
      (s.modLane l fun r => { refusedLane r with holder := none }).modStream i
        fun r => { r with heldLane := none } := by
    rw [clearHolder, modLane_modLane]
  have hpending : ((clearHolder l i (s.modLane l refusedLane)).lane l).disablePending = (s.lane l).disablePending := by
    rw [lane_clearHolder, lane_modLane_same]
    rfl
  rw [handed, handBack, Lanes.freeOrDisable_eq hpending, hcleared]
  rfl

theorem stream_handed (l : LaneNo) (i : StreamNo) (s : State) :
    (handed l i s).stream i = { s.stream i with heldLane := none } := by
  rw [handed, stream_handBack, stream_modStream_same]
  rfl

theorem sameRest_handed (l : LaneNo) (i : StreamNo) (s : State) : Losses.SameRest (handed l i s) s :=
  (sameRest_handBack l i _).trans (Losses.SameRest.modLane s l (f := refusedLane) fun _ => rfl)

theorem lane_handed (l : LaneNo) (i : StreamNo) (s : State) :
    (handed l i s).lane l = handedBackOf (s.params.groupMap.read l) (refusedLane (s.lane l)) := by
  rw [handed, lane_handBack, lane_modLane_same]
  rfl

theorem ambient_handed (l : LaneNo) (i : StreamNo) (s : State) :
    Losses.ambient (bindRefused i (handed l i s)) = Losses.ambient s :=
  (ambient_bindRefused (by rw [stream_handed])).trans (sameRest_handed l i s).ambient

/-! #### The stream that loses the lane -/

/-- What the refusal makes of the stream that held the lane, by what the statement says of it. -/
def outcome (limit : Nat) (r : StreamRec) : StreamRec := Losses.drainedOf (refusedOf limit { r with heldLane := none })

theorem stream_refusal (l : LaneNo) (i : StreamNo) (s : State) :
    ((refusal l i s).stream i).sansBinding = ((claimed l i s).stream i).sansBinding := by
  rw [refusal, Losses.stream_judgeDevicePart]
  exact stream_of_sansBinding (refusalReports_sansBinding _ i _) i

theorem gist_refusal (l : LaneNo) (i : StreamNo) (s : State) :
    gist ((refusal l i s).stream i) = gist (outcome s.params.refusalLimit (s.stream i)) := by
  have hlimit : (handed l i s).params.refusalLimit = s.params.refusalLimit := by rw [(sameRest_handed l i s).params]
  rw [gist_of_sansBinding (stream_refusal l i s), claimed, Losses.stream_commitLoss, if_pos rfl, gist_imaged,
    gist_claims (by rw [stream_handed]), stream_handed, hlimit, outcome]

theorem entry_refusal (l : LaneNo) (i : StreamNo) (s : State) :
    (refusal l i s).entry (.stream i .held) =
      if atLimit s.params.refusalLimit (s.stream i) = true then
        some (raisedEntry s.paceCount (s.entry (.stream i .held)))
      else s.entry (.stream i .held) := by
  have hrest := sameRest_handed l i s
  rw [refusal, Losses.entry_judgeDevicePart, entry_of_sansBinding (refusalReports_sansBinding _ i _), claimed,
    (Losses.sameRest_commitLoss i _).entry, (Losses.sameRest_judgeDrain i _).entry,
    entry_bindRefused (by rw [stream_handed]), stream_handed, hrest.params, hrest.paceCount, hrest.entry]
  rfl

theorem imaged_credit_zero {r : StreamRec} (s : State) (h : r.credit = 0) : (Losses.imaged s r).credit = 0 := by
  unfold Losses.imaged restartImage
  split
  · simp [StreamRec.applyImage, h]
  · exact h

/-- At the limit the buffers of a plain drain are free again, and its credit is gone (R9, R16). -/
theorem refusal_draining (h : (s.stream i).life = .draining .plain)
    (hl : s.params.refusalLimit ≤ (s.stream i).refusals + 1) (l : LaneNo) :
    ((refusal l i s).stream i).credit = 0
      ∧ (refusal l i s).freeBuffers = s.freeBuffers + (s.stream i).queue.length := by
  have hstream := stream_handed l i s
  have hclaims := claims_draining (s := handed l i s) (i := i) (by rw [hstream]; exact h)
    (by rw [hstream, (sameRest_handed l i s).params]; exact hl) (by rw [hstream])
  obtain ⟨hcredit, hfree⟩ := hclaims
  constructor
  · rw [credit_of_sansBinding (stream_refusal l i s), claimed, Losses.stream_commitLoss, if_pos rfl]
    exact imaged_credit_zero _ hcredit
  · have hback : (handed l i s).freeBuffers = s.freeBuffers := freeBuffers_handBack l i _
    rw [refusal, Losses.freeBuffers_judgeDevicePart, freeBuffers_of_sansBinding (refusalReports_sansBinding _ i _),
      claimed, Losses.freeBuffers_commitLoss, hfree, hstream, hback]

/-! #### The lane, to the end of the refusal -/

theorem keeps_bindRefused {P : State → Prop} (h : Losses.BindingRules P) (i : StreamNo) {s : State} (hs : P s) :
    P (bindRefused i s) := by
  have hcounted : P (s.modStream i fun r => { r with refusals := r.refusals + 1 }) :=
    h.keeps_modStream i (fun _ => rfl) hs
  unfold bindRefused refusalLimitReached
  split
  · dsimp only
    split
    · split
      · exact h.keeps_demandChanged i (h.keeps_raise i _ (h.keeps_modStream i (fun _ => rfl) hcounted))
      · exact h.keeps_enterClosed i (h.keeps_flush i (h.keeps_raise i _ hcounted))
      all_goals exact hcounted
    · exact hcounted
  · exact hs

theorem keeps_refusalReports {P : State → Prop} (h : Losses.BindingRules P) (i : StreamNo) (joined : Bool) {s : State}
    (hs : P s) : P (refusalReports i joined s) := by
  unfold refusalReports
  dsimp only [takeTurn_eq]
  split
  · split
    · exact h.keeps_notify _ i (h.keeps_callPass (h.keeps_dropTurn hs))
    · exact h.keeps_callPass (h.keeps_notify _ i (h.keeps_dropTurn hs))
  · exact h.keeps_notify _ i hs

theorem handedBack_refusal (hinv : LaneInv s) (hout : (s.lane l).outstanding = some .bind)
    (hi : (s.lane l).holder = some i) :
    HandedBack l (handedBackOf (s.params.groupMap.read l) (refusedLane (s.lane l))) (refusal l i s) := by
  obtain ⟨hcons, hholder, hlist, -⟩ := hinv
  have hfree : (s.lane l).state ≠ .free := fun hf => by
    have hawaits := (hcons l).1
    rw [hout, hf] at hawaits
    exact nomatch hawaits
  have hparked : Parked l ((handed l i s).lane l) (handed l i s) :=
    parked_handBack (fun g => List.count_eq_zero.2 fun hmem => hfree ((hlist g l).1 hmem).1) fun j hj =>
      Option.some.inj (hi.symm.trans ((hholder l j).2 hj))
  have hrules : Losses.BindingRules (HandedBack l ((handed l i s).lane l)) := handedBack_bindingRules <| by
    rw [lane_handed, handedBackOf_state]
    split <;> nofun
  rw [← lane_handed (i := i)]
  exact hrules.keeps_judgeDevicePart (keeps_refusalReports hrules i _ (hrules.keeps_commitLoss i
    (hrules.keeps_judgeDrain i (keeps_bindRefused hrules i (.inl hparked)))))

end matched

/-! ### The outcome, by the stream's life -/

section outcome
variable {limit : Nat} {r : StreamRec}

theorem drainedOf_refusals (r : StreamRec) : (Losses.drainedOf r).refusals = r.refusals := by
  unfold Losses.drainedOf
  split <;> rfl

theorem outcome_refusals (limit : Nat) (r : StreamRec) :
    (outcome limit r).refusals = if r.countsRefusals = true then r.refusals + 1 else r.refusals := by
  rw [outcome, drainedOf_refusals]
  cases h : r.countsRefusals with
  | false => rw [refusedOf_uncounted (r := { r with heldLane := none }) h, if_neg Bool.false_ne_true]
  | true =>
    rw [refusedOf, if_pos (show ({ r with heldLane := none } : StreamRec).countsRefusals = true from h), if_pos rfl]
    dsimp only
    split
    · split <;> rfl
    · rfl

theorem atLimit_counting (h : r.life = .opened ∨ r.life = .draining .plain) :
    atLimit limit r = true ↔ limit ≤ r.refusals + 1 := by
  rw [atLimit, (countsRefusals_iff r).2 h, Bool.true_and, decide_eq_true_iff]

theorem not_atLimit_counting (h : r.life = .opened ∨ r.life = .draining .plain) :
    atLimit limit r = false ↔ ¬ limit ≤ r.refusals + 1 := by
  rw [← atLimit_counting h, Bool.not_eq_true]

theorem outcome_opened_limit (h : r.life = .opened) (hl : limit ≤ r.refusals + 1) :
    (outcome limit r).life = .held ∧ (outcome limit r).queue = r.queue := by
  rw [outcome, refusedOf_opened (r := { r with heldLane := none }) h hl, drainedOf_idle (.inl rfl)]
  exact ⟨rfl, rfl⟩

theorem outcome_draining_limit (h : r.life = .draining .plain) (hl : limit ≤ r.refusals + 1) :
    (outcome limit r).life = .closed ∧ (outcome limit r).queue = [] := by
  rw [outcome, refusedOf_draining (r := { r with heldLane := none }) h hl, drainedOf_idle (.inr rfl)]
  exact ⟨rfl, rfl⟩

theorem outcome_opened_below (h : r.life = .opened) (hl : ¬ limit ≤ r.refusals + 1) :
    (outcome limit r).life = .opened ∧ (outcome limit r).queue = r.queue := by
  rw [outcome, refusedOf_below (r := { r with heldLane := none }) ((countsRefusals_iff _).2 (.inl h)) hl,
    Losses.drainedOf, if_neg (by simp [StreamRec.drainComplete, h])]
  exact ⟨h, rfl⟩

theorem outcome_draining_below (h : r.life = .draining .plain) (hl : ¬ limit ≤ r.refusals + 1) :
    (r.queue ≠ [] → (outcome limit r).life = .draining .plain ∧ (outcome limit r).queue = r.queue)
      ∧ (r.queue = [] → (outcome limit r).life = .closed ∧ (outcome limit r).queue = []) := by
  rw [outcome, refusedOf_below (r := { r with heldLane := none }) ((countsRefusals_iff _).2 (.inr h)) hl,
    Losses.drainedOf]
  refine ⟨fun hq => ?_, fun hq => ?_⟩
  · rw [if_neg (by simp [StreamRec.drainComplete, h, hq])]
    exact ⟨h, rfl⟩
  · rw [if_pos (by simp [StreamRec.drainComplete, h, hq])]
    exact ⟨rfl, rfl⟩

theorem outcome_discard (h : r.life = .draining .discard) : (outcome limit r).life = .closed := by
  rw [outcome, refusedOf_uncounted (r := { r with heldLane := none }) (by simp [StreamRec.countsRefusals, h]),
    Losses.drainedOf, if_pos (by simp [StreamRec.drainComplete, h])]
  rfl

end outcome

/-! ### The lane, by its pending disable -/

section lane
variable {s t : State} {l : LaneNo} {g : GroupNo}

theorem refusedLane_disablePending (r : LaneRec) : (refusedLane r).disablePending = r.disablePending := rfl

theorem handedBack_bindsRefused (h : HandedBack l (handedBackOf g (refusedLane (s.lane l))) t) :
    (t.lane l).bindsRefused = (s.lane l).bindsRefused + 1 := by
  have hrecord : (handedBackOf g (refusedLane (s.lane l))).bindsRefused = (s.lane l).bindsRefused + 1 := by
    unfold handedBackOf
    split <;> rfl
  obtain h | h := h
  · rw [h.lane, hrecord]
  · rw [h.bindsRefused, hrecord]

theorem handedBack_disabled (h : HandedBack l (handedBackOf g (refusedLane (s.lane l))) t)
    (hp : (s.lane l).disablePending = true) :
    (t.lane l).state = .disabled ∧ (t.lane l).holder = none ∧ (t.lane l).tag = (s.lane l).tag
      ∧ (t.lane l).disablePending = false ∧ ∀ i, (t.stream i).heldLane ≠ some l := by
  rw [handedBackOf, if_pos (by rw [refusedLane_disablePending, hp])] at h
  obtain h | h := h
  · rw [h.lane]
    exact ⟨rfl, rfl, rfl, rfl, h.unheld⟩
  · exact nomatch h.free

theorem handedBack_freed (h : HandedBack l (handedBackOf g (refusedLane (s.lane l))) t)
    (hp : (s.lane l).disablePending = false) :
    ((t.lane l).state = .free ∧ (t.lane l).holder = none ∧ (t.lane l).tag = (s.lane l).tag
        ∧ l ∈ t.freeLanes.read (t.lane l).group)
      ∨ ((t.lane l).state = .binding ∧ (t.lane l).tag = (s.lane l).tag + 1) := by
  rw [handedBackOf, if_neg (by rw [refusedLane_disablePending, hp]; exact Bool.false_ne_true)] at h
  refine h.imp (fun h => ?_) fun h => ⟨h.binding, h.tag⟩
  have hcount : (t.freeLanes.read g).count l = 1 := (h.listed g).trans (if_pos ⟨rfl, rfl⟩)
  rw [h.lane]
  exact ⟨rfl, rfl, rfl, List.count_pos_iff.1 (by rw [hcount]; exact Nat.one_pos)⟩

end lane

/-- Settles O23: the claims run on the state `handed`, the reports on `claimed`; the stream is `outcome` of its record,
and the lane is `HandedBack`. -/
theorem bindRefused : Obligations.BindRefused := by
  intro s l i tag hpin hcount hup hl htag hout hi r counted limit ended g back
  have hback : back = handed l i s := (handed_eq l i s).symm
  have hambient := ambient_handed l i s
  have hrun := Closing.exec_drainCompletion (s := Machine.bindRefused i (handed l i s)) i
    ((congrArg Prod.fst hambient).trans hpin) ((congrArg (fun a => a.2.1) hambient).trans hcount)
  refine ⟨refusal l i s, _, _, exec_bindAckRefuse hpin hcount hup hl htag hout hi, by rw [hback]; exact hrun, rfl,
    fun hp => ?_, fun hp => ?_, fun hinv => ?_⟩
  · rw [refusal, hp]
    rfl
  · rw [refusal, hp]
    rfl
  have hgist := gist_refusal l i s
  have hlife : ((refusal l i s).stream i).life = _ := congrArg Prod.fst hgist
  have hrefusals : ((refusal l i s).stream i).refusals = _ := congrArg (fun a => a.2.1) hgist
  have hqueue : ((refusal l i s).stream i).queue = _ := congrArg (fun a => a.2.2) hgist
  have hlane := handedBack_refusal hinv hout hi
  rw [hlife, hqueue]
  refine ⟨handedBack_bindsRefused hlane, hrefusals.trans (outcome_refusals _ _), fun hlim ho => ?_, fun hlim hd => ?_,
    fun ho hlim => ?_, fun hd hlim => ?_, outcome_discard, entry_refusal l i s, fun hp => ?_, handedBack_freed hlane⟩
  · exact outcome_opened_limit ho ((atLimit_counting (.inl ho)).1 hlim)
  · have hreached := (atLimit_counting (.inr hd)).1 hlim
    obtain ⟨hclosed, hempty⟩ := outcome_draining_limit hd hreached
    exact ⟨hclosed, hempty, refusal_draining hd hreached l⟩
  · exact outcome_opened_below ho ((not_atLimit_counting (.inl ho)).1 hlim)
  · exact outcome_draining_below hd ((not_atLimit_counting (.inr hd)).1 hlim)
  · obtain ⟨hstate, hholder, htag, hpending, hheld⟩ := handedBack_disabled hlane hp
    exact ⟨hstate, hholder, htag, hpending, hheld i⟩

end Sys2Proof.Proofs.Refusal

/-! The loss of the trunk link: what it leaves of lanes, entries, streams and the device set, whatever comes with it. -/

namespace Sys2Proof.Proofs.TrunkLoss

open Sys2Proof Sys2Proof.Machine

/-! ### The state in which every lane is down -/

/-- Nothing is FREE and no stream holds a lane; the lanes are those of `lanes`. -/
structure Grounded (lanes : Table 16 LaneRec) (s : State) : Prop where
  lanes : s.lanes = lanes
  free : ∀ g, s.freeLanes.read g = []
  unheld : ∀ i, (s.stream i).heldLane = none

/-- Without a BOUND lane there is nothing to judge, and without a FREE one nothing to grant. -/
theorem grounded_bindingRules {lanes : Table 16 LaneRec} (h : ∀ l, (lanes.read l).state ≠ .bound) :
    Losses.BindingRules (Grounded lanes) where
  frame hs hl hf hh := ⟨hl.trans hs.lanes, by rw [hf]; exact hs.free, fun i => (hh i).trans (hs.unheld i)⟩
  judged {s} l hs := by
    rwa [Holding.judgeLane_idle (by rw [State.lane, hs.lanes]; exact h l)]
  granted hf hs := absurd hf (by simp [hs.free])

theorem stream_dropLanes (s : State) (i : StreamNo) : (dropLanes s).stream i = { s.stream i with heldLane := none } :=
  Table.read_mapAll _ _ _

theorem entry_dropLanes (s : State) (pt : CausePoint) : (dropLanes s).entry pt = s.entry pt := by
  cases pt with
  | lane l c => exact (congrArg (fun r : LaneRec => r.notices.read c.bit) (Lanes.lane_dropLanes s l) :)
  | stream i c => exact (congrArg (fun r : StreamRec => r.notices.read c.bit) (stream_dropLanes s i) :)
  | _ => rfl

/-- The loss of the trunk before the claims of the former holders (R79 steps 1 to 5). -/
def grounded (s : State) : State := dropLanes (raise (.device .trunkDown) { s with trunkUp := false })

section grounded
variable (s : State)

theorem lane_grounded (l : LaneNo) : ((grounded s).lanes.read l) = { (s.lane l).dropped with holder := none } := by
  have hraise : (raise (.device .trunkDown) { s with trunkUp := false }).lane l = s.lane l := by
    rw [State.lane, Losses.raise_lanes (by simp)]
    rfl
  rw [← hraise]
  exact Lanes.lane_dropLanes _ l

theorem state_grounded (l : LaneNo) :
    ((grounded s).lanes.read l).state =
      if (s.lane l).state = .disabled ∨ (s.lane l).disablePending = true then .disabled else .down := by
  rw [lane_grounded]
  rfl

theorem grounded_rules : Losses.BindingRules (Grounded (grounded s).lanes) :=
  grounded_bindingRules fun l => by
    rw [state_grounded]
    split <;> nofun

theorem stream_grounded (i : StreamNo) :
    (grounded s).stream i =
      { (raise (.device .trunkDown) { s with trunkUp := false }).stream i with heldLane := none } :=
  stream_dropLanes _ i

theorem grounded_grounded : Grounded (grounded s).lanes (grounded s) :=
  ⟨rfl, fun _ => Table.read_const _ _, fun i => by rw [stream_grounded]⟩

theorem ambient_grounded : Losses.ambient (grounded s) = Losses.ambient { s with trunkUp := false } :=
  Losses.ambient_raise { s with trunkUp := false } (.device .trunkDown)

theorem entry_grounded (pt : CausePoint) :
    (grounded s).entry pt = (raise (.device .trunkDown) { s with trunkUp := false }).entry pt :=
  entry_dropLanes _ pt

end grounded

/-! ### The claims of one former holder (R62, R79 step 6) -/

section trunkLoss
variable {s : State} {before : LaneRec} {i : StreamNo}

theorem trunkLoss_none (h : before.holder = none) (s : State) : trunkLoss before s = s := by rw [trunkLoss, h]

theorem trunkLoss_some (h : before.holder = some i) (s : State) :
    trunkLoss before s =
      lossClaims .trunkLost i
        (if before.state = .bound ∨ before.state = .binding then raise (.stream i .laneLost) s else s) := by
  rw [trunkLoss, h]

/-- The lane was a stream's own, BOUND or BINDING, so that its loss is told. -/
def tells (before : LaneRec) (i : StreamNo) : Prop :=
  before.holder = some i ∧ (before.state = .bound ∨ before.state = .binding)

theorem sameRest_lossClaims (kind : NotifyKind) (i : StreamNo) (s : State) :
    Losses.SameRest (lossClaims kind i s) s :=
  (Losses.SameRest.of_sansBinding (notify_sansBinding _ kind i)).trans
    ((Losses.sameRest_commitLoss i _).trans (Losses.sameRest_judgeDrain i s))

theorem keeps_trunkLoss {P : State → Prop} (h : Losses.BindingRules P) (before : LaneRec) (hs : P s) :
    P (trunkLoss before s) := by
  cases hb : before.holder with
  | none => rwa [trunkLoss_none hb]
  | some i =>
    rw [trunkLoss_some hb]
    refine h.keeps_lossClaims _ i ?_
    split
    · exact h.keeps_raise i _ hs
    · exact hs

theorem ambient_trunkLoss (before : LaneRec) (s : State) : Losses.ambient (trunkLoss before s) = Losses.ambient s := by
  cases hb : before.holder with
  | none => rw [trunkLoss_none hb]
  | some i =>
    rw [trunkLoss_some hb, (sameRest_lossClaims _ i _).ambient]
    split
    · exact Losses.ambient_raise _ _
    · rfl

open Classical in
theorem entry_trunkLoss (before : LaneRec) (s : State) {pt : CausePoint} (hpt : pt ≠ reportLostPoint) :
    (trunkLoss before s).entry pt =
      if ∃ i, tells before i ∧ .stream i .laneLost = pt then some (raisedEntry s.paceCount (s.entry pt))
      else s.entry pt := by
  cases hb : before.holder with
  | none => rw [trunkLoss_none hb, if_neg (by simp [tells, hb])]
  | some i =>
    rw [trunkLoss_some hb, (sameRest_lossClaims _ i _).entry]
    by_cases hstate : before.state = .bound ∨ before.state = .binding
    · rw [if_pos hstate, entry_raise _ _ _ hpt]
      simp [tells, hb, hstate]
    · rw [if_neg hstate, if_neg (by simp [tells, hstate])]

/-- What the statement says of a stream that loses its lane. -/
def fate (r : StreamRec) : Life × List TrafficCell × Counter × StreamImage × Option StreamImage × Bool :=
  (r.life, r.queue, r.launched, r.config, r.staged, r.commitPending)

theorem fate_of_sansBinding {r r' : StreamRec} (h : r.sansBinding = r'.sansBinding) : fate r = fate r' :=
  (congrArg fate h :)

theorem fate_raise (pt : CausePoint) (s : State) (i : StreamNo) : fate ((raise pt s).stream i) = fate (s.stream i) :=
  (congrArg fate (stream_of_sansNotices (raise_sansNotices s pt) i) :)

/-- A stream as the claims of the loss leave it. -/
def bereft (s : State) (r : StreamRec) : StreamRec := Losses.imaged s (Losses.drainedOf r)

theorem fate_imaged_congr {r r' : StreamRec} (s t : State) (h : fate r = fate r') :
    fate (Losses.imaged s r) = fate (Losses.imaged t r') := by
  obtain ⟨hlife, hqueue, hlaunched, hconfig, hstaged, hpending⟩ :
      r.life = r'.life ∧ r.queue = r'.queue ∧ r.launched = r'.launched ∧ r.config = r'.config
        ∧ r.staged = r'.staged ∧ r.commitPending = r'.commitPending := by simpa [fate] using h
  unfold Losses.imaged restartImage
  rw [hpending, hstaged]
  split
  · simp [fate, StreamRec.applyImage, hlife, hqueue, hlaunched]
  · exact h

/-- The claims of a loss go by the fate of a stream that holds no lane. -/
theorem fate_bereft_congr {r r' : StreamRec} (s t : State) (h : fate r = fate r') (hr : r.heldLane = none)
    (hr' : r'.heldLane = none) : fate (bereft s r) = fate (bereft t r') := by
  have hdrain : r.drainComplete = r'.drainComplete := by
    rw [Bool.eq_iff_iff, Closing.drainComplete_iff, Closing.drainComplete_iff, hr, hr',
      show r.life = r'.life from congrArg Prod.fst h, show r.queue = r'.queue from congrArg (fun f => f.2.1) h]
  refine fate_imaged_congr s t ?_
  unfold Losses.drainedOf
  rw [hdrain]
  split
  · exact congrArg (fun f => (Life.closed, ([] : List TrafficCell), f.2.2)) h
  · exact h

theorem fate_lossClaims (kind : NotifyKind) (i j : StreamNo) (s : State) :
    fate ((lossClaims kind i s).stream j) = if i = j then fate (bereft s (s.stream i)) else fate (s.stream j) := by
  have hnotify := stream_of_sansBinding (notify_sansBinding (commitLoss i (judgeDrain i s)) kind i) j
  have hdrain := Losses.stream_judgeDrain i j s
  rw [lossClaims, fate_of_sansBinding hnotify, Losses.stream_commitLoss]
  split
  · next hij =>
    subst hij
    rw [if_pos rfl] at hdrain
    exact fate_imaged_congr _ s (fate_of_sansBinding hdrain)
  · next hij =>
    rw [if_neg hij] at hdrain
    exact fate_of_sansBinding hdrain

theorem fate_trunkLoss (before : LaneRec) (s : State) (j : StreamNo) (hs : (s.stream j).heldLane = none) :
    fate ((trunkLoss before s).stream j) =
      if before.holder = some j then fate (bereft s (s.stream j)) else fate (s.stream j) := by
  cases hb : before.holder with
  | none => rw [trunkLoss_none hb, if_neg (by simp)]
  | some i =>
    have htold (t : State) (ht : t = s ∨ t = raise (.stream i .laneLost) s) :
        fate (t.stream j) = fate (s.stream j) ∧ (t.stream j).heldLane = none := by
      obtain rfl | rfl := ht
      · exact ⟨rfl, hs⟩
      · exact ⟨fate_raise _ s j, (Losses.heldLane_raise _ s j).trans hs⟩
    obtain ⟨hfate, hheld⟩ := htold
      (if before.state = .bound ∨ before.state = .binding then raise (.stream i .laneLost) s else s)
      (by split; exacts [.inr rfl, .inl rfl])
    rw [trunkLoss_some hb, fate_lossClaims]
    simp only [Option.some.injEq]
    split
    · next hij =>
      subst hij
      exact fate_bereft_congr _ s hfate hheld hs
    · exact hfate

end trunkLoss

/-! ### The claims of all former holders, in ascending order of lane -/

section losses
variable {s u : State} {i : StreamNo}

/-- The claims of the former holders of the lanes `ls`, as `s` had them. -/
def losses (s : State) (ls : List LaneNo) (u : State) : State := ls.foldl (fun t l => trunkLoss (s.lane l) t) u

theorem losses_cons (s : State) (l : LaneNo) (ls : List LaneNo) (u : State) :
    losses s (l :: ls) u = losses s ls (trunkLoss (s.lane l) u) := rfl

theorem trunkDown_eq (s : State) : trunkDown s = judgeDevicePart (losses s (List.finRange 16) (grounded s)) := by
  rw [trunkDown, Pacing.indicesWhere_eq_filter, List.foldl_filter]
  refine congrArg (fun f => judgeDevicePart (List.foldl f (grounded s) (List.finRange 16))) ?_
  funext t l
  split
  · rfl
  · next h => exact (trunkLoss_none (Option.not_isSome_iff_eq_none.1 h) t).symm

theorem keeps_losses {P : State → Prop} (h : Losses.BindingRules P) (s : State) (ls : List LaneNo) (hu : P u) :
    P (losses s ls u) := Arbiter.ClaimInvariant.keeps_foldl (fun _ l => keeps_trunkLoss h (s.lane l)) ls hu

theorem ambient_losses (s : State) (ls : List LaneNo) (u : State) :
    Losses.ambient (losses s ls u) = Losses.ambient u := by
  induction ls generalizing u with
  | nil => rfl
  | cons l ls ih => rw [losses_cons, ih, ambient_trunkLoss]

theorem paceCount_of_ambient {t : State} (h : Losses.ambient t = Losses.ambient u) : t.paceCount = u.paceCount :=
  congrArg (fun a => a.2.2.1) h

/-- The claims of a loss raise nothing but LANE_LOST at streams. -/
theorem entry_losses_device (s : State) (ls : List LaneNo) (u : State) {c : DeviceCause}
    (hc : .device c ≠ reportLostPoint) : (losses s ls u).entry (.device c) = u.entry (.device c) := by
  induction ls generalizing u with
  | nil => rfl
  | cons l ls ih => rw [losses_cons, ih, entry_trunkLoss _ _ hc, if_neg (by simp)]

open Classical in
/-- A stream that one lane at most told of its loss is told once. -/
theorem entry_losses {ls : List LaneNo} (hls : ls.Nodup)
    (hone : ∀ k l, tells (s.lane k) i → tells (s.lane l) i → k = l) (u : State) :
    (losses s ls u).entry (.stream i .laneLost) =
      if ∃ k ∈ ls, tells (s.lane k) i then some (raisedEntry u.paceCount (u.entry (.stream i .laneLost)))
      else u.entry (.stream i .laneLost) := by
  induction ls generalizing u with
  | nil => simp [losses]
  | cons l ls ih =>
    obtain ⟨hl, hls⟩ := List.nodup_cons.1 hls
    have hhead := entry_trunkLoss (s.lane l) u (pt := .stream i .laneLost) (by simp [reportLostPoint])
    rw [losses_cons, ih hls, paceCount_of_ambient (ambient_trunkLoss (s.lane l) u), hhead]
    by_cases hi : tells (s.lane l) i
    · have htail : ¬ ∃ k ∈ ls, tells (s.lane k) i := fun ⟨k, hk, hki⟩ => hl (hone k l hki hi ▸ hk)
      simp [hi, htail]
    · simp [hi]

open Classical in
/-- A stream that held one lane at most loses it once. -/
theorem fate_losses {lanes : Table 16 LaneRec} (hrules : Losses.BindingRules (Grounded lanes)) {ls : List LaneNo}
    (hls : ls.Nodup) (hone : ∀ k l, (s.lane k).holder = some i → (s.lane l).holder = some i → k = l)
    (hu : Grounded lanes u) :
    fate ((losses s ls u).stream i) =
      if ∃ k ∈ ls, (s.lane k).holder = some i then fate (bereft u (u.stream i)) else fate (u.stream i) := by
  induction ls generalizing u with
  | nil => simp [losses]
  | cons l ls ih =>
    obtain ⟨hl, hls⟩ := List.nodup_cons.1 hls
    have hkept := keeps_trunkLoss hrules (s.lane l) hu
    have hhead := fate_trunkLoss (s.lane l) u i (hu.unheld i)
    rw [losses_cons, ih hls hkept]
    by_cases hi : (s.lane l).holder = some i
    · have htail : ¬ ∃ k ∈ ls, (s.lane k).holder = some i := fun ⟨k, hk, hki⟩ => hl (hone k l hki hi ▸ hk)
      rw [if_neg htail, hhead, if_pos hi, if_pos ⟨l, List.mem_cons_self, hi⟩]
    · rw [if_neg hi] at hhead
      rw [fate_bereft_congr _ u hhead (hkept.unheld i) (hu.unheld i), hhead]
      simp [hi]

end losses

/-! ### The loss of the trunk, whole (R79) -/

section trunkDown
variable {s : State} {i : StreamNo}

/-- The state that the report to the commit unit finds. -/
def lossesDone (s : State) : State := losses s (List.finRange 16) (grounded s)

theorem grounded_lossesDone (s : State) : Grounded (grounded s).lanes (lossesDone s) :=
  keeps_losses (grounded_rules s) s _ (grounded_grounded s)

theorem grounded_trunkDown (s : State) : Grounded (grounded s).lanes (trunkDown s) := by
  rw [trunkDown_eq]
  exact (grounded_rules s).keeps_judgeDevicePart (grounded_lossesDone s)

theorem ambient_lossesDone (s : State) : Losses.ambient (lossesDone s) = Losses.ambient { s with trunkUp := false } :=
  (ambient_losses s _ _).trans (ambient_grounded s)

theorem trunkUp_trunkDown (s : State) : (trunkDown s).trunkUp = false := by
  rw [trunkDown_eq, Losses.trunkUp_judgeDevicePart]
  exact congrArg (fun a => a.2.2.2.1) (ambient_lossesDone s)

/-- Where every lane is down, a waiting device set is applied (R123, R124). -/
theorem params_trunkDown {d : DeviceParams} (hpending : s.trunkCommitPending = true)
    (hd : s.stagedParams = some d) :
    (trunkDown s).params = d ∧ (trunkDown s).stagedParams = none ∧ (trunkDown s).trunkCommitPending = false := by
  have hambient := ambient_lossesDone s
  have hstaged : (lossesDone s).stagedParams = some d := (congrArg (fun a => a.2.2.2.2.2.1) hambient).trans hd
  have hwaits : (lossesDone s).trunkCommitPending = true := (congrArg (fun a => a.2.2.2.2.2.2) hambient).trans hpending
  have hquiet : (lossesDone s).lanesQuiet = true := by
    rw [Arbiter.lanesQuiet_iff]
    intro l
    rw [State.lane, (grounded_lossesDone s).lanes, state_grounded]
    split <;> exact ⟨nofun, nofun, nofun⟩
  have hrest : Losses.SameRest (trunkDown s) (applyDevice d (lossesDone s)) := by
    rw [trunkDown_eq, ← lossesDone, Arbiter.judgeDevicePart_applies hstaged hwaits hquiet]
    exact (Losses.sameRest_judgeCompletion _).trans (.of_sansBinding (callPass_sansBinding _))
  exact ⟨hrest.params, hrest.stagedParams, hrest.trunkCommitPending⟩

theorem entry_trunkDown_device (s : State) :
    (trunkDown s).entry (.device .trunkDown) = some (raisedEntry s.paceCount (s.entry (.device .trunkDown))) := by
  rw [trunkDown_eq, Losses.entry_judgeDevicePart, entry_losses_device _ _ _ (by simp [reportLostPoint]), entry_grounded,
    entry_raise_same]
  rfl

open Classical in
/-- LANE_LOST of the streams whose lane was BOUND or BINDING (R79 step 6). -/
theorem entry_trunkDown_laneLost (hinv : LaneInv s) (i : StreamNo) :
    (trunkDown s).entry (.stream i .laneLost) =
      if ∃ k, tells (s.lane k) i then some (raisedEntry s.paceCount (s.entry (.stream i .laneLost)))
      else s.entry (.stream i .laneLost) := by
  obtain ⟨-, hholder, -, -⟩ := hinv
  have hone (k l : LaneNo) (hk : tells (s.lane k) i) (hl : tells (s.lane l) i) : k = l :=
    Option.some.inj (((hholder k i).1 hk.1).symm.trans ((hholder l i).1 hl.1))
  have hentry : (grounded s).entry (.stream i .laneLost) = s.entry (.stream i .laneLost) := by
    rw [entry_grounded, entry_raise _ _ _ (by simp [reportLostPoint]), if_neg (by simp)]
    rfl
  have hpace : (grounded s).paceCount = s.paceCount :=
    paceCount_of_ambient (u := { s with trunkUp := false }) (ambient_grounded s)
  rw [trunkDown_eq, Losses.entry_judgeDevicePart, entry_losses (List.nodup_finRange 16) hone, hentry, hpace]
  simp only [List.mem_finRange, true_and]

theorem fate_grounded (s : State) (i : StreamNo) : fate ((grounded s).stream i) = fate (s.stream i) := by
  rw [stream_grounded]
  exact fate_raise (.device .trunkDown) { s with trunkUp := false } i

/-- A stream that held a lane has had the claims of the loss (R62). -/
theorem fate_trunkDown (hinv : LaneInv s) {k : LaneNo} (hk : (s.lane k).holder = some i) :
    fate ((trunkDown s).stream i) = fate (bereft s { s.stream i with heldLane := none }) := by
  obtain ⟨-, hholder, -, -⟩ := hinv
  have hone (k l : LaneNo) (hk : (s.lane k).holder = some i) (hl : (s.lane l).holder = some i) : k = l :=
    Option.some.inj (((hholder k i).1 hk).symm.trans ((hholder l i).1 hl))
  rw [trunkDown_eq, fate_of_sansBinding (Losses.stream_judgeDevicePart _ i),
    fate_losses (grounded_rules s) (List.nodup_finRange 16) hone (grounded_grounded s),
    if_pos ⟨k, List.mem_finRange k, hk⟩]
  exact fate_bereft_congr _ s (fate_grounded s i) ((grounded_grounded s).unheld i) rfl

section bereft
variable {r : StreamRec}

theorem imaged_life (s : State) (r : StreamRec) : (Losses.imaged s r).life = r.life := by
  unfold Losses.imaged restartImage
  split <;> rfl

theorem bereft_life_drained (s : State) (h : r.drainComplete = true) : (bereft s r).life = .closed := by
  rw [bereft, imaged_life, Losses.drainedOf, if_pos h]
  rfl

theorem bereft_life_undrained (s : State) (h : ¬ r.drainComplete = true) : (bereft s r).life = r.life := by
  rw [bereft, imaged_life, Losses.drainedOf, if_neg h]

/-- An image that waits with commit pending is applied at the loss (R122). -/
theorem bereft_image (s : State) {m : StreamImage} (hp : r.commitPending = true) (hm : r.staged = some m) :
    (bereft s r).config = m ∧ (bereft s r).staged = none ∧ (bereft s r).commitPending = false := by
  have hdrained : (Losses.drainedOf r).commitPending = true ∧ (Losses.drainedOf r).staged = some m := by
    unfold Losses.drainedOf
    split <;> exact ⟨hp, hm⟩
  obtain ⟨hp, hm⟩ := hdrained
  simp [bereft, Losses.imaged, restartImage, hp, hm, StreamRec.applyImage]

end bereft

theorem raiseReportLost_streams (s : State) : (raiseReportLost s).streams = s.streams := by
  unfold raiseReportLost
  split
  · rfl
  · dsimp only
    split <;> rfl

/-- A raise at the device changes no stream. -/
theorem raise_device_streams (c : DeviceCause) (s : State) : (raise (.device c) s).streams = s.streams := by
  unfold raise
  split
  · exact raiseReportLost_streams s
  · unfold raiseOrdinary
    split
    · rfl
    · dsimp only
      split
      · split
        · rfl
        · exact raiseReportLost_streams _
      · rfl

theorem grounded_eq (s : State) :
    grounded s =
      { raise (.device .trunkDown) { s with trunkUp := false } with
        freeLanes := Table.const 4 []
        lanes := s.lanes.mapAll fun r => { r.dropped with holder := none }
        streams := s.streams.mapAll fun r => { r with heldLane := none } } := by
  have hlanes := Losses.raise_lanes (pt := .device .trunkDown) (by simp) { s with trunkUp := false }
  have hstreams := raise_device_streams .trunkDown { s with trunkUp := false }
  rw [grounded, dropLanes, hlanes, hstreams]

end trunkDown

/-! ### The loss in the midst of a pass (R50) and between the claims of a launch (R18, R89) -/

section during
variable {s u : State} {k l : LaneNo} {i : StreamNo} {c : TrafficCell}

theorem passFrom_trunkDown (e : RequestEntry) (marked : List GroupNo) (s : State) :
    passFrom e marked (trunkDown s) = trunkDown s := passFrom_noLanes e marked (Arbiter.trunkDown_noFreeLane s)

/-- A pass under way has changed bindings only, and its claim still to send changes nothing. -/
theorem duringPass_trunkDown (s : State) :
    ∃ t : State, t.sansBinding = s.sansBinding ∧ duringPass trunkDown s = trunkDown t := by
  cases hc : s.passChooses with
  | false => exact ⟨s, rfl, duringPass_idle hc⟩
  | true =>
    cases ht : s.turn with
    | false => exact ⟨s.dropTurn, rfl, duringPass_alone hc ht⟩
    | true =>
      have hpass := passUntil_sansBinding (s := s.dropTurn) (s.requests.length + 4) []
      rw [Arbiter.duringPass_chooses hc, if_pos ht]
      cases hu : passUntil (s.requests.length + 4) [] s.dropTurn with
      | mk claim t =>
        rw [hu] at hpass
        refine ⟨t, hpass, ?_⟩
        cases claim with
        | none => rfl
        | some p => exact passFrom_trunkDown p.1 p.2 t

/-- The stream of the launch in flight, before its cell has left: a plain drain of one cell. -/
structure LastCell (i : StreamNo) (c : TrafficCell) (n : Counter) (s : State) : Prop where
  life : (s.stream i).life = .draining .plain
  queue : (s.stream i).queue = [c]
  launched : (s.stream i).launched = n

section lastCell
variable {n : Counter}

theorem LastCell.of_fate (h : LastCell i c n s) (hf : fate (u.stream i) = fate (s.stream i)) : LastCell i c n u :=
  ⟨(congrArg Prod.fst hf :).trans h.life, (congrArg (fun f => f.2.1) hf :).trans h.queue,
    (congrArg (fun f => f.2.2.1) hf :).trans h.launched⟩

theorem LastCell.of_sansBinding (h : LastCell i c n s) (hf : u.sansBinding = s.sansBinding) : LastCell i c n u :=
  h.of_fate (fate_of_sansBinding (stream_of_sansBinding hf i))

/-- A queue that is not empty keeps the drain open, whatever the loss of the lane brings. -/
theorem LastCell.keeps_trunkLoss (h : LastCell i c n s) (hs : (s.stream i).heldLane = none) (before : LaneRec) :
    LastCell i c n (trunkLoss before s) := by
  have hfate := fate_trunkLoss before s i hs
  split at hfate
  · have hopen : ¬ (s.stream i).drainComplete = true := by
      simp [StreamRec.drainComplete, h.life, h.queue]
    have hkept : fate (bereft s (s.stream i)) = fate (Losses.imaged s (s.stream i)) := by
      rw [bereft, Losses.drainedOf, if_neg hopen]
    have himaged : (Losses.imaged s (s.stream i)).life = (s.stream i).life
        ∧ (Losses.imaged s (s.stream i)).queue = (s.stream i).queue
        ∧ (Losses.imaged s (s.stream i)).launched = (s.stream i).launched := by
      unfold Losses.imaged restartImage
      split <;> exact ⟨rfl, rfl, rfl⟩
    obtain ⟨hlife, hqueue, hlaunched⟩ := himaged
    have hstep := hfate.trans hkept
    exact ⟨((congrArg Prod.fst hstep :).trans hlife).trans h.life,
      ((congrArg (fun f => f.2.1) hstep :).trans hqueue).trans h.queue,
      ((congrArg (fun f => f.2.2.1) hstep :).trans hlaunched).trans h.launched⟩
  · exact h.of_fate hfate

theorem LastCell.keeps_losses {lanes : Table 16 LaneRec} (hrules : Losses.BindingRules (Grounded lanes))
    (h : LastCell i c n u) (hu : Grounded lanes u) (ls : List LaneNo) : LastCell i c n (losses s ls u) := by
  induction ls generalizing u with
  | nil => exact h
  | cons l ls ih =>
    rw [losses_cons]
    exact ih (h.keeps_trunkLoss (hu.unheld i) _) (TrunkLoss.keeps_trunkLoss hrules _ hu)

theorem LastCell.keeps_trunkDown (h : LastCell i c n s) : LastCell i c n (trunkDown s) := by
  rw [trunkDown_eq]
  exact ((h.of_fate (fate_grounded s i)).keeps_losses (grounded_rules s) (grounded_grounded s) _).of_fate
    (fate_of_sansBinding (Losses.stream_judgeDevicePart _ i))

/-- The credit claim of a launch changes nothing of what leaves the cell in its queue. -/
theorem LastCell.keeps_spent (h : LastCell i c n s) (hcredit : 1 ≤ (s.stream i).credit) :
    LastCell i c n (Launches.spent i s) := by
  have hless : LastCell i c n (s.modStream i fun r => { r with credit := r.credit - 1 }) :=
    h.of_fate (by rw [stream_modStream_same]; rfl)
  rw [Launches.spent_eq hcredit]
  split
  · exact hless.of_sansBinding (demandChanged_sansBinding _ i)
  · exact hless

/-- The taking of the last cell after the loss closes its stream (R13, R18). -/
theorem afterHead_lastCell {lanes : Table 16 LaneRec} (hrules : Losses.BindingRules (Grounded lanes))
    (h : LastCell i c n s) (hs : Grounded lanes s) :
    ((Launches.afterHead i [] s).stream i).heldLane = none ∧ ((Launches.afterHead i [] s).stream i).life = .closed
      ∧ ((Launches.afterHead i [] s).stream i).queue = [] ∧ ((Launches.afterHead i [] s).stream i).launched = n := by
  have htaken : Grounded lanes (demandChanged i (Launches.headTaken i [] s)) :=
    hrules.keeps_demandChanged i (hrules.keeps_modStream i (f := fun r => { r with queue := [] }) (fun _ => rfl)
      (hrules.keeps_rest (t := { s with freeBuffers := s.freeBuffers + 1 }) hs rfl rfl rfl))
  have hstream := stream_of_sansBinding (demandChanged_sansBinding (Launches.headTaken i [] s) i) i
  rw [Launches.stream_headTaken] at hstream
  have hcomplete : ((demandChanged i (Launches.headTaken i [] s)).stream i).drainComplete = true :=
    (Closing.drainComplete_iff _).2 ⟨htaken.unheld i,
      .inr ⟨(congrArg StreamRec.life hstream :).trans h.life, (congrArg StreamRec.queue hstream :)⟩⟩
  have hclosed := Losses.stream_judgeDrain i i (demandChanged i (Launches.headTaken i [] s))
  rw [if_pos rfl, Losses.drainedOf, if_pos hcomplete] at hclosed
  rw [Launches.afterHead, if_pos rfl]
  exact ⟨(hrules.keeps_judgeDrain i htaken).unheld i, (congrArg StreamRec.life hclosed :),
    (congrArg StreamRec.queue hclosed :), (congrArg StreamRec.launched hclosed :).trans
      ((congrArg StreamRec.launched hstream :).trans h.launched)⟩

theorem trunkUp_afterHead (i : StreamNo) (s : State) : (Launches.afterHead i [] s).trunkUp = s.trunkUp := by
  rw [Launches.afterHead, if_pos rfl, (Losses.sameRest_judgeDrain i _).trunkUp,
    trunkUp_of_sansBinding (demandChanged_sansBinding _ i)]
  rfl

theorem trunkUp_launchedOn (k : LaneNo) (i : StreamNo) (c : TrafficCell) (s : State) :
    (Launches.launchedOn k i c s).trunkUp = s.trunkUp := rfl

theorem stream_launchedOn (k : LaneNo) (i : StreamNo) (c : TrafficCell) (s : State) :
    (Launches.launchedOn k i c s).stream i = { s.stream i with launched := (s.stream i).launched + 1 } :=
  stream_modStream_same _ i fun r => { r with launched := r.launched + 1 }

theorem sent_launchedOn (k : LaneNo) (i : StreamNo) (c : TrafficCell) (s : State) :
    ((Launches.launchedOn k i c s).lane k).sent = some (launchedCell k c) :=
  congrArg LaneRec.sent
    (lane_modLane_same s k fun r => { r with launching := none, sent := some (launchedCell k c) })

end lastCell

/-! #### The launch in flight -/

/-- The lane that has lost its alignment. -/
def hunts (l : LaneNo) (s : State) : State :=
  s.modLane l fun r => { r with aligned := false, failures := 0, passes := 0 }

theorem loseAlignment_down (hl : (s.lane l).aligned = true) (hup : s.trunkUp = false) :
    loseAlignment l s = hunts l s := by
  rw [loseAlignment, if_pos hl]
  exact if_neg (by simp [hup])

theorem loseAlignment_up (hl : (s.lane l).aligned = true) (hup : s.trunkUp = true) :
    loseAlignment l s = duringLaunches (fun _ => true) (duringPass trunkDown) (hunts l s) := by
  rw [loseAlignment, if_pos hl]
  exact if_pos hup

/-- Alignment is no launch condition of the slot's (R87). -/
theorem launches_hunts (l : LaneNo) (s : State) (which : StreamNo → Bool) :
    (hunts l s).launches which = s.launches which := by
  have hlane (k : LaneNo) : ((hunts l s).lane k).launching = (s.lane k).launching
      ∧ ((hunts l s).lane k).state = (s.lane k).state ∧ ((hunts l s).lane k).paused = (s.lane k).paused
      ∧ ((hunts l s).lane k).waitingCell = (s.lane k).waitingCell
      ∧ ((hunts l s).lane k).holder = (s.lane k).holder := by
    have hkept := lane_modLane_keeps s (fun r => (r.launching, r.state, r.paused, r.waitingCell, r.holder))
      (f := fun r => { r with aligned := false, failures := 0, passes := 0 }) (fun _ => rfl) l k
    simpa only [hunts, Prod.mk.injEq] using hkept
  have hcarries (k : LaneNo) (i : StreamNo) : (hunts l s).carries k i = s.carries k i := by
    obtain ⟨-, hstate, hpaused, hwaiting, hholder⟩ := hlane k
    rw [Bool.eq_iff_iff, Launches.carries_iff, Launches.carries_iff, hstate, hpaused, hwaiting, hholder]
    rfl
  rw [Launches.launches_eq, Launches.launches_eq]
  refine List.filterMap_congr fun k _ => ?_
  rw [Launches.flightOn, Launches.flightOn, (hlane k).1]
  simp only [hcarries]

/-- With one launch in flight, a turn says whether its credit claim came first (R89). -/
theorem duringLaunches_single {which : StreamNo → Bool} {event : State → State} (h : s.launches which = [(k, i)])
    (hcredit : 1 ≤ (s.stream i).credit) :
    duringLaunches which event s =
      if s.turn = true then launchCell k i (event (Launches.spent i s.dropTurn))
      else
        if ((event s.dropTurn).stream i).credit = 0 then sendFill k (event s.dropTurn) else event s.dropTurn := by
  rw [duringLaunches, h, Launches.chargeLaunches_granted [] hcredit]
  cases s.turn with
  | true => simp [chargeLaunches, endLaunch]
  | false => simp [chargeLaunches, endLaunch]

theorem lastCell_dropTurn {n : Counter} (h : LastCell i c n s) : LastCell i c n s.dropTurn :=
  ⟨h.life, h.queue, h.launched⟩

/-- The launch of the last cell had its credit claim granted before the loss: the cell leaves, and closes its stream. -/
theorem lastCell_leaves {n : Counter} (h : LastCell i c n s) (k : LaneNo) :
    (launchCell k i (duringPass trunkDown s)).trunkUp = false
      ∧ ((launchCell k i (duringPass trunkDown s)).stream i).heldLane = none
      ∧ ((launchCell k i (duringPass trunkDown s)).stream i).life = .closed
      ∧ ((launchCell k i (duringPass trunkDown s)).stream i).queue = []
      ∧ ((launchCell k i (duringPass trunkDown s)).stream i).launched = n + 1
      ∧ ((launchCell k i (duringPass trunkDown s)).lane k).sent = some (launchedCell k c) := by
  obtain ⟨u, hu, hdown⟩ := duringPass_trunkDown s
  have hcell := (h.of_sansBinding hu).keeps_trunkDown
  obtain ⟨hheld, hlife, hqueue, hlaunched⟩ := afterHead_lastCell (grounded_rules u) hcell (grounded_trunkDown u)
  rw [hdown, Launches.launchCell_launches hcell.queue, trunkUp_launchedOn, stream_launchedOn, sent_launchedOn,
    trunkUp_afterHead]
  exact ⟨trunkUp_trunkDown u, hheld, hlife, hqueue, congrArg (· + 1) hlaunched, rfl⟩

/-- The credit claim was still to come: the cell stays, and its drain stays open. -/
theorem lastCell_stays {n : Counter} (h : LastCell i c n s) (k : LaneNo) :
    let d := duringPass trunkDown s
    let t := if (d.stream i).credit = 0 then sendFill k d else d
    t.trunkUp = false ∧ (t.stream i).heldLane = none ∧ LastCell i c n t := by
  obtain ⟨u, hu, hdown⟩ := duringPass_trunkDown s
  have hcell := (h.of_sansBinding hu).keeps_trunkDown
  have hheld := (grounded_trunkDown u).unheld i
  have hup := trunkUp_trunkDown u
  rw [hdown]
  dsimp only
  split
  · rw [Launches.sendFill_filled]
    exact ⟨hup, hheld, hcell.life, hcell.queue, hcell.launched⟩
  · exact ⟨hup, hheld, hcell⟩

end during

/-- Settles O19: the loss by `grounded` and the claims of the former holders, and what comes in its midst. -/
theorem alignmentLossTakesTrunkDown : Obligations.AlignmentLossTakesTrunkDown := by
  refine ⟨?aligned, fun s e marked => passFrom_trunkDown e marked s, ?trunk⟩
  case aligned =>
    intro s l hpin hcount hl hunting
    have hexec : exec (.laneAlignmentLost l) s = .next (loseAlignment l s) := running_counted hpin hcount
    refine ⟨fun hup => by rw [hexec, loseAlignment_down hl hup]; rfl, fun hup => ?_⟩
    rw [hexec, loseAlignment_up hl hup]
    refine ⟨rfl, fun k i c hflights hcredit hlife hqueue => ⟨_, rfl, ?_⟩⟩
    have hcell : LastCell i c (s.stream i).launched (hunts l s) := ⟨hlife, hqueue, rfl⟩
    rw [duringLaunches_single ((launches_hunts l s _).trans hflights) hcredit]
    have hturn : (hunts l s).turn = s.turn := rfl
    have hdropped : LastCell i c (s.stream i).launched (hunts l s).dropTurn := lastCell_dropTurn hcell
    rw [hturn]
    cases s.turn with
    | true =>
      obtain ⟨hdown, hheld, hclosed, hempty, hlaunched, hsent⟩ := lastCell_leaves (hdropped.keeps_spent hcredit) k
      exact ⟨hdown, hheld, fun _ => ⟨hclosed, hempty, hlaunched, hsent⟩, nofun⟩
    | false =>
      obtain ⟨hdown, hheld, hstays⟩ := lastCell_stays hdropped k
      exact ⟨hdown, hheld, nofun, fun _ => ⟨hstays.life, hstays.queue, hstays.launched⟩⟩
  case trunk =>
    intro s down loses t
    have hdown : down = grounded s := (grounded_eq s).symm
    have hground := grounded_trunkDown s
    have hloses : loses = fun u k => trunkLoss (s.lane k) u := rfl
    refine ⟨?_, trunkUp_trunkDown s, hground.free, ?_, hground.unheld, entry_trunkDown_device s,
      fun d hp hd => params_trunkDown hp hd, fun hinv => ⟨fun i => ?_, fun k i hk => ?_⟩⟩
    · rw [hdown, hloses]
      exact trunkDown_eq s
    · rw [hdown]
      exact hground.lanes
    · rw [entry_trunkDown_laneLost hinv i]
      exact ite_congr rfl (fun _ => rfl) fun _ => rfl
    · intro r drained
      have hfate := fate_trunkDown hinv hk
      have hdrain := Closing.drainComplete_iff { r with heldLane := none }
      have hlife : ((trunkDown s).stream i).life = (bereft s { r with heldLane := none }).life :=
        congrArg Prod.fst hfate
      refine ⟨fun h => hlife.trans (bereft_life_drained s (hdrain.2 ⟨rfl, h⟩)),
        fun h => hlife.trans (bereft_life_undrained s fun hc => h (hdrain.1 hc).2), fun m hp hm => ?_⟩
      obtain ⟨hconfig, hstaged, hpending⟩ := bereft_image (r := { r with heldLane := none }) s hp hm
      exact ⟨(congrArg (fun f => f.2.2.2.1) hfate :).trans hconfig,
        (congrArg (fun f => f.2.2.2.2.1) hfate :).trans hstaged,
        (congrArg (fun f => f.2.2.2.2.2) hfate :).trans hpending⟩

end Sys2Proof.Proofs.TrunkLoss
